-- ==== Sys2Proof/Word.lean ====
section
/-! DEFINITION. The words of the part: bytes, frames, addresses, saturating counts. -/

namespace Sys2Proof

/-- A byte is eight bits (00, Conventions). -/
abbrev Byte := BitVec 8

/-- A frame, or a run of bytes of one, in the order of the wire. -/
abbrev Frame := List Byte

/-- An Ethernet address. -/
abbrev Mac := BitVec 48

/-- An IPv4 or IPv6 address; the constructor is the family. -/
inductive Addr where
  | v4 (a : BitVec 32)
  | v6 (a : BitVec 128)
deriving DecidableEq, Repr

/-- A saturating count moves by one and stays at its maximum (00, Counters and saturation). -/
def satBump {w : Nat} (c : BitVec w) : BitVec w :=
  if c = BitVec.allOnes w then c else c + 1#w

/-- A saturating count raised by another count of its width (R172). -/
def satPlus {w : Nat} (a b : BitVec w) : BitVec w :=
  BitVec.ofNat w (min (a.toNat + b.toNat) (2 ^ w - 1))

end Sys2Proof
end

