-- ==== Sys2Proof/Syntax.lean ====
section
/-! DEFINITION. The commands of the part: one constructor per row of spec/opcode_table.json. -/

namespace Sys2Proof

/-- A frame as the PHY hands it over, and how its reception ended (R22). The FCS check's outcome comes
with the frame: the spec names the check and not its function (log 3, DESIGN CHOICE). -/
structure LineReception where
  /-- The bytes from the first of the destination address through the last of the FCS. -/
  bytes : Frame
  /-- The FCS is correct. -/
  fcsGood : Bool
  /-- The PHY signalled a receive error during the frame. -/
  phyError : Bool
  /-- The reception was cut off because the link went down. -/
  cut : Bool
deriving DecidableEq, Repr

/-- A frame as the laptop's MAC hands it over, and how its reception ended (R178). -/
structure SystemReception where
  /-- The bytes from the first of the destination address through the last of the FCS. -/
  bytes : Frame
  /-- The FCS is correct. -/
  fcsGood : Bool
  /-- The MAC signalled an error. -/
  macError : Bool
  /-- A soft reset was taken while the frame was being received. -/
  resetDuring : Bool
deriving DecidableEq, Repr

/-- The commands. A control command's operands stand in the control frame at the head of the receive
FIFO (R179, R185); the constructor names the step in which the control unit takes it. -/
inductive Instr where
  | powerOnReset
  | softReset
  | identify
  | readStatus
  | writeConfig
  | readConfig
  | writeMatch
  | readMatch
  | writeIdentity
  | readIdentity
  | writeName
  | readName
  | writeSession
  | readSession
  | writeAlarm
  | readAlarm
  | clearTable
  | enterGuard
  | leaveGuard
  | readWakeRecord
  | readCounters
  | badControlFrame
  | unknownCommand
  | tick
  /-- The link status input turns to DOWN; the operand is the length received so far of a line frame in
  reception at that moment, if there is one (R22). -/
  | linkDown (receiving : Option Nat)
  | linkUp
  | systemReadyRise
  | systemReadyFall
  | lineFrameReceived (rx : LineReception)
  | sysFrameReceived (rx : SystemReception)
  | parseFrame
  | classifyFrame
  /-- The keepalive unit takes an expiry notice of the session with this index. -/
  | sessionTimerExpiry (session : Nat)
  /-- The timer bank takes the owner's answer for the timer with this index. -/
  | expiryAnswer (timer : Nat)
  /-- The alarm table takes an expiry notice of the alarm with this index. -/
  | alarmExpiry (alarm : Nat)
  | quietIntervalEnd
  /-- The wake controller takes the request at this place among those on their way (R154: in either
  order). -/
  | wakeRequest (place : Nat)
  | pulseEnd
  | resumeWindowEnd
  | holdAppend
  | lineTxGrant
  | lineTxDone
  | systemFrameDiscard
  | sysEgressGrant
  | sysDeliveryDone
deriving DecidableEq, Repr

end Sys2Proof
end

