-- ==== Sys2Proof/Decode.lean ====
section
/-! DEFINITION. The command that a word of the opcode table spells. No row of spec/opcode_table.json
gives bits: the part has no instruction words, and a control command arrives as a frame. -/

namespace Sys2Proof

/-- The command a word spells by the table's bits: none for every word, since no row gives bits. -/
def decodeTableWord (_nbits _w : Nat) : Option Instr := none

end Sys2Proof
end

