-- ==== Sys2Proof/Config.lean ====
section
/-! DEFINITION. What the part fixes for good: its capacities and its own addresses. The spec leaves no
result of a step open, so there is no free value here. -/

namespace Sys2Proof.Config

/-- The number of match entries (R41). -/
def matchEntries : Nat := 48
/-- The number of identities (R60). -/
def identityEntries : Nat := 12
/-- The number of names (R86). -/
def nameEntries : Nat := 4
/-- The number of sessions (R97). -/
def sessionEntries : Nat := 8
/-- The number of alarms (R150). -/
def alarmEntries : Nat := 4
/-- The number of timers (R145). -/
def timerCount : Nat := 12
/-- The number of reply slots (R124). -/
def replySlots : Nat := 4
/-- The size of a reply slot in bytes (R124). -/
def slotBytes : Nat := 384
/-- The number of hold blocks (R169). -/
def holdBlocks : Nat := 64
/-- The most records the hold queue lists (R169). -/
def holdRecords : Nat := 64
/-- The size of a hold block in bytes (R169). -/
def blockBytes : Nat := 256
/-- The number of event counters (R194). -/
def counterCount : Nat := 35
/-- The places of the guard-path input FIFO (R31). -/
def guardFifoPlaces : Nat := 16
/-- The places of the receive FIFO (R178). -/
def receivePlaces : Nat := 2
/-- The places of the forward FIFO (R180). -/
def forwardPlaces : Nat := 2
/-- The vendor code (R189). -/
def vendorCode : Nat := 0x0B5C
/-- The part code (R189). -/
def partCode : Nat := 0x2214
/-- The revision (R189). -/
def revision : Nat := 1
/-- The tick rate per second (R189). -/
def ticksPerSecond : Nat := 16
/-- The control EtherType (R184). -/
def controlType : Nat := 0x88B5
/-- The control address, source of every response and notice (R187). -/
def controlMac : Mac := 0x02BC56A00001
/-- The broadcast address. -/
def broadcastMac : Mac := 0xFFFFFFFFFFFF
/-- The IPv6 all-nodes MAC (R33). -/
def allNodesMac : Mac := 0x333300000001
/-- The IPv6 all-nodes address ff02::1 (R74). -/
def allNodesV6 : BitVec 128 := 0xFF020000000000000000000000000001

end Sys2Proof.Config
end

