-- ==== Sys2Proof/Machine/Bytes.lean ====
section
/-! DEFINITION. Reading and writing big-endian fields of frames, the ones'-complement arithmetic, and the
kinds of address the rules name. -/

namespace Sys2Proof.Machine

/-! ### Fields of a run of bytes -/

/-- The byte at an offset; past the end it reads 0. -/
def byteAt (b : Frame) (i : Nat) : Nat := (b.getD i 0).toNat

/-- The big-endian number in the `n` bytes at an offset (00, Bytes and order). -/
def beNat (b : Frame) : Nat → Nat → Nat
  | _, 0 => 0
  | i, n + 1 => byteAt b i * 256 ^ n + beNat b (i + 1) n

/-- The `n` bytes at an offset. -/
def slice (b : Frame) (i n : Nat) : Frame := (b.drop i).take n

/-- A number as `k` bytes, most significant first. -/
def toBytes : Nat → Nat → Frame
  | 0, _ => []
  | k + 1, n => BitVec.ofNat 8 (n / 256 ^ k) :: toBytes k n

/-- The Ethernet address at an offset. -/
def macAt (b : Frame) (i : Nat) : Mac := BitVec.ofNat 48 (beNat b i 6)

/-- The IPv4 address at an offset. -/
def v4At (b : Frame) (i : Nat) : BitVec 32 := BitVec.ofNat 32 (beNat b i 4)

/-- The IPv6 address at an offset. -/
def v6At (b : Frame) (i : Nat) : BitVec 128 := BitVec.ofNat 128 (beNat b i 16)

/-- An Ethernet address as six bytes. -/
def macBytes (m : Mac) : Frame := toBytes 6 m.toNat

/-- An IP address as its four or sixteen bytes. -/
def addrBytes : Addr → Frame
  | .v4 a => toBytes 4 a.toNat
  | .v6 a => toBytes 16 a.toNat

/-- A run of bytes with zero bytes appended until it is `n` long. -/
def padTo (n : Nat) (b : Frame) : Frame := b ++ List.replicate (n - b.length) 0

/-! ### The Ethernet header (2.1, R24, R184) -/

/-- A frame is tagged when the two bytes after its source address are 0x8100 (2.1). -/
def isTagged (b : Frame) : Bool := beNat b 12 2 == 0x8100

/-- The VID of a tagged frame: the tag's low twelve bits (2.1). -/
def vidOf (b : Frame) : Nat := beNat b 14 2 % 4096

/-- The offset of what follows the Ethernet header and tag. -/
def l3Offset (b : Frame) : Nat := if isTagged b then 18 else 14

/-- The EtherType after any tag (R32, R184). -/
def etherType (b : Frame) : Nat := if isTagged b then beNat b 16 2 else beNat b 12 2

/-- A control frame has the control EtherType (R184). -/
def isControl (b : Frame) : Bool := etherType b == Config.controlType

/-! ### Ones'-complement arithmetic (R133) -/

/-- The sum of a run's 16-bit big-endian words; an odd last byte is a high byte (R133, steps 1 and 2). -/
def wordSum : Frame → Nat
  | a :: b :: r => a.toNat * 256 + b.toNat + wordSum r
  | [a] => a.toNat * 256
  | [] => 0

/-- Carries out of the lowest 16 bits are added back until the number fits (R133, step 3); the first
argument bounds the rounds. -/
def foldCarries : Nat → Nat → Nat
  | 0, n => n
  | fuel + 1, n => if n < 65536 then n else foldCarries fuel (n / 65536 + n % 65536)

/-- The folded number: each round makes a number of 65,536 or more smaller, so `n` rounds suffice. -/
def fold16 (n : Nat) : Nat := foldCarries n n

/-- The ones'-complement sum of a run of bytes (R133). -/
def onesSum (b : Frame) : Nat := fold16 (wordSum b)

/-- The checksum of a run whose checksum field is 0: 0xFFFF minus the sum (R133). -/
def checksum (b : Frame) : Nat := 0xFFFF - onesSum b

/-- A run with its checksum field in place is good when its sum is 0xFFFF (R67, R80, R89, R111). -/
def sumGood (b : Frame) : Bool := onesSum b == 0xFFFF

/-- The pseudo-header of a TCP, UDP or ICMPv6 message of `len` bytes (R133). -/
def pseudoHeader (src dst : Addr) (len proto : Nat) : Frame :=
  match src with
  | .v4 _ => addrBytes src ++ addrBytes dst ++ [0, BitVec.ofNat 8 proto] ++ toBytes 2 len
  | .v6 _ => addrBytes src ++ addrBytes dst ++ toBytes 4 len ++ [0, 0, 0, BitVec.ofNat 8 proto]

/-! ### Kinds of address -/

/-- The group bit of an Ethernet address: the lowest bit of its first byte. -/
def isGroupMac (m : Mac) : Bool := m.getLsbD 40

/-- An IPv4 multicast address, 224.0.0.0 to 239.255.255.255 (R38). -/
def isMulticast4 (a : BitVec 32) : Bool := a.toNat / 2 ^ 28 == 14

/-- An IPv6 multicast address: first byte 0xFF (R38). -/
def isMulticast6 (a : BitVec 128) : Bool := a.toNat / 2 ^ 120 == 0xFF

/-- An address of multicast or IPv4 broadcast (R38). -/
def isGroupAddr : Addr → Bool
  | .v4 a => isMulticast4 a || a == 0xFFFFFFFF
  | .v6 a => isMulticast6 a

/-- The unspecified address of a family. -/
def isUnspecified : Addr → Bool
  | .v4 a => a == 0
  | .v6 a => a == 0

/-- A source address that a reply can be sent to (R81). -/
def canReceive (a : Addr) : Bool := !isGroupAddr a && !isUnspecified a

/-- An address that an identity or a peer may hold: as R81, and not the IPv6 loopback (R62, R100). -/
def isHostAddr (a : Addr) : Bool := canReceive a && a != .v6 1

/-- Two addresses of one family. -/
def sameFamily : Addr → Addr → Bool
  | .v4 _, .v4 _ => true
  | .v6 _, .v6 _ => true
  | _, _ => false

/-- The MAC of an IP group address: 01-00-5E and the low 23 bits, or 33-33 and the last four bytes (R33). -/
def groupMac : Addr → Mac
  | .v4 a => BitVec.ofNat 48 (0x01005E000000 + a.toNat % 2 ^ 23)
  | .v6 a => BitVec.ofNat 48 (0x333300000000 + a.toNat % 2 ^ 32)

/-- The solicited-node MAC of an IPv6 address: 33-33-FF and its last three bytes (R33). -/
def solicitedMac (a : BitVec 128) : Mac := BitVec.ofNat 48 (0x3333FF000000 + a.toNat % 2 ^ 24)

end Sys2Proof.Machine
end

