-- ==== Sys2Proof/Machine/State.lean ====
section
/-! DEFINITION. Everything the spec gives the part to hold, as plain data, block by block, and its value
after a power-on reset. -/

namespace Sys2Proof.Machine

/-! ### Enumerations of the spec -/

/-- The device mode (R1). -/
inductive Mode where
  | pass | guard | waking | drain
deriving DecidableEq, Repr

/-- The wake line's sub-state (R13). -/
inductive WakeSub where
  | idle | asserted | gap | resumed | unanswered
deriving DecidableEq, Repr

/-- The configured wake mode (R191). -/
inductive WakeMode where
  | level | pulse
deriving DecidableEq, Repr

/-- What becomes of a frame: a fallback (R41); WAKE is no default verdict (R45). -/
inductive Disposal where
  | drop | hold | wake
deriving DecidableEq, Repr

/-- A match entry's action (R41). -/
inductive Action where
  | drop | hold | wake | answerAddress | answerEcho | answerName | answerSession
deriving DecidableEq, Repr

/-- An identity's state (R61). -/
inductive IdentityState where
  | ready | conflicted
deriving DecidableEq, Repr

/-- A session's state (R99). -/
inductive SessionState where
  | empty | armed | alive | probing | handed | ended | dead | detached
deriving DecidableEq, Repr

/-- A timer's state (R145). -/
inductive TimerState where
  | stopped | running | frozen
deriving DecidableEq, Repr

/-- Whether a timer or an alarm reloads after an expiry (R145, R150). -/
inductive TimerMode where
  | oneShot | periodic
deriving DecidableEq, Repr

/-- An alarm's state (R150). -/
inductive AlarmState where
  | idle | running | fired
deriving DecidableEq, Repr

/-- A reply slot's state (R124). -/
inductive SlotState where
  | free | queued | sending
deriving DecidableEq, Repr

/-- Where a built frame goes (R124). -/
inductive SlotDest where
  | line | notice
deriving DecidableEq, Repr

/-- What a built frame is (R124). -/
inductive ReplyKind where
  | answer | defence | probe | ack
deriving DecidableEq, Repr

/-- The pressure state; LOCKED is the latched lock (R155). -/
inductive PressureState where
  | openState | warned | restrained | locked
deriving DecidableEq, Repr

/-- A wake request's cause (R154, R165). -/
inductive WakeCause where
  | frameMatch | fallback | sessionData | sessionEnd | sessionDead | addressConflict | linkLost | alarm
  | deferred
deriving DecidableEq, Repr

/-- Why the hold queue keeps a frame (R170). -/
inductive Origin where
  | trigger | suppressed | held | follower | drained
deriving DecidableEq, Repr

/-- The two sources of the line transmit arbiter (R137). -/
inductive LineSource where
  | reply | system
deriving DecidableEq, Repr

/-- The two streams of the system egress arbiter (R181). -/
inductive EgressStream where
  | data | control
deriving DecidableEq, Repr

/-- The thirty-five counters, in the order of their indices (R194). -/
inductive Counter where
  | rxGood | rxFcs | rxRunt | rxLong | rxVlanForeign | parseShort | parseBadsum | l4Badsum | matchNone
  | answerArp | answerNd | answerEcho | answerName | acksSent | probesSent | replySkipped
  | replyDiscarded | conflicts | wakes | wakeSuppressed | wakeBelow | wakeUnanswered | resumeLate
  | holdEvicted | holdClipped | holdLost | sysRxDropped | fwdDropped | lineTxDropped | sysBadControl
  | rstIgnored | ackInvalid | outOfWindow | rehearsalWakes | parseOverrun
deriving DecidableEq, Repr

/-! ### Mode controller and line port -/

/-- The mode controller (R1, R13). A countdown is `none` while stopped; `some 0` has ended and waits for
its end step (log 6). -/
structure ModeCtl where
  mode : Mode
  /-- The wake line's level: active or not. -/
  active : Bool
  sub : WakeSub
  retry : Nat
  pulse : Option Nat
  window : Option Nat
deriving DecidableEq, Repr

/-- The line port (R26, R27). -/
structure LinePort where
  /-- The live link state: UP or not. -/
  up : Bool
  /-- The link-lost latch. -/
  lost : Bool
deriving DecidableEq, Repr

/-! ### Parser and classifier -/

/-- DCLASS (R32). -/
inductive DClass where
  | own | broadcast | listed | other | foreign
deriving DecidableEq, Repr

/-- L3KIND (R32). -/
inductive L3Kind where
  | none | arp | ipv4 | ipv6 | other
deriving DecidableEq, Repr

/-- FRAG (R35, R36). -/
inductive Frag where
  | whole | first | later
deriving DecidableEq, Repr

/-- PSTATUS (R31 to R37). -/
inductive PStatus where
  | ok | short | badHdrSum | deep | other | badLen
deriving DecidableEq, Repr

/-- The field vector: sixteen fields (2.3). -/
structure FieldVector where
  dclass : DClass
  etype : Nat
  l3kind : L3Kind
  dstid : Nat
  proto : Nat
  sport : Nat
  dport : Nat
  tcpflags : Nat
  icmptype : Nat
  arpop : Nat
  session : Nat
  l4len : Nat
  lead : Nat
  frag : Frag
  pstatus : PStatus
  src4 : Nat
deriving DecidableEq, Repr

/-- Header positions: the offsets of the network-layer header, of the transport header and of the bytes
after it (R31). -/
structure Positions where
  l3 : Nat
  l4 : Nat
  pay : Nat
deriving DecidableEq, Repr

/-- How a frame came to the guard-path input FIFO (R31). -/
inductive Path where
  /-- It passed the receive checks in GUARD or WAKING. -/
  | guardPath
  /-- A rehearsal copy made in PASS. -/
  | copy
  /-- It passed the receive checks in DRAIN behind a pending guard-path frame. -/
  | drained
deriving DecidableEq, Repr

/-- A frame waiting in the guard-path input FIFO. -/
structure GuardItem where
  bytes : Frame
  arrival : BitVec 32
  path : Path
deriving DecidableEq, Repr

/-- A frame handed to the classifier with its field vector and header positions (R31, R46). -/
structure ParsedFrame where
  bytes : Frame
  arrival : BitVec 32
  path : Path
  fv : FieldVector
  pos : Positions
deriving DecidableEq, Repr

/-- The guard path's state: the input FIFO, the frame at the classifier and the LISTED set. -/
structure GuardPath where
  fifo : List GuardItem
  parsed : Option ParsedFrame
  listed : List Mac
deriving DecidableEq, Repr

/-! ### The driver's tables -/

/-- A present match term (R41, R42). -/
structure Term where
  field : Nat
  value : BitVec 32
  mask : BitVec 32
deriving DecidableEq, Repr

/-- A match entry (R41). -/
structure MatchEntry where
  valid : Bool
  terms : List (Option Term)
  action : Action
  cls : Nat
  fallback : Disposal
  hits : BitVec 32
deriving DecidableEq, Repr

/-- An identity (R60). -/
structure Identity where
  valid : Bool
  addr : Addr
  answerResolution : Bool
  answerEcho : Bool
  defend : Bool
  cls : Nat
  state : IdentityState
  conflicts : BitVec 8
deriving DecidableEq, Repr

/-- A name (R86). -/
structure NameEntry where
  valid : Bool
  name : Frame
  idset : BitVec 12
  ttl : Nat
  answers : BitVec 32
deriving DecidableEq, Repr

/-- A session's timestamp part (R97). -/
structure TsPart where
  base : BitVec 32
  echo : BitVec 32
  rate : Nat
deriving DecidableEq, Repr

/-- A session: the loaded fields of R97, then the runtime fields of R98. The family is that of the remote
address. -/
structure Session where
  valid : Bool
  localId : Nat
  localPort : Nat
  remote : Addr
  remotePort : Nat
  nextHop : Mac
  snd : BitVec 32
  rcv : BitVec 32
  window : BitVec 16
  idle : Nat
  retry : Nat
  missLimit : Nat
  dataCls : Nat
  endCls : Nat
  deadCls : Nat
  ts : Option TsPart
  state : SessionState
  miss : Nat
  lastPeer : BitVec 32
  probesSent : BitVec 16
  acksSent : BitVec 16
deriving DecidableEq, Repr

/-! ### Reply builder, line transmit arbiter, timer bank -/

/-- A reply slot (R124). -/
structure Slot where
  state : SlotState
  dest : SlotDest
  kind : ReplyKind
  session : Option Nat
  frame : Frame
deriving DecidableEq, Repr

/-- A FREE slot; its other fields have no meaning (R124, log 13). -/
def Slot.empty : Slot := ⟨.free, .line, .answer, none, []⟩

/-- The reply builder (R124, R130). -/
structure ReplyBuilder where
  slots : List Slot
  /-- The reply queue: QUEUED slots of destination LINE, oldest first. -/
  queue : List Nat
  /-- The notice order: slots of destination NOTICE, oldest first. -/
  notices : List Nat
  ipId : BitVec 16
deriving DecidableEq, Repr

/-- What the line port's transmitter is sending (R137). -/
inductive LineTx where
  | reply (slot : Nat)
  | system (frame : Frame)
deriving DecidableEq, Repr

/-- The line transmit arbiter (R137). -/
structure LineArb where
  tx : Option LineTx
  last : LineSource
deriving DecidableEq, Repr

/-- A timer (R145). -/
structure Timer where
  state : TimerState
  count : Nat
  reload : Nat
  staged : Option Nat
  mode : TimerMode
  outstanding : Bool
deriving DecidableEq, Repr

/-- An expiry notice on its way to the timer's owner: the index, and whether a reload was staged (R147). -/
structure ExpiryNotice where
  timer : Nat
  staged : Bool
deriving DecidableEq, Repr

/-- An alarm (R150). -/
structure Alarm where
  valid : Bool
  count : Nat
  mode : TimerMode
  cls : Nat
  state : AlarmState
deriving DecidableEq, Repr

/-- The time base and timer bank (R143 to R150). -/
structure TimerBank where
  tick : BitVec 32
  elapsed : BitVec 32
  timers : List Timer
  notices : List ExpiryNotice
  answers : List Nat
  alarms : List Alarm
deriving DecidableEq, Repr

/-! ### Wake controller and hold queue -/

/-- A frame on its way to the laptop with the tick of its arrival (R170). -/
structure HeldFrame where
  bytes : Frame
  arrival : BitVec 32
deriving DecidableEq, Repr

/-- A wake request (R154). -/
structure WakeRequest where
  cls : Nat
  cause : WakeCause
  source : Nat
  frame : Option HeldFrame
  rehearsal : Bool
deriving DecidableEq, Repr

/-- A captured wake record (R165). -/
structure WakeRecord where
  cause : WakeCause
  cls : Nat
  source : Nat
  tick : BitVec 32
  elapsed : BitVec 32
  pressure : Nat
  trigger : Option (BitVec 16)
  later : BitVec 8
deriving DecidableEq, Repr

/-- The wake controller (R154, R155, R159, R161, R165). -/
structure WakeCtl where
  pressure : Nat
  pstate : PressureState
  quiet : Nat
  /-- A tick that completes a quiet interval and is not yet taken (log 6). -/
  tickHeld : Bool
  deferred : Nat
  record : Option WakeRecord
  /-- Requests on their way to the wake controller (log 5). -/
  requests : List WakeRequest
deriving DecidableEq, Repr

/-- A record of the hold queue (R170). -/
structure HoldRecord where
  serial : BitVec 16
  origin : Origin
  arrival : BitVec 32
  original : Nat
  stored : Nat
  lossAfter : BitVec 8
  blocks : List Nat
deriving DecidableEq, Repr

/-- A frame handed to the hold queue (R171). -/
structure HoldHandover where
  frame : HeldFrame
  origin : Origin
deriving DecidableEq, Repr

/-- How far the delivery of the head record is (R174). `idle`: no record in delivery. Otherwise the item
in hand: the lead loss ahead of the head, the head's record notice, its frame item, its loss. -/
inductive HoldStage where
  | idle | lead | notice | frame | loss
deriving DecidableEq, Repr

/-- The hold queue (R169). -/
structure HoldQueue where
  /-- What each of the 64 blocks holds. -/
  pool : List Frame
  records : List HoldRecord
  serial : BitVec 16
  leadCount : BitVec 8
  leadSerial : Option (BitVec 16)
  stage : HoldStage
  /-- Frames handed over and not yet appended (log 5). -/
  appends : List HoldHandover
deriving DecidableEq, Repr

/-! ### System port and control unit -/

/-- What an item on the link toward the laptop is (R181). -/
inductive EgressItem where
  | forward
  | holdLead
  | holdNotice
  | holdFrame
  | holdLoss
  | response
  | rehearsal (slot : Nat)
deriving DecidableEq, Repr

/-- An item being sent to the laptop, with its bytes (without FCS). -/
structure EgressTx where
  item : EgressItem
  bytes : Frame
deriving DecidableEq, Repr

/-- The system port (R178, R180, R181). -/
structure SysPort where
  /-- The level of the system-ready line: high or not. -/
  ready : Bool
  rx : List Frame
  fwd : List Frame
  tx : Option EgressTx
  last : EgressStream
deriving DecidableEq, Repr

/-- The configuration record (R191). -/
structure ConfigRecord where
  hostMac : Mac
  vid : Nat
  pcp : Nat
  defaultHold : Bool
  baseThreshold : Nat
  restraint : Nat
  limW : Nat
  limS : Nat
  limL : Nat
  limH : Nat
  weights : List Nat
  quietInterval : Nat
  suppressDrop : Bool
  wakeMode : WakeMode
  pulseWidth : Nat
  retryLimit : Nat
  resumeWindow : Nat
  linkLostCls : Nat
  ttl : Nat
  hopLimit : Nat
  rehearsal : Bool
  namePort : Nat
  group4 : BitVec 32
  group6 : BitVec 128
  extraMacs : List Mac
deriving DecidableEq, Repr

/-- The control unit (R185, R191, R194). -/
structure ControlUnit where
  cfg : ConfigRecord
  response : Option Frame
  counters : List (BitVec 32)
deriving DecidableEq, Repr

/-- The whole part, with the queue of the commands that wait. -/
structure State where
  pending : List Instr
  modeCtl : ModeCtl
  linePort : LinePort
  guardPath : GuardPath
  matchTable : List MatchEntry
  identities : List Identity
  names : List NameEntry
  sessions : List Session
  probes : List Nat
  reply : ReplyBuilder
  arb : LineArb
  bank : TimerBank
  wake : WakeCtl
  hold : HoldQueue
  sys : SysPort
  ctl : ControlUnit
deriving DecidableEq, Repr

/-- Why the part stops: it never does. A frame or command it cannot use is dropped, counted or answered
with a status, so this type has no constructor. -/
inductive Fault
deriving DecidableEq, Repr

/-- Why a command has no meaning. -/
inductive Refusal where
  /-- Raised by `exec` for a command of the table that the model gives no meaning; safe. No arm raises it. -/
  | notModelled (mnemonic : String)
deriving DecidableEq, Repr

/-! ### Power-on values -/

/-- A match entry after power-on (R41). -/
def MatchEntry.powerOn : MatchEntry := ⟨false, [none, none, none, none], .drop, 0, .drop, 0⟩

/-- An identity after power-on (R60). -/
def Identity.powerOn : Identity := ⟨false, .v4 0, false, false, false, 0, .ready, 0⟩

/-- A name entry after power-on (R86). -/
def NameEntry.powerOn : NameEntry := ⟨false, [], 0, 120, 0⟩

/-- A session after power-on (R97, R98). -/
def Session.powerOn : Session where
  valid := false
  localId := 0
  localPort := 0
  remote := .v4 0
  remotePort := 0
  nextHop := 0
  snd := 0
  rcv := 0
  window := 0
  idle := 4800
  retry := 160
  missLimit := 4
  dataCls := 0
  endCls := 0
  deadCls := 0
  ts := none
  state := .empty
  miss := 0
  lastPeer := 0
  probesSent := 0
  acksSent := 0

/-- A timer after power-on (R145). -/
def Timer.powerOn : Timer := ⟨.stopped, 0, 1, none, .oneShot, false⟩

/-- An alarm after power-on (R150). -/
def Alarm.powerOn : Alarm := ⟨false, 960, .oneShot, 1, .idle⟩

/-- The configuration record after power-on (R191). -/
def ConfigRecord.powerOn : ConfigRecord where
  hostMac := 0
  vid := 0
  pcp := 0
  defaultHold := false
  baseThreshold := 1
  restraint := 5
  limW := 96
  limS := 192
  limL := 384
  limH := 128
  weights := [16, 16, 16, 16, 16, 16, 16, 16]
  quietInterval := 960
  suppressDrop := false
  wakeMode := .level
  pulseWidth := 8
  retryLimit := 3
  resumeWindow := 480
  linkLostCls := 7
  ttl := 64
  hopLimit := 64
  rehearsal := false
  namePort := 5353
  group4 := 0xE00000FB
  group6 := 0xFF0200000000000000000000000000FB
  extraMacs := []

/-- The wake line at rest: inactive, IDLE, retry count 0, both countdowns stopped (R13). -/
def ModeCtl.atRest (m : Mode) : ModeCtl := ⟨m, false, .idle, 0, none, none⟩

/-- The wake controller after power-on (R155, R159, R161, R165). -/
def WakeCtl.powerOn : WakeCtl := ⟨0, .openState, 0, false, 0, none, []⟩

/-- The hold queue after power-on (R169). -/
def HoldQueue.powerOn : HoldQueue := ⟨List.replicate 64 [], [], 0, 0, none, .idle, []⟩

/-- Every state of the part at its power-on value (R196). The level of system-ready, an input, is low
here (log 7, DESIGN CHOICE), and the hold blocks are empty (log 14, DESIGN CHOICE). -/
def State.reset : State where
  pending := []
  modeCtl := ModeCtl.atRest .pass
  linePort := ⟨false, false⟩
  guardPath := ⟨[], none, [0x333300000001, 0x01005E0000FB, 0x3333000000FB]⟩
  matchTable := List.replicate 48 MatchEntry.powerOn
  identities := List.replicate 12 Identity.powerOn
  names := List.replicate 4 NameEntry.powerOn
  sessions := List.replicate 8 Session.powerOn
  probes := []
  reply := ⟨List.replicate 4 Slot.empty, [], [], 0⟩
  arb := ⟨none, .system⟩
  bank := ⟨0, 0, List.replicate 12 Timer.powerOn, [], [], List.replicate 4 Alarm.powerOn⟩
  wake := WakeCtl.powerOn
  hold := HoldQueue.powerOn
  sys := ⟨false, [], [], none, .control⟩
  ctl := ⟨ConfigRecord.powerOn, none, List.replicate 35 0⟩

end Sys2Proof.Machine
end

