-- ==== Sys2Proof/Machine/Ops.lean ====
section
/-! DEFINITION. The named operations that the blocks share: updates of one block's state, the counters, the
three requests of a timer's owner, the wake requests on their way, what is pending on the guard path. -/

namespace Sys2Proof.Machine

/-- The outcome of a command. -/
abbrev Result := Host.Outcome State Fault Refusal

/-! ### One block's state replaced -/

/-- The queue of waiting commands replaced. -/
def State.setPending (s : State) (x : List Instr) : State := { s with pending := x }
/-- The mode controller's state replaced. -/
def State.setModeCtl (s : State) (x : ModeCtl) : State := { s with modeCtl := x }
/-- The line port's state replaced. -/
def State.setLinePort (s : State) (x : LinePort) : State := { s with linePort := x }
/-- The guard path's state replaced. -/
def State.setGuardPath (s : State) (x : GuardPath) : State := { s with guardPath := x }
/-- The match table replaced. -/
def State.setMatchTable (s : State) (x : List MatchEntry) : State := { s with matchTable := x }
/-- The identity table replaced. -/
def State.setIdentities (s : State) (x : List Identity) : State := { s with identities := x }
/-- The name table replaced. -/
def State.setNames (s : State) (x : List NameEntry) : State := { s with names := x }
/-- The session table replaced. -/
def State.setSessions (s : State) (x : List Session) : State := { s with sessions := x }
/-- The pending-probe list replaced. -/
def State.setProbes (s : State) (x : List Nat) : State := { s with probes := x }
/-- The reply builder's state replaced. -/
def State.setReply (s : State) (x : ReplyBuilder) : State := { s with reply := x }
/-- The line transmit arbiter's state replaced. -/
def State.setArb (s : State) (x : LineArb) : State := { s with arb := x }
/-- The timer bank's state replaced. -/
def State.setBank (s : State) (x : TimerBank) : State := { s with bank := x }
/-- The wake controller's state replaced. -/
def State.setWake (s : State) (x : WakeCtl) : State := { s with wake := x }
/-- The hold queue's state replaced. -/
def State.setHold (s : State) (x : HoldQueue) : State := { s with hold := x }
/-- The system port's state replaced. -/
def State.setSys (s : State) (x : SysPort) : State := { s with sys := x }
/-- The control unit's state replaced. -/
def State.setCtl (s : State) (x : ControlUnit) : State := { s with ctl := x }

/-! ### Counters (R194) -/

/-- A counter's index (R194). -/
def Counter.index : Counter → Nat
  | .rxGood => 0 | .rxFcs => 1 | .rxRunt => 2 | .rxLong => 3 | .rxVlanForeign => 4
  | .parseShort => 5 | .parseBadsum => 6 | .l4Badsum => 7 | .matchNone => 8 | .answerArp => 9
  | .answerNd => 10 | .answerEcho => 11 | .answerName => 12 | .acksSent => 13 | .probesSent => 14
  | .replySkipped => 15 | .replyDiscarded => 16 | .conflicts => 17 | .wakes => 18
  | .wakeSuppressed => 19 | .wakeBelow => 20 | .wakeUnanswered => 21 | .resumeLate => 22
  | .holdEvicted => 23 | .holdClipped => 24 | .holdLost => 25 | .sysRxDropped => 26
  | .fwdDropped => 27 | .lineTxDropped => 28 | .sysBadControl => 29 | .rstIgnored => 30
  | .ackInvalid => 31 | .outOfWindow => 32 | .rehearsalWakes => 33 | .parseOverrun => 34

/-- A counter's value. -/
def State.counter (s : State) (c : Counter) : BitVec 32 := s.ctl.counters.getD c.index 0

/-- A counter incremented, saturating (R194). -/
def bump (c : Counter) (s : State) : State :=
  s.setCtl { s.ctl with counters := s.ctl.counters.modify c.index satBump }

/-- A counter incremented when a condition holds. -/
def bumpIf (p : Bool) (c : Counter) (s : State) : State := if p then bump c s else s

/-! ### The mode -/

/-- Guard: the modes GUARD and WAKING (00, Terms). -/
def inGuard (s : State) : Bool := s.modeCtl.mode == .guard || s.modeCtl.mode == .waking

/-- The modes that admit table and configuration writes (R3). -/
def admitsWrites (s : State) : Bool := s.modeCtl.mode == .pass || s.modeCtl.mode == .drain

/-- The device mode set. -/
def setMode (m : Mode) (s : State) : State := s.setModeCtl { s.modeCtl with mode := m }

/-! ### Table entries -/

/-- The identity at an index; past the table's end, an invalid one. -/
def State.identity (s : State) (i : Nat) : Identity := s.identities.getD i Identity.powerOn

/-- The session at an index; past the table's end, an EMPTY one. -/
def State.session (s : State) (i : Nat) : Session := s.sessions.getD i Session.powerOn

/-- The timer at an index; past the bank's end, a STOPPED one. -/
def State.timer (s : State) (i : Nat) : Timer := s.bank.timers.getD i Timer.powerOn

/-- The alarm at an index; past the table's end, an invalid one. -/
def State.alarm (s : State) (i : Nat) : Alarm := s.bank.alarms.getD i Alarm.powerOn

/-- The reply slot at an index; past the last, a FREE one. -/
def State.slot (s : State) (i : Nat) : Slot := s.reply.slots.getD i Slot.empty

/-- An identity changed in place. -/
def modifyIdentity (i : Nat) (f : Identity → Identity) (s : State) : State :=
  s.setIdentities (s.identities.modify i f)

/-- A session changed in place. -/
def modifySession (i : Nat) (f : Session → Session) (s : State) : State :=
  s.setSessions (s.sessions.modify i f)

/-- A timer changed in place. -/
def modifyTimer (i : Nat) (f : Timer → Timer) (s : State) : State :=
  s.setBank { s.bank with timers := s.bank.timers.modify i f }

/-- An alarm changed in place. -/
def modifyAlarm (i : Nat) (f : Alarm → Alarm) (s : State) : State :=
  s.setBank { s.bank with alarms := s.bank.alarms.modify i f }

/-- A session is running while it is ALIVE or PROBING (R99). -/
def Session.running (x : Session) : Bool := x.state == .alive || x.state == .probing

/-! ### The timer bank's requests (R146) -/

/-- Timers 0..7 are gated by the line link, timers 8..11 are not (R145). -/
def gated (i : Nat) : Bool := decide (i < 8)

/-- The timer of an alarm (R150). -/
def alarmTimer (n : Nat) : Nat := 8 + n

/-- Start: the timer takes the count, the mode and the reload; it is FROZEN if gated and the link is down,
RUNNING otherwise. Any outstanding expiry is forgotten, and with it a notice or an answer still on its way
(R146, log 16). -/
def startTimer (i count reload : Nat) (mode : TimerMode) (s : State) : State :=
  let state := if gated i && !s.linePort.up then TimerState.frozen else .running
  s.setBank
    { s.bank with
      timers := s.bank.timers.modify i fun _ => ⟨state, count, reload, none, mode, false⟩
      notices := s.bank.notices.filter fun n => n.timer != i
      answers := s.bank.answers.filter fun t => t != i }

/-- Stage: on a RUNNING or FROZEN timer the value becomes the staged reload; on a STOPPED one nothing
happens (R146). -/
def stageTimer (i v : Nat) (s : State) : State :=
  modifyTimer i (fun t => if t.state = .stopped then t else { t with staged := some v }) s

/-- A timer stopped: no staged reload, no outstanding expiry; the count keeps its value (R146). -/
def Timer.stop (t : Timer) : Timer := { t with state := .stopped, staged := none, outstanding := false }

/-- Stop (R146). -/
def stopTimer (i : Nat) (s : State) : State := modifyTimer i Timer.stop s

/-- Every timer stopped (R149). -/
def stopAllTimers (s : State) : State :=
  s.setBank { s.bank with timers := s.bank.timers.map Timer.stop }

/-- What the owner's answer makes of a timer (R147): nothing if it is STOPPED or no expiry is outstanding;
ONE_SHOT stops it; PERIODIC reloads it from the staged reload or the reload. -/
def Timer.answered (t : Timer) : Timer :=
  if t.state = .stopped || !t.outstanding then t
  else
    match t.mode, t.staged with
    | .oneShot, _ => t.stop
    | .periodic, some v => { t with count := v, reload := v, staged := none, outstanding := false }
    | .periodic, none => { t with count := t.reload, outstanding := false }

/-! ### Requests on their way and the guard path -/

/-- A wake request sent to the wake controller (R154). -/
def sendRequest (r : WakeRequest) (s : State) : State :=
  s.setWake { s.wake with requests := s.wake.requests ++ [r] }

/-- A frame handed to the hold queue with an origin (R171). -/
def handToHold (origin : Origin) (f : HeldFrame) (s : State) : State :=
  s.setHold { s.hold with appends := s.hold.appends ++ [⟨f, origin⟩] }

/-- A request that carries a frame of the guard path itself, not a rehearsal copy. -/
def WakeRequest.carriesGuardFrame (r : WakeRequest) : Bool := r.frame.isSome && !r.rehearsal

/-- A guard-path frame is pending: its verdict is not yet carried out (R11). It waits in the input FIFO or
at the classifier, or the wake controller or the hold queue has still to take it (log 10). -/
def guardPending (s : State) : Bool :=
  s.guardPath.fifo.any (fun g => g.path == .guardPath)
    || s.guardPath.parsed.any (fun p => p.path == .guardPath)
    || s.wake.requests.any WakeRequest.carriesGuardFrame
    || s.hold.appends.any (fun a => a.origin != .drained)

/-- A frame that passed the receive checks in DRAIN waits in the input FIFO or for its append (R31). -/
def drainedWaiting (s : State) : Bool :=
  s.guardPath.fifo.any (fun g => g.path == .drained)
    || s.hold.appends.any (fun a => a.origin == .drained)

/-- The end of DRAIN: with no record held, no guard-path frame pending and no line frame waiting, the mode
becomes PASS (R12). -/
def endDrain (s : State) : State :=
  if s.modeCtl.mode = .drain && s.hold.records.isEmpty && !guardPending s && !drainedWaiting s then
    setMode .pass s
  else s

/-- The link indication that the system port shows the laptop's MAC (R30). -/
def linkIndication (s : State) : Bool := s.linePort.up || s.modeCtl.mode != .pass

/-! ### The LISTED set (R33) -/

/-- The LISTED set derived from the identities, the name groups and the extra MACs, each MAC held once. -/
def deriveListed (ids : List Identity) (c : ConfigRecord) : List Mac :=
  ((Config.allNodesMac
      :: ids.filterMap fun i =>
          match i.valid, i.addr with
          | true, .v6 a => some (solicitedMac a)
          | _, _ => none)
    ++ [groupMac (.v4 c.group4), groupMac (.v6 c.group6)]
    ++ c.extraMacs).eraseDups

/-- The LISTED set derived again (R33). -/
def refreshListed (s : State) : State :=
  s.setGuardPath { s.guardPath with listed := deriveListed s.identities s.ctl.cfg }

end Sys2Proof.Machine
end

