-- ==== Sys2Proof/Machine/Flags.lean ====
section
/-! DEFINITION. The pressure state and the thresholds that the wake controller takes from its state and the
configuration record. -/

namespace Sys2Proof.Machine

/-- The pressure state of an unlocked controller, taken from P (R155). -/
def pressureStateOf (c : ConfigRecord) (p : Nat) : PressureState :=
  if p < c.limW then .openState else if p < c.limS then .warned else .restrained

/-- The state taken afresh from P unless the lock is latched (R155). -/
def retake (c : ConfigRecord) (w : WakeCtl) : WakeCtl :=
  if w.pstate = .locked then w else { w with pstate := pressureStateOf c w.pressure }

/-- The effective threshold (R156). -/
def effectiveThreshold (c : ConfigRecord) : PressureState → Nat
  | .openState => c.baseThreshold
  | .warned => c.baseThreshold
  | .restrained => max c.baseThreshold c.restraint
  | .locked => 7

/-- The effective threshold at this moment. -/
def State.threshold (s : State) : Nat := effectiveThreshold s.ctl.cfg s.wake.pstate

/-- The weight configured for a class (R158). -/
def weightOf (c : ConfigRecord) (cls : Nat) : Nat := c.weights.getD cls 0

/-- A request below policy: class 0, or below the base threshold (R157). -/
def belowPolicy (c : ConfigRecord) (cls : Nat) : Bool :=
  decide (cls = 0) || decide (cls < c.baseThreshold)

end Sys2Proof.Machine
end

