-- ==== Sys2Proof/Machine/Parser.lean ====
section
/-! DEFINITION. The parser: the field vector and header positions of a frame (R31 to R39), and the step
PARSE_FRAME. -/

namespace Sys2Proof.Machine

/-- DCLASS codes (2.3). -/
def DClass.code : DClass → Nat
  | .own => 0 | .broadcast => 1 | .listed => 2 | .other => 3 | .foreign => 4

/-- L3KIND codes (2.3). -/
def L3Kind.code : L3Kind → Nat
  | .none => 0 | .arp => 1 | .ipv4 => 2 | .ipv6 => 3 | .other => 4

/-- FRAG codes (2.3). -/
def Frag.code : Frag → Nat
  | .whole => 0 | .first => 1 | .later => 2

/-- PSTATUS codes (2.3). -/
def PStatus.code : PStatus → Nat
  | .ok => 0 | .short => 1 | .badHdrSum => 2 | .deep => 3 | .other => 4 | .badLen => 5

/-- A field vector with every field at its none value and PSTATUS OK (R31). -/
def FieldVector.blank : FieldVector where
  dclass := .foreign
  etype := 0
  l3kind := .none
  dstid := 15
  proto := 0
  sport := 0
  dport := 0
  tcpflags := 0
  icmptype := 0
  arpop := 0
  session := 15
  l4len := 0
  lead := 0
  frag := .whole
  pstatus := .ok
  src4 := 0

/-- A field's value by its id 0..15 (2.3). -/
def FieldVector.get (v : FieldVector) (id : Nat) : Nat :=
  [v.dclass.code, v.etype, v.l3kind.code, v.dstid, v.proto, v.sport, v.dport, v.tcpflags, v.icmptype,
    v.arpop, v.session, v.l4len, v.lead, v.frag.code, v.pstatus.code, v.src4].getD id 0

/-- What the parser makes of a frame. -/
structure Parsed where
  fv : FieldVector
  pos : Positions
deriving DecidableEq, Repr

/-- What the parser compares a frame with: the configuration, the tables and the LISTED set. The header
checksum is verified in parsing and not in the outbound inspection (R119). -/
structure ParseContext where
  hostMac : Mac
  listed : List Mac
  identities : List Identity
  sessions : List Session
  verifySum : Bool

/-- The parser's context in a state. -/
def State.parseContext (s : State) (verifySum : Bool) : ParseContext :=
  ⟨s.ctl.cfg.hostMac, s.guardPath.listed, s.identities, s.sessions, verifySum⟩

/-- DCLASS of a destination MAC (R32). -/
def classOfMac (k : ParseContext) (m : Mac) : DClass :=
  if k.hostMac ≠ 0 ∧ m = k.hostMac then .own
  else if m = Config.broadcastMac then .broadcast
  else if isGroupMac m then (if k.listed.contains m then .listed else .other)
  else .foreign

/-- L3KIND of an EtherType (R32). -/
def kindOfType (t : Nat) : L3Kind :=
  if t = 0x0806 then .arp else if t = 0x0800 then .ipv4 else if t = 0x86DD then .ipv6
  else if t < 0x0600 then .none else .other

/-- The index of the valid identity that holds an address, READY or CONFLICTED (R38). -/
def identityOf (ids : List Identity) (a : Addr) : Option Nat :=
  ids.findIdx? fun i => i.valid && i.addr == a

/-- DSTID of a destination address: an identity, 14 for multicast or broadcast, else 15 (R38). -/
def dstidOf (ids : List Identity) (a : Addr) : Nat :=
  match identityOf ids a with
  | some i => i
  | none => if isGroupAddr a then 14 else 15

/-- DSTID of a target address: an identity, else 15 (R38). -/
def targetIdOf (ids : List Identity) (a : Addr) : Nat := (identityOf ids a).getD 15

/-- The source address of a packet whose network-layer header stands at an offset. -/
def sourceOf (kind : L3Kind) (b : Frame) (l3 : Nat) : Addr :=
  match kind with
  | .ipv6 => .v6 (v6At b (l3 + 8))
  | _ => .v4 (v4At b (l3 + 12))

/-- The destination address of a packet whose network-layer header stands at an offset. -/
def destOf (kind : L3Kind) (b : Frame) (l3 : Nat) : Addr :=
  match kind with
  | .ipv6 => .v6 (v6At b (l3 + 24))
  | _ => .v4 (v4At b (l3 + 16))

/-- SESSION: the lowest valid session, not EMPTY, whose tuple an arriving segment has (R39). -/
def sessionOf (k : ParseContext) (v : FieldVector) (src : Addr) : Nat :=
  (k.sessions.findIdx? fun x =>
    x.valid && x.state != .empty && x.localId == v.dstid && x.localPort == v.dport && x.remote == src
      && x.remotePort == v.sport).getD 15

/-- LEAD: the first four bytes after the transport header, missing low-order bytes 0 (R37). -/
def leadAt (b : Frame) (pay len : Nat) : Nat := beNat (padTo 4 (slice b pay (min 4 len))) 0 4

/-- L4LEN and LEAD set for a payload (R37). -/
def withPayload (b : Frame) (pay len : Nat) (v : FieldVector) : FieldVector :=
  { v with l4len := len, lead := leadAt b pay len }

/-- The transport header, from the offset `l4` to the end of the IP payload at `stop` (R37, R38, R39). -/
def parseTransport (k : ParseContext) (b : Frame) (l3 l4 stop : Nat) (v : FieldVector) : Parsed :=
  let avail := stop - l4
  if v.frag ≠ .later ∧ v.proto = 6 then
    if avail < 20 then ⟨{ v with pstatus := .short }, ⟨l3, l4, l4⟩⟩
    else
      let v :=
        { v with sport := beNat b l4 2, dport := beNat b (l4 + 2) 2, tcpflags := byteAt b (l4 + 13) }
      let header := byteAt b (l4 + 12) / 16 * 4
      if header < 20 ∨ header > avail then ⟨{ v with pstatus := .badLen }, ⟨l3, l4, l4⟩⟩
      else
        let v := withPayload b (l4 + header) (avail - header) v
        ⟨{ v with session := sessionOf k v (sourceOf v.l3kind b l3) }, ⟨l3, l4, l4 + header⟩⟩
  else if v.frag ≠ .later ∧ v.proto = 17 then
    if avail < 8 then ⟨{ v with pstatus := .short }, ⟨l3, l4, l4⟩⟩
    else
      let v := { v with sport := beNat b l4 2, dport := beNat b (l4 + 2) 2 }
      let udp := beNat b (l4 + 4) 2
      if v.frag = .whole then
        if udp < 8 ∨ udp > avail then ⟨{ v with pstatus := .badLen }, ⟨l3, l4, l4⟩⟩
        else ⟨withPayload b (l4 + 8) (udp - 8) v, ⟨l3, l4, l4 + 8⟩⟩
      else ⟨withPayload b (l4 + 8) (avail - 8) v, ⟨l3, l4, l4 + 8⟩⟩
  else if v.frag ≠ .later
      ∧ (v.l3kind = .ipv4 ∧ v.proto = 1 ∨ v.l3kind = .ipv6 ∧ v.proto = 58) then
    if avail < 8 then ⟨{ v with pstatus := .short }, ⟨l3, l4, l4⟩⟩
    else
      let v := withPayload b (l4 + 8) (avail - 8) { v with icmptype := byteAt b l4 }
      let v :=
        if v.l3kind = .ipv6 ∧ (v.icmptype = 135 ∨ v.icmptype = 136) ∧ v.frag = .whole
            ∧ 16 ≤ v.l4len then
          { v with dstid := targetIdOf k.identities (.v6 (v6At b (l4 + 8))) }
        else v
      ⟨v, ⟨l3, l4, l4 + 8⟩⟩
  else ⟨withPayload b l4 avail v, ⟨l3, l4, l4⟩⟩

/-- An ARP body (R34). -/
def parseArp (k : ParseContext) (b : Frame) (l3 : Nat) (v : FieldVector) : Parsed :=
  let v := { v with arpop := beNat b (l3 + 6) 2 }
  if beNat b l3 2 = 1 ∧ beNat b (l3 + 2) 2 = 0x0800 ∧ byteAt b (l3 + 4) = 6 ∧ byteAt b (l3 + 5) = 4
  then ⟨{ v with dstid := targetIdOf k.identities (.v4 (v4At b (l3 + 24))) }, ⟨l3, l3, l3⟩⟩
  else ⟨{ v with pstatus := .other }, ⟨l3, l3, l3⟩⟩

/-- FRAG of a fragment offset and a more-fragments flag (R35). -/
def fragOf (offset : Nat) (more : Bool) : Frag :=
  if offset = 0 then (if more then .first else .whole) else .later

/-- An IPv4 header (R35). -/
def parseIpv4 (k : ParseContext) (b : Frame) (l3 : Nat) (v : FieldVector) : Parsed :=
  let avail := b.length - l3
  let header := byteAt b l3 % 16 * 4
  let total := beNat b (l3 + 2) 2
  if byteAt b l3 / 16 ≠ 4 ∨ header < 20 then ⟨{ v with pstatus := .other }, ⟨l3, l3, l3⟩⟩
  else if avail < header then ⟨{ v with pstatus := .short }, ⟨l3, l3, l3⟩⟩
  else if total < header ∨ avail < total then ⟨{ v with pstatus := .badLen }, ⟨l3, l3, l3⟩⟩
  else
    let flags := beNat b (l3 + 6) 2
    let v :=
      { v with
        src4 := beNat b (l3 + 12) 4
        proto := byteAt b (l3 + 9)
        dstid := dstidOf k.identities (.v4 (v4At b (l3 + 16)))
        frag := fragOf (flags % 8192) (flags.testBit 13) }
    if k.verifySum && !sumGood (slice b l3 header) then
      ⟨{ v with pstatus := .badHdrSum }, ⟨l3, l3, l3⟩⟩
    else parseTransport k b l3 (l3 + header) (l3 + total) v

/-- The next header names an extension header that the parser walks: hop-by-hop, routing, fragment,
destination options (R36). -/
def isExtension (nh : Nat) : Bool := nh == 0 || nh == 43 || nh == 44 || nh == 60

/-- The walk of the extension headers (R36); the first argument is how many more may be walked. -/
def walkExtensions (k : ParseContext) (b : Frame) (l3 stop : Nat) :
    Nat → Nat → Nat → FieldVector → Parsed
  | 0, nh, off, v =>
    if isExtension nh then ⟨{ v with proto := nh, pstatus := .deep }, ⟨l3, off, off⟩⟩
    else parseTransport k b l3 off stop { v with proto := nh }
  | more + 1, nh, off, v =>
    if isExtension nh then
      let len := if nh = 44 then 8 else (byteAt b (off + 1) + 1) * 8
      if stop < off + 8 ∨ stop < off + len then ⟨{ v with pstatus := .short }, ⟨l3, off, off⟩⟩
      else if nh = 44 then
        let field := beNat b (off + 2) 2
        let v := { v with frag := fragOf (field / 8) (field.testBit 0) }
        if field / 8 ≠ 0 then
          parseTransport k b l3 (off + 8) stop { v with proto := byteAt b off }
        else walkExtensions k b l3 stop more (byteAt b off) (off + 8) v
      else walkExtensions k b l3 stop more (byteAt b off) (off + len) v
    else parseTransport k b l3 off stop { v with proto := nh }

/-- An IPv6 header (R36). -/
def parseIpv6 (k : ParseContext) (b : Frame) (l3 : Nat) (v : FieldVector) : Parsed :=
  let payload := beNat b (l3 + 4) 2
  if byteAt b l3 / 16 ≠ 6 then ⟨{ v with pstatus := .other }, ⟨l3, l3, l3⟩⟩
  else if payload = 0 ∨ b.length - l3 < 40 + payload then
    ⟨{ v with pstatus := .badLen }, ⟨l3, l3, l3⟩⟩
  else
    walkExtensions k b l3 (l3 + 40 + payload) 2 (byteAt b (l3 + 6)) (l3 + 40)
      { v with dstid := dstidOf k.identities (.v6 (v6At b (l3 + 24))) }

/-- A whole frame parsed (R32 to R39). For a layer that the parser does not reach (a stopped parse, ARP, L3KIND
NONE or OTHER) R31 gives no header position, and the model sets it to the last offset reached (log 21, DESIGN
CHOICE). -/
def parseFrame (k : ParseContext) (b : Frame) : Parsed :=
  let l3 := l3Offset b
  let v :=
    { FieldVector.blank with
      dclass := classOfMac k (macAt b 0)
      etype := etherType b
      l3kind := kindOfType (etherType b) }
  match v.l3kind with
  | .arp => parseArp k b l3 v
  | .ipv4 => parseIpv4 k b l3 v
  | .ipv6 => parseIpv6 k b l3 v
  | .none => ⟨v, ⟨l3, l3, l3⟩⟩
  | .other =>
    if isTagged b && etherType b == 0x8100 then ⟨{ v with pstatus := .other }, ⟨l3, l3, l3⟩⟩
    else ⟨v, ⟨l3, l3, l3⟩⟩

/-- The parser's counts for a guard-path frame; rehearsal copies are not counted (R40). -/
def countParse (path : Path) (p : PStatus) (s : State) : State :=
  if path = .guardPath then
    match p with
    | .short => bump .parseShort s
    | .badLen => bump .parseShort s
    | .badHdrSum => bump .parseBadsum s
    | _ => s
  else s

/-- PARSE_FRAME (R31): the parser takes the oldest frame of the input FIFO. A guard-path frame or a copy is
parsed and handed to the classifier, whose one place must be free (log 10). A DRAIN frame is not parsed: it
is handed to the hold queue once every guard-path frame ahead of it is disposed of (R11). -/
def execParseFrame (s : State) : Result :=
  match s.guardPath.fifo with
  | [] => .next s
  | g :: rest =>
    let taken := s.setGuardPath { s.guardPath with fifo := rest }
    if g.path = .drained then
      if guardPending s then .next s
      else .next (endDrain (handToHold .drained ⟨g.bytes, g.arrival⟩ taken))
    else if s.guardPath.parsed.isSome then .next s
    else
      let p := parseFrame (s.parseContext true) g.bytes
      .next
        (endDrain
          (countParse g.path p.fv.pstatus
            (taken.setGuardPath
              { taken.guardPath with
                parsed := some ⟨g.bytes, g.arrival, g.path, p.fv, p.pos⟩ })))

end Sys2Proof.Machine
end

