-- ==== Sys2Proof/Machine/Replies.lean ====
section
/-! DEFINITION. The frames that the reply builder builds: the conventions of 7.2, the checksums of 7.3, the
timestamps of 7.4, and each responder's contents. The layouts of the protocol headers that the spec names
and does not draw are the standard ones (log 4, PRESUMED). -/

namespace Sys2Proof.Machine

/-- The configured tag, when the configured VID is not 0 (R129). -/
def tagBytes (c : ConfigRecord) : Frame :=
  if c.vid = 0 then [] else toBytes 2 0x8100 ++ toBytes 2 (c.pcp * 8192 + c.vid)

/-- A generated frame: header, tag, payload, zero bytes up to 60 without the tag (R129). -/
def ethernetFrame (c : ConfigRecord) (dst : Mac) (etype : Nat) (payload : Frame) : Frame :=
  macBytes dst ++ macBytes c.hostMac ++ tagBytes c ++ toBytes 2 etype ++ padTo 46 payload

/-- An ARP frame with the host MAC as sender hardware address (R69, R74). -/
def arpFrame (c : ConfigRecord) (dst : Mac) (op : Nat) (senderIp : BitVec 32) (targetMac : Mac)
    (targetIp : BitVec 32) : Frame :=
  ethernetFrame c dst 0x0806
    (toBytes 2 1 ++ toBytes 2 0x0800 ++ toBytes 1 6 ++ toBytes 1 4 ++ toBytes 2 op
      ++ macBytes c.hostMac ++ toBytes 4 senderIp.toNat ++ macBytes targetMac
      ++ toBytes 4 targetIp.toNat)

/-- A run with a two-byte checksum between two parts of it, computed with the field 0 over a pseudo-header
and both parts (R133, R134). -/
def withChecksum (pseudo before after : Frame) (field : Nat → Nat) : Frame :=
  before ++ toBytes 2 (field (checksum (pseudo ++ before ++ [0, 0] ++ after))) ++ after

/-- The zero rule for UDP: a checksum that computes to 0x0000 is sent as 0xFFFF (R134). -/
def udpZeroRule (n : Nat) : Nat := if n = 0 then 0xFFFF else n

/-- An IPv4 packet: 20-byte header, DF, the configured TTL (R130). -/
def ipv4Packet (c : ConfigRecord) (id : BitVec 16) (proto : Nat) (src dst : BitVec 32)
    (payload : Frame) : Frame :=
  withChecksum []
    (toBytes 1 0x45 ++ toBytes 1 0 ++ toBytes 2 (20 + payload.length) ++ toBytes 2 id.toNat
      ++ toBytes 2 0x4000 ++ toBytes 1 c.ttl ++ toBytes 1 proto)
    (toBytes 4 src.toNat ++ toBytes 4 dst.toNat) (fun n => n)
    ++ payload

/-- An IPv6 packet: 40-byte header and no extension header (R131). -/
def ipv6Packet (hop proto : Nat) (src dst : BitVec 128) (payload : Frame) : Frame :=
  toBytes 4 0x60000000 ++ toBytes 2 payload.length ++ toBytes 1 proto ++ toBytes 1 hop
    ++ toBytes 16 src.toNat ++ toBytes 16 dst.toNat ++ payload

/-- An IP packet of the family of its addresses in a frame; the hop limit of an IPv6 packet is given, the
TTL of an IPv4 packet is the configured one (R129 to R131). -/
def ipFrame (c : ConfigRecord) (id : BitVec 16) (dstMac : Mac) (hop proto : Nat) (src dst : Addr)
    (payload : Frame) : Frame :=
  match src, dst with
  | .v4 a, .v4 b => ethernetFrame c dstMac 0x0800 (ipv4Packet c id proto a b payload)
  | .v6 a, .v6 b => ethernetFrame c dstMac 0x86DD (ipv6Packet hop proto a b payload)
  | .v4 a, .v6 _ => ethernetFrame c dstMac 0x0800 (ipv4Packet c id proto a 0 payload)
  | .v6 a, .v4 _ => ethernetFrame c dstMac 0x86DD (ipv6Packet hop proto a 0 payload)

/-- A packet of this source address takes an IPv4 identification (R130). -/
def isV4 : Addr → Bool
  | .v4 _ => true
  | .v6 _ => false

/-- A neighbour advertisement: its flag byte, the target and the target link-layer option carrying the host
MAC (R70, R74); hop limit 255 (R131). -/
def advertisementFrame (c : ConfigRecord) (dstMac : Mac) (src dst : BitVec 128) (flags : Nat) :
    Frame :=
  let after :=
    toBytes 1 flags ++ toBytes 3 0 ++ toBytes 16 src.toNat ++ toBytes 1 2 ++ toBytes 1 1
      ++ macBytes c.hostMac
  ipFrame c 0 dstMac 255 58 (.v6 src) (.v6 dst)
    (withChecksum (pseudoHeader (.v6 src) (.v6 dst) 32 58) (toBytes 1 136 ++ toBytes 1 0) after
      fun n => n)

/-- The Solicited and Override flags set, Router clear (R70). -/
def solicitedOverride : Nat := 0x60

/-- The Override flag set, Solicited and Router clear (R74). -/
def overrideOnly : Nat := 0x20

/-- The updated checksum of an echo reply: the complement of the ones'-complement sum of the complements of
the request's checksum and old type word, and the new type word (R135). -/
def updatedChecksum (hc old new : Nat) : Nat :=
  0xFFFF - fold16 ((0xFFFF - hc) + (0xFFFF - old) + new)

/-- An echo reply's message from the request's: the type word replaced, the checksum updated, the rest
copied; in IPv4 an all-zero message has its checksum sent as 0xFFFF (R83, R84, R135). -/
def echoMessage (family : Addr) (request : Frame) : Frame :=
  let rest := request.drop 4
  match family with
  | .v4 _ =>
    let sum :=
      if rest.all (· == 0) then 0xFFFF else updatedChecksum (beNat request 2 2) 0x0800 0x0000
    toBytes 2 0x0000 ++ toBytes 2 sum ++ rest
  | .v6 _ => toBytes 2 0x8100 ++ toBytes 2 (updatedChecksum (beNat request 2 2) 0x8000 0x8100) ++ rest

/-- The timestamp value of a session at a guard elapsed count: ts_base plus the whole part of
E × ts_rate / 16, modulo 2^32 (R136). -/
def tsValue (t : TsPart) (elapsed : BitVec 32) : BitVec 32 :=
  t.base + BitVec.ofNat 32 (elapsed.toNat * t.rate / 16)

/-- The timestamp option: two NOPs, kind 8, length 10, TSval, TSecr (R132). -/
def tsOption (x : Session) (elapsed : BitVec 32) : Frame :=
  match x.ts with
  | some t =>
    toBytes 1 1 ++ toBytes 1 1 ++ toBytes 1 8 ++ toBytes 1 10
      ++ toBytes 4 (tsValue t elapsed).toNat ++ toBytes 4 x.lastPeer.toNat
  | none => []

/-- A session's TCP segment with a sequence number: acknowledgement RCV, ACK alone, the session's window
(R108, R132). -/
def sessionSegment (x : Session) (src : Addr) (elapsed seq : BitVec 32) : Frame :=
  let option := tsOption x elapsed
  let length := 20 + option.length
  withChecksum (pseudoHeader src x.remote length 6)
    (toBytes 2 x.localPort ++ toBytes 2 x.remotePort ++ toBytes 4 seq.toNat ++ toBytes 4 x.rcv.toNat
      ++ toBytes 1 (length / 4 * 16) ++ toBytes 1 16 ++ toBytes 2 x.window.toNat)
    (toBytes 2 0 ++ option) fun n => n

/-- A session's probe: the next-hop MAC, sequence number SND − 1 (R108). -/
def probeFrame (c : ConfigRecord) (id : BitVec 16) (x : Session) (src : Addr) (elapsed : BitVec 32) :
    Frame :=
  ipFrame c id x.nextHop c.hopLimit 6 src x.remote (sessionSegment x src elapsed (x.snd - 1#32))

/-- A session's ACK reply: the segment's Ethernet source, sequence number SND (R118). -/
def ackFrame (c : ConfigRecord) (id : BitVec 16) (dst : Mac) (x : Session) (src : Addr)
    (elapsed : BitVec 32) : Frame :=
  ipFrame c id dst c.hopLimit 6 src x.remote (sessionSegment x src elapsed x.snd)

/-- A UDP datagram with the checksum computed in full and the zero rule (R95, R134). -/
def udpDatagram (src dst : Addr) (sport dport : Nat) (message : Frame) : Frame :=
  let length := 8 + message.length
  withChecksum (pseudoHeader src dst length 17)
    (toBytes 2 sport ++ toBytes 2 dport ++ toBytes 2 length) message udpZeroRule

/-- An address record's part after its name: type, class 0x8001, TTL, data length, address (R94). -/
def addressRecord (ttl : Nat) (a : Addr) : Frame :=
  toBytes 2 (if isV4 a then 1 else 28) ++ toBytes 2 0x8001 ++ toBytes 4 ttl
    ++ toBytes 2 (addrBytes a).length ++ addrBytes a

/-- The answer message to a name query: header, the first record under the question's name, each further
record under a pointer to offset 12 (R94). -/
def nameMessage (id : Nat) (name : Frame) (ttl : Nat) (records : List Addr) : Frame :=
  toBytes 2 id ++ toBytes 2 0x8400 ++ toBytes 2 0 ++ toBytes 2 records.length ++ toBytes 2 0
    ++ toBytes 2 0
    ++ match records with
      | [] => []
      | a :: more =>
        name ++ addressRecord ttl a ++ (more.map fun x => toBytes 2 0xC00C ++ addressRecord ttl x).flatten

end Sys2Proof.Machine
end

