-- ==== Sys2Proof/Machine/ReplySlots.lean ====
section
/-! DEFINITION. The reply slots (7.1): granting, building, freeing with the hand-off to the pending-probe
list, and what a link loss does to them. -/

namespace Sys2Proof.Machine

/-- The lowest-indexed FREE slot (R125). -/
def freeSlot (s : State) : Option Nat := s.reply.slots.findIdx? fun x => x.state == .free

/-- A built frame put into a slot: QUEUED, at the tail of the reply queue or of the notice order; an IPv4
packet for the line moves the identification counter (R124, R125, R130). -/
def fillSlot (i : Nat) (dest : SlotDest) (kind : ReplyKind) (session : Option Nat) (takesId : Bool)
    (frame : Frame) (s : State) : State :=
  let r := s.reply
  s.setReply
    { r with
      slots := r.slots.set i ⟨.queued, dest, kind, session, frame⟩
      queue := if dest = .line then r.queue ++ [i] else r.queue
      notices := if dest = .notice then r.notices ++ [i] else r.notices
      ipId := if takesId && dest == .line then r.ipId + 1#16 else r.ipId }

/-- The destination of an answer: NOTICE for a rehearsal copy, LINE otherwise (R125). -/
def destOfPath (p : Path) : SlotDest := if p = .copy then .notice else .line

/-- A responder's request: the lowest FREE slot granted and the frame built into it at once from the current
identification; `none` when no slot is FREE (R125). -/
def buildReply (p : Path) (kind : ReplyKind) (session : Option Nat) (takesId : Bool)
    (frame : BitVec 16 → Frame) (s : State) : Option State :=
  (freeSlot s).map fun i =>
    fillSlot i (destOfPath p) kind session takesId (frame s.reply.ipId) s

/-- A skipped answer is counted outside rehearsal (R125, R141). -/
def skipReply (p : Path) (s : State) : State := bumpIf (p != .copy) .replySkipped s

/-- A session's probe built into a slot: PROBES_SENT and the session's count move (R108, R126). -/
def buildProbe (slot i : Nat) (s : State) : State :=
  let x := s.session i
  let src := (s.identity x.localId).addr
  let s :=
    fillSlot slot .line .probe (some i) (isV4 src)
      (probeFrame s.ctl.cfg s.reply.ipId x src s.bank.elapsed) s
  bump .probesSent
    (modifySession i (fun x => { x with probesSent := satBump x.probesSent }) s)

/-- A slot becomes FREE and is handed on: the session at the head of the pending-probe list leaves it and has
its probe built; with an empty list the slot stays FREE (R110, R126). -/
def freeAndHandOn (i : Nat) (s : State) : State :=
  let s := s.setReply { s.reply with slots := s.reply.slots.set i Slot.empty }
  match s.probes with
  | [] => s
  | p :: rest => buildProbe i p (s.setProbes rest)

/-- Several slots become FREE in one event and are handed on in order (R139). -/
def freeAllAndHandOn : List Nat → State → State
  | [], s => s
  | i :: rest, s => freeAllAndHandOn rest (freeAndHandOn i s)

/-- A slot of destination LINE in use. -/
def Slot.onLine (x : Slot) : Bool := x.state != .free && x.dest == .line

/-- The slots of destination LINE in use, in ascending index (log 9). -/
def lineSlots (s : State) : List Nat :=
  (List.range s.reply.slots.length).filter fun i => (s.slot i).onLine

/-- REPLY_DISCARDED incremented once for each slot. -/
def countDiscarded : List Nat → State → State
  | [], s => s
  | _ :: rest, s => countDiscarded rest (bump .replyDiscarded s)

/-- A link loss at the reply builder: the SENDING slot cut and the QUEUED ones discarded, each counted, the
reply queue empty, and every slot freed handed on (R139). -/
def discardLineReplies (s : State) : State :=
  let lost := lineSlots s
  let s :=
    s.setReply
      { s.reply with
        slots := s.reply.slots.map fun x => if x.onLine then Slot.empty else x
        queue := [] }
  freeAllAndHandOn lost (countDiscarded lost s)

/-- A probe falls due: built into a FREE slot, or the session joins the pending-probe list if it is not
already on it (R105, R106, R109, R126). -/
def probeDue (i : Nat) (s : State) : State :=
  if s.probes.contains i then s
  else
    match freeSlot s with
    | some slot => buildProbe slot i s
    | none => s.setProbes (s.probes ++ [i])

end Sys2Proof.Machine
end

