-- ==== Sys2Proof/Machine/Operands.lean ====
section
/-! DEFINITION. The byte layouts of control frames and bodies (11.6): each body read from a command and
written into a response, with the checks and clamps of its fields. `none` where a field is refused with
BAD_VALUE. -/

namespace Sys2Proof.Machine

/-- A response's status (11.6). -/
inductive Status where
  | ok | unknownCommand | badLength | badIndex | badValue | wrongMode
deriving DecidableEq, Repr

/-! ### Codes of the enumerations (11.6) -/

/-- Status codes. -/
def Status.code : Status → Nat
  | .ok => 0 | .unknownCommand => 1 | .badLength => 2 | .badIndex => 3 | .badValue => 4 | .wrongMode => 5

/-- yes/no codes. -/
def boolCode (b : Bool) : Nat := if b then 1 else 0

/-- A yes/no value read; another value has no meaning (R186). -/
def yesNo : Nat → Option Bool
  | 0 => some false
  | 1 => some true
  | _ => none

/-- Mode codes. -/
def Mode.code : Mode → Nat
  | .pass => 0 | .guard => 1 | .waking => 2 | .drain => 3

/-- Wake-line sub-state codes. -/
def WakeSub.code : WakeSub → Nat
  | .idle => 0 | .asserted => 1 | .gap => 2 | .resumed => 3 | .unanswered => 4

/-- Pressure state codes. -/
def PressureState.code : PressureState → Nat
  | .openState => 0 | .warned => 1 | .restrained => 2 | .locked => 3

/-- Action codes. -/
def Action.code : Action → Nat
  | .drop => 0 | .hold => 1 | .wake => 2 | .answerAddress => 3 | .answerEcho => 4 | .answerName => 5
  | .answerSession => 6

/-- An action read. -/
def Action.ofCode : Nat → Option Action
  | 0 => some .drop | 1 => some .hold | 2 => some .wake | 3 => some .answerAddress
  | 4 => some .answerEcho | 5 => some .answerName | 6 => some .answerSession | _ => none

/-- Fallback codes. -/
def Disposal.code : Disposal → Nat
  | .drop => 0 | .hold => 1 | .wake => 2

/-- A fallback read. -/
def Disposal.ofCode : Nat → Option Disposal
  | 0 => some .drop | 1 => some .hold | 2 => some .wake | _ => none

/-- Identity state codes. -/
def IdentityState.code : IdentityState → Nat
  | .ready => 0 | .conflicted => 1

/-- Session state codes. -/
def SessionState.code : SessionState → Nat
  | .empty => 0 | .armed => 1 | .alive => 2 | .probing => 3 | .handed => 4 | .ended => 5 | .dead => 6
  | .detached => 7

/-- Alarm mode codes. -/
def TimerMode.code : TimerMode → Nat
  | .oneShot => 0 | .periodic => 1

/-- An alarm mode read. -/
def TimerMode.ofCode : Nat → Option TimerMode
  | 0 => some .oneShot | 1 => some .periodic | _ => none

/-- Alarm state codes. -/
def AlarmState.code : AlarmState → Nat
  | .idle => 0 | .running => 1 | .fired => 2

/-- Wake mode codes. -/
def WakeMode.code : WakeMode → Nat
  | .level => 0 | .pulse => 1

/-- A wake mode read. -/
def WakeMode.ofCode : Nat → Option WakeMode
  | 0 => some .level | 1 => some .pulse | _ => none

/-- Wake cause codes. -/
def WakeCause.code : WakeCause → Nat
  | .frameMatch => 1 | .fallback => 2 | .sessionData => 3 | .sessionEnd => 4 | .sessionDead => 5
  | .addressConflict => 6 | .linkLost => 7 | .alarm => 8 | .deferred => 9

/-- Reply kind codes. -/
def ReplyKind.code : ReplyKind → Nat
  | .answer => 0 | .defence => 1 | .probe => 2 | .ack => 3

/-- Hold origin codes. -/
def Origin.code : Origin → Nat
  | .trigger => 0 | .suppressed => 1 | .held => 2 | .follower => 3 | .drained => 4

/-- A value clamped into a range (00, Refused and clamped writes). -/
def clamp (lo hi n : Nat) : Nat := max lo (min hi n)

/-! ### Addresses in bodies -/

/-- A family code and an address field: V4 in the first four bytes, the other twelve ignored (R188). -/
def addrField (b : Frame) (family off : Nat) : Option Addr :=
  match byteAt b family with
  | 0 => some (.v4 (v4At b off))
  | 1 => some (.v6 (v6At b off))
  | _ => none

/-- Family codes. -/
def familyCode : Addr → Nat
  | .v4 _ => 0
  | .v6 _ => 1

/-- An address as its sixteen-byte field; the last twelve bytes of a V4 field are 0 (R188). -/
def addrFieldBytes (a : Addr) : Frame := padTo 16 (addrBytes a)

/-! ### Match entry (WRITE_MATCH 45 bytes, READ_MATCH 49) -/

/-- The width in bits of a field of the field vector (R42). -/
def fieldWidth (field : Nat) : Nat :=
  [3, 16, 3, 4, 8, 16, 16, 8, 8, 16, 4, 16, 32, 2, 3, 32].getD field 0

/-- A term as R54, check 3 admits it. -/
def Term.admitted (t : Term) : Bool :=
  decide (t.field ≤ 15) && decide (t.value.toNat < 2 ^ fieldWidth t.field)
    && decide (t.mask.toNat < 2 ^ fieldWidth t.field)

/-- Term position `t` of a match body: nothing, a term, or refused (R54, check 3). -/
def termAt (b : Frame) (t : Nat) : Option (Option Term) :=
  match yesNo (byteAt b (5 + 10 * t)) with
  | none => none
  | some false => some none
  | some true =>
    let term : Term := ⟨byteAt b (6 + 10 * t), v4At b (7 + 10 * t), v4At b (11 + 10 * t)⟩
    if term.admitted then some (some term) else none

/-- A match entry read from a WRITE_MATCH body, hit count 0 (R54, checks 3 and 4; R55). -/
def decodeMatch (b : Frame) : Option MatchEntry := do
  let valid ← yesNo (byteAt b 1)
  let t0 ← termAt b 0
  let t1 ← termAt b 1
  let t2 ← termAt b 2
  let t3 ← termAt b 3
  let action ← Action.ofCode (byteAt b 2)
  let fallback ← Disposal.ofCode (byteAt b 4)
  if byteAt b 3 ≤ 7 then
    some ⟨valid, [t0, t1, t2, t3], action, byteAt b 3, fallback, 0⟩
  else none

/-- A term position as its ten bytes; one that holds nothing reads 0 throughout (R56). -/
def termBytes : Option Term → Frame
  | none => List.replicate 10 0
  | some t => toBytes 1 1 ++ toBytes 1 t.field ++ toBytes 4 t.value.toNat ++ toBytes 4 t.mask.toNat

/-- The loaded part of a match entry body. -/
def matchBody (index : Nat) (e : MatchEntry) : Frame :=
  toBytes 1 index ++ toBytes 1 (boolCode e.valid) ++ toBytes 1 e.action.code ++ toBytes 1 e.cls
    ++ toBytes 1 e.fallback.code ++ (e.terms.map termBytes).flatten

/-- A READ_MATCH response body (R56). -/
def matchReadBody (index : Nat) (e : MatchEntry) : Frame :=
  matchBody index e ++ toBytes 4 e.hits.toNat

/-! ### Identity (WRITE_IDENTITY 21 bytes, READ_IDENTITY 23) -/

/-- An identity read from a WRITE_IDENTITY body, READY with count 0 (R62, checks 3 and 4; R63). -/
def decodeIdentity (b : Frame) : Option Identity := do
  let valid ← yesNo (byteAt b 1)
  let addr ← addrField b 2 5
  let flags := byteAt b 3
  if flags < 8 ∧ byteAt b 4 ≤ 7 ∧ isHostAddr addr then
    some ⟨valid, addr, flags.testBit 0, flags.testBit 1, flags.testBit 2, byteAt b 4, .ready, 0⟩
  else none

/-- The loaded part of an identity body. -/
def identityBody (index : Nat) (i : Identity) : Frame :=
  toBytes 1 index ++ toBytes 1 (boolCode i.valid) ++ toBytes 1 (familyCode i.addr)
    ++ toBytes 1
        (boolCode i.answerResolution + 2 * boolCode i.answerEcho + 4 * boolCode i.defend)
    ++ toBytes 1 i.cls ++ addrFieldBytes i.addr

/-- A READ_IDENTITY response body (R64). -/
def identityReadBody (index : Nat) (i : Identity) : Frame :=
  identityBody index i ++ toBytes 1 i.state.code ++ toBytes 1 i.conflicts.toNat

/-! ### Name (WRITE_NAME 73 bytes, READ_NAME 77) -/

/-- A run of bytes is a name in wire form: labels of 1..63 bytes, closed by a zero byte that is the last
(R87, check 4). The first argument bounds the labels read. -/
def labelsClosed : Nat → Frame → Bool
  | 0, _ => false
  | _ + 1, [] => false
  | fuel + 1, n :: rest =>
    if n = 0 then rest.isEmpty
    else if n.toNat ≤ 63 ∧ n.toNat ≤ rest.length then labelsClosed fuel (rest.drop n.toNat)
    else false

/-- A well-formed name: 3..64 bytes in wire form (R87). -/
def nameWellFormed (n : Frame) : Bool :=
  decide (3 ≤ n.length ∧ n.length ≤ 64) && labelsClosed 64 n

/-- A name entry read from a WRITE_NAME body, answer count 0 (R87, R88). -/
def decodeName (b : Frame) : Option NameEntry := do
  let valid ← yesNo (byteAt b 1)
  let len := byteAt b 2
  let name := slice b 3 len
  let set := beNat b 67 2
  if len ≤ 64 ∧ set < 4096 ∧ (valid = true → nameWellFormed name = true) then
    some ⟨valid, name, BitVec.ofNat 12 set, clamp 1 86400 (beNat b 69 4), 0⟩
  else none

/-- The loaded part of a name body. -/
def nameBody (index : Nat) (e : NameEntry) : Frame :=
  toBytes 1 index ++ toBytes 1 (boolCode e.valid) ++ toBytes 1 e.name.length ++ padTo 64 e.name
    ++ toBytes 2 e.idset.toNat ++ toBytes 4 e.ttl

/-- A READ_NAME response body (R88). -/
def nameReadBody (index : Nat) (e : NameEntry) : Frame :=
  nameBody index e ++ toBytes 4 e.answers.toNat

/-! ### Session (WRITE_SESSION 61 bytes, READ_SESSION 71) -/

/-- A session with its runtime fields reset (R98). -/
def Session.resetRuntime (x : Session) : Session :=
  { x with
    state := if x.valid then .armed else .empty
    miss := 0
    lastPeer := match x.ts with
      | some t => t.echo
      | none => 0
    probesSent := 0
    acksSent := 0 }

/-- The timestamp part of a session body (R100). -/
def tsAt (b : Frame) : Option (Option TsPart) :=
  match yesNo (byteAt b 50) with
  | none => none
  | some false => some none
  | some true => some (some ⟨v4At b 51, v4At b 55, clamp 1 1000 (beNat b 59 2)⟩)

/-- A session's addresses and ports are usable (R100, check 4). -/
def Session.usable (x : Session) : Bool :=
  decide (1 ≤ x.localPort) && decide (1 ≤ x.remotePort) && x.nextHop != 0 && !isGroupMac x.nextHop
    && isHostAddr x.remote

/-- A session read from a WRITE_SESSION body, clamped, its runtime fields reset (R100, R101). -/
def decodeSession (b : Frame) : Option Session := do
  let valid ← yesNo (byteAt b 1)
  let remote ← addrField b 2 8
  let ts ← tsAt b
  let x : Session :=
    { valid := valid
      localId := byteAt b 3
      localPort := beNat b 4 2
      remote := remote
      remotePort := beNat b 6 2
      nextHop := macAt b 24
      snd := v4At b 30
      rcv := v4At b 34
      window := BitVec.ofNat 16 (beNat b 38 2)
      idle := clamp 80 16777215 (beNat b 40 4)
      retry := clamp 16 65535 (beNat b 44 2)
      missLimit := clamp 1 15 (byteAt b 46)
      dataCls := byteAt b 47
      endCls := byteAt b 48
      deadCls := byteAt b 49
      ts := ts
      state := .empty
      miss := 0
      lastPeer := 0
      probesSent := 0
      acksSent := 0 }
  if x.localId ≤ 11 ∧ x.dataCls ≤ 7 ∧ x.endCls ≤ 7 ∧ x.deadCls ≤ 7
      ∧ (valid = true → x.usable = true) then
    some x.resetRuntime
  else none

/-- The loaded part of a session body; an absent timestamp part reads 0 (R101). -/
def sessionBody (index : Nat) (x : Session) : Frame :=
  toBytes 1 index ++ toBytes 1 (boolCode x.valid) ++ toBytes 1 (familyCode x.remote)
    ++ toBytes 1 x.localId ++ toBytes 2 x.localPort ++ toBytes 2 x.remotePort
    ++ addrFieldBytes x.remote ++ macBytes x.nextHop ++ toBytes 4 x.snd.toNat
    ++ toBytes 4 x.rcv.toNat ++ toBytes 2 x.window.toNat ++ toBytes 4 x.idle ++ toBytes 2 x.retry
    ++ toBytes 1 x.missLimit ++ toBytes 1 x.dataCls ++ toBytes 1 x.endCls ++ toBytes 1 x.deadCls
    ++ match x.ts with
      | some t =>
        toBytes 1 1 ++ toBytes 4 t.base.toNat ++ toBytes 4 t.echo.toNat ++ toBytes 2 t.rate
      | none => List.replicate 11 0

/-- A READ_SESSION response body (R101). -/
def sessionReadBody (index : Nat) (x : Session) : Frame :=
  sessionBody index x ++ toBytes 1 x.state.code ++ toBytes 1 x.miss ++ toBytes 4 x.lastPeer.toNat
    ++ toBytes 2 x.probesSent.toNat ++ toBytes 2 x.acksSent.toNat

/-! ### Alarm (WRITE_ALARM 8 bytes, READ_ALARM 13) -/

/-- An alarm read from a WRITE_ALARM body, clamped, IDLE (R151). -/
def decodeAlarm (b : Frame) : Option Alarm := do
  let valid ← yesNo (byteAt b 1)
  let mode ← TimerMode.ofCode (byteAt b 2)
  if 1 ≤ byteAt b 3 ∧ byteAt b 3 ≤ 7 then
    some ⟨valid, clamp 1 16777215 (beNat b 4 4), mode, byteAt b 3, .idle⟩
  else none

/-- The loaded part of an alarm body. -/
def alarmBody (index : Nat) (a : Alarm) : Frame :=
  toBytes 1 index ++ toBytes 1 (boolCode a.valid) ++ toBytes 1 a.mode.code ++ toBytes 1 a.cls
    ++ toBytes 4 a.count

/-- A READ_ALARM response body: the remaining count of a RUNNING alarm's timer, 0 otherwise (R151). -/
def alarmReadBody (index : Nat) (a : Alarm) (t : Timer) : Frame :=
  alarmBody index a ++ toBytes 1 a.state.code
    ++ toBytes 4 (if a.state = .running then t.count else 0)

/-! ### Configuration (WRITE_CONFIG, READ_CONFIG, 87 bytes) -/

/-- The checks of the fields that R191 refuses out of range. -/
def ConfigRecord.inRange (c : ConfigRecord) : Bool :=
  !isGroupMac c.hostMac && decide (c.vid ≤ 4095) && decide (c.pcp ≤ 7)
    && decide (1 ≤ c.baseThreshold ∧ c.baseThreshold ≤ 7)
    && decide (1 ≤ c.restraint ∧ c.restraint ≤ 7)
    && decide (1 ≤ c.limW ∧ c.limW ≤ c.limS ∧ c.limS < c.limL ∧ c.limL ≤ 511 ∧ c.limH < c.limL)
    && decide (c.linkLostCls ≤ 7) && decide (1 ≤ c.namePort ∧ c.namePort ≤ 65535)
    && isMulticast4 c.group4 && isMulticast6 c.group6
    && decide (c.extraMacs.length ≤ 4)
    && c.extraMacs.all (fun m => isGroupMac m && m != Config.broadcastMac)

/-- A configuration record read from a WRITE_CONFIG body: refused fields checked, the others clamped
(R191, R192, R167). -/
def decodeConfig (b : Frame) : Option ConfigRecord := do
  let defaultHold ← yesNo (byteAt b 9)
  let suppressDrop ← yesNo (byteAt b 30)
  let wakeMode ← WakeMode.ofCode (byteAt b 31)
  let rehearsal ← yesNo (byteAt b 39)
  let extra := byteAt b 62
  let c : ConfigRecord :=
    { hostMac := macAt b 0
      vid := beNat b 6 2
      pcp := byteAt b 8
      defaultHold := defaultHold
      baseThreshold := byteAt b 10
      restraint := byteAt b 11
      limW := beNat b 12 2
      limS := beNat b 14 2
      limL := beNat b 16 2
      limH := beNat b 18 2
      weights := (List.range 8).map fun k => clamp 0 64 (byteAt b (20 + k))
      quietInterval := clamp 16 65535 (beNat b 28 2)
      suppressDrop := suppressDrop
      wakeMode := wakeMode
      pulseWidth := clamp 1 255 (byteAt b 32)
      retryLimit := clamp 0 7 (byteAt b 33)
      resumeWindow := clamp 16 65535 (beNat b 34 2)
      linkLostCls := byteAt b 36
      ttl := clamp 1 255 (byteAt b 37)
      hopLimit := clamp 1 255 (byteAt b 38)
      rehearsal := rehearsal
      namePort := beNat b 40 2
      group4 := v4At b 42
      group6 := v6At b 46
      extraMacs := (List.range extra).map fun k => macAt b (63 + 6 * k) }
  if c.inRange then some c else none

/-- A configuration body (11.6); extra MAC places beyond the count read 0 (R191). -/
def configBody (c : ConfigRecord) : Frame :=
  macBytes c.hostMac ++ toBytes 2 c.vid ++ toBytes 1 c.pcp ++ toBytes 1 (boolCode c.defaultHold)
    ++ toBytes 1 c.baseThreshold ++ toBytes 1 c.restraint ++ toBytes 2 c.limW ++ toBytes 2 c.limS
    ++ toBytes 2 c.limL ++ toBytes 2 c.limH ++ (c.weights.map (toBytes 1)).flatten
    ++ toBytes 2 c.quietInterval ++ toBytes 1 (boolCode c.suppressDrop)
    ++ toBytes 1 c.wakeMode.code ++ toBytes 1 c.pulseWidth ++ toBytes 1 c.retryLimit
    ++ toBytes 2 c.resumeWindow ++ toBytes 1 c.linkLostCls ++ toBytes 1 c.ttl
    ++ toBytes 1 c.hopLimit ++ toBytes 1 (boolCode c.rehearsal) ++ toBytes 2 c.namePort
    ++ toBytes 4 c.group4.toNat ++ toBytes 16 c.group6.toNat ++ toBytes 1 c.extraMacs.length
    ++ padTo 24 (c.extraMacs.map macBytes).flatten

/-! ### The other bodies -/

/-- The IDENTIFY response body (R189). -/
def identifyBody : Frame :=
  toBytes 2 Config.vendorCode ++ toBytes 2 Config.partCode ++ toBytes 1 Config.revision
    ++ toBytes 1 Config.matchEntries ++ toBytes 1 Config.identityEntries
    ++ toBytes 1 Config.nameEntries ++ toBytes 1 Config.sessionEntries
    ++ toBytes 1 Config.alarmEntries ++ toBytes 1 Config.replySlots ++ toBytes 1 Config.holdBlocks
    ++ toBytes 1 Config.holdRecords ++ toBytes 2 Config.blockBytes
    ++ toBytes 1 Config.ticksPerSecond

/-- The indices of the free blocks in ascending order: those that no record lists (R169). -/
def HoldQueue.freeBlocks (h : HoldQueue) : List Nat :=
  (List.range Config.holdBlocks).filter fun b => !h.records.any fun r => r.blocks.contains b

/-- The READ_STATUS response body (R190). -/
def statusBody (s : State) : Frame :=
  toBytes 1 s.modeCtl.mode.code ++ toBytes 1 s.modeCtl.sub.code ++ toBytes 1 (boolCode s.linePort.up)
    ++ toBytes 1 (boolCode s.linePort.lost) ++ toBytes 1 (boolCode s.sys.ready)
    ++ toBytes 1 s.wake.pstate.code ++ toBytes 2 s.wake.pressure ++ toBytes 1 s.wake.deferred
    ++ toBytes 1 s.hold.records.length ++ toBytes 1 s.hold.freeBlocks.length
    ++ toBytes 1 (boolCode s.wake.record.isSome) ++ toBytes 4 s.bank.tick.toNat
    ++ toBytes 4 s.bank.elapsed.toNat

/-- The READ_WAKE_RECORD response body (R166); a free record reads 0 throughout. A captured record without a
trigger serial has 0 in the two serial bytes, for which 11.6 names no value (log 23, DESIGN CHOICE). -/
def wakeRecordBody : Option WakeRecord → Frame
  | none => List.replicate 18 0
  | some r =>
    toBytes 1 1 ++ toBytes 1 r.cause.code ++ toBytes 1 r.cls ++ toBytes 1 r.source
      ++ toBytes 4 r.tick.toNat ++ toBytes 4 r.elapsed.toNat ++ toBytes 2 r.pressure
      ++ toBytes 1 (boolCode r.trigger.isSome)
      ++ toBytes 2 (match r.trigger with
        | some n => n.toNat
        | none => 0)
      ++ toBytes 1 r.later.toNat

/-- The READ_COUNTERS response body (R194). -/
def countersBody (c : List (BitVec 32)) : Frame := (c.map fun n => toBytes 4 n.toNat).flatten

/-- The LEAVE_GUARD response body (R10). -/
def leaveGuardBody (s : State) : Frame :=
  (s.sessions.map fun x => toBytes 1 x.state.code).flatten
    ++ toBytes 1 (boolCode s.wake.record.isSome)

/-! ### Control frames (R187, 11.6) -/

/-- A control frame of the part: untagged, from the control address, padded to 60 bytes (R187). -/
def controlFrame (dst : Mac) (kind code status tag : Nat) (body : Frame) : Frame :=
  padTo 60
    (macBytes dst ++ macBytes Config.controlMac ++ toBytes 2 Config.controlType
      ++ toBytes 1 1 ++ toBytes 1 kind ++ toBytes 1 code ++ toBytes 1 status ++ toBytes 2 tag
      ++ toBytes 2 body.length ++ body)

/-- A response to a command (R187). -/
def responseFrame (dst : Mac) (code : Nat) (status : Status) (tag : Nat) (body : Frame) : Frame :=
  controlFrame dst 2 code status.code tag body

/-- The destination of a notice: the host MAC, or broadcast while it is all zeros (R187). -/
def noticeDest (c : ConfigRecord) : Mac := if c.hostMac = 0 then Config.broadcastMac else c.hostMac

/-- A notice (R187, R197). -/
def noticeFrame (c : ConfigRecord) (code : Nat) (body : Frame) : Frame :=
  controlFrame (noticeDest c) 3 code Status.ok.code 0 body

/-- A HELD_RECORD notice (R197). -/
def heldRecordNotice (c : ConfigRecord) (r : HoldRecord) : Frame :=
  noticeFrame c 0x84
    (toBytes 2 r.serial.toNat ++ toBytes 1 r.origin.code ++ toBytes 4 r.arrival.toNat
      ++ toBytes 2 r.original)

/-- A CLIPPED_FRAME notice with the stored bytes (R197). -/
def clippedFrameNotice (c : ConfigRecord) (r : HoldRecord) (stored : Frame) : Frame :=
  noticeFrame c 0x81
    (toBytes 2 r.serial.toNat ++ toBytes 2 r.original ++ toBytes 2 r.stored ++ stored)

/-- A LOST_FRAMES notice (R197). -/
def lostFramesNotice (c : ConfigRecord) (serial : BitVec 16) (count : BitVec 8) : Frame :=
  noticeFrame c 0x82 (toBytes 2 serial.toNat ++ toBytes 1 count.toNat)

/-- A REHEARSAL_REPLY notice of a slot's built frame (R197). -/
def rehearsalNotice (c : ConfigRecord) (x : Slot) : Frame :=
  noticeFrame c 0x83
    (toBytes 1 x.kind.code
      ++ toBytes 1 (match x.session with
        | some i => i
        | none => 0xFF)
      ++ toBytes 2 x.frame.length ++ x.frame)

/-- A control frame's header as the control unit reads it (R184, R186): the source MAC, the header's
fields, the bytes present after the header, and the body. -/
structure ControlHeader where
  src : Mac
  version : Nat
  kind : Nat
  code : Nat
  tag : Nat
  bodyLength : Nat
  /-- The bytes present after the header: the length less 22, or 26 when tagged (R186). -/
  present : Nat
  body : Frame
deriving DecidableEq, Repr

/-- The header of a control frame (R184, R186, 11.6). -/
def readControl (f : Frame) : ControlHeader :=
  let h := l3Offset f
  { src := macAt f 6
    version := byteAt f h
    kind := byteAt f (h + 1)
    code := byteAt f (h + 2)
    tag := beNat f (h + 4) 2
    bodyLength := beNat f (h + 6) 2
    present := f.length - (h + 8)
    body := slice f (h + 8) (beNat f (h + 6) 2) }

end Sys2Proof.Machine
end

