-- ==== Sys2Proof/Machine/HoldQueue.lean ====
section
/-! DEFINITION. The hold queue: room, storing, losses (R169 to R173), delivery in DRAIN (R174 to R176), and
the step HOLD_APPEND. -/

namespace Sys2Proof.Machine

/-- The blocks that a frame of `n` bytes needs (R170). -/
def blocksNeeded (n : Nat) : Nat := (n + 255) / 256

/-- A record is clipped when its stored length is below its original length (R170). -/
def HoldRecord.clipped (r : HoldRecord) : Bool := decide (r.stored < r.original)

/-- The bytes that a record holds (R170). -/
def HoldQueue.storedBytes (h : HoldQueue) (r : HoldRecord) : Frame :=
  (r.blocks.map fun b => h.pool.getD b []).flatten.take r.stored

/-- Room is short for a frame that needs so many blocks (R172). -/
def HoldQueue.short (h : HoldQueue) (need : Nat) : Bool :=
  decide (h.freeBlocks.length < need) || decide (Config.holdRecords ≤ h.records.length)

/-- The place of the oldest HELD record that is not in delivery (R172, R174: only the head can be). -/
def HoldQueue.oldestHeld (h : HoldQueue) : Option Nat :=
  match h.stage with
  | .idle => h.records.findIdx? fun r => r.origin == .held
  | _ => (h.records.tail.findIdx? fun r => r.origin == .held).map (· + 1)

/-- A loss count carried from the record evicted at place `k`: to the record before it while that one's
frame item has not been delivered whole, and to the lead loss otherwise (R172). -/
def HoldQueue.carryLoss (h : HoldQueue) (k : Nat) (r : HoldRecord) : HoldQueue :=
  if r.lossAfter = 0 then h
  else if k = 0 ∨ (k = 1 ∧ h.stage = .loss) then
    { h with
      leadCount := satPlus h.leadCount r.lossAfter
      leadSerial := some (h.leadSerial.getD r.serial) }
  else
    { h with
      records :=
        h.records.modify (k - 1) fun p => { p with lossAfter := satPlus p.lossAfter r.lossAfter } }

/-- The record at a place evicted (R172). -/
def HoldQueue.evict (h : HoldQueue) (k : Nat) : HoldQueue :=
  match h.records[k]? with
  | none => h
  | some r =>
    let h := h.carryLoss k r
    { h with records := h.records.eraseIdx k }

/-- Eviction repeated while room is short and a HELD record not in delivery remains; the result and the
number of records evicted (R172). The first argument bounds the rounds. -/
def HoldQueue.makeRoom : Nat → Nat → HoldQueue → HoldQueue × Nat
  | 0, _, h => (h, 0)
  | fuel + 1, need, h =>
    if h.short need then
      match h.oldestHeld with
      | none => (h, 0)
      | some k =>
        let (h', n) := HoldQueue.makeRoom fuel need (h.evict k)
        (h', n + 1)
    else (h, 0)

/-- A frame's first bytes copied into blocks, 256 bytes to a block (R173, step 1). -/
def fillBlocks : List Nat → Frame → List Frame → List Frame
  | [], _, pool => pool
  | b :: rest, f, pool =>
    fillBlocks rest (f.drop Config.blockBytes) (pool.set b (f.take Config.blockBytes))

/-- The frame stored at the tail in as many free blocks as it needs or there are (R173). -/
def HoldQueue.store (h : HoldQueue) (o : Origin) (f : HeldFrame) : HoldQueue :=
  let need := blocksNeeded f.bytes.length
  let blocks := h.freeBlocks.take need
  { h with
    pool := fillBlocks blocks f.bytes h.pool
    records :=
      h.records
        ++ [{ serial := h.serial
              origin := o
              arrival := f.arrival
              original := f.bytes.length
              stored :=
                if blocks.length < need then blocks.length * Config.blockBytes else f.bytes.length
              lossAfter := 0
              blocks := blocks }]
    serial := h.serial + 1#16 }

/-- A lost frame counted on the newest record (R173). -/
def HoldQueue.lose (h : HoldQueue) : HoldQueue :=
  { h with
    records :=
      h.records.modify (h.records.length - 1) fun r => { r with lossAfter := satBump r.lossAfter } }

/-- A counter raised by a number of events. -/
def bumpTimes : Nat → Counter → State → State
  | 0, _, s => s
  | n + 1, c, s => bumpTimes n c (bump c s)

/-- One append (R171 to R173): the new state, and the record's serial or `none` for a lost frame. -/
def holdAppend (o : Origin) (f : HeldFrame) (s : State) : State × Option (BitVec 16) :=
  let need := blocksNeeded f.bytes.length
  let room :=
    if o = .held then (s.hold, 0) else s.hold.makeRoom s.hold.records.length need
  let s := bumpTimes room.2 .holdEvicted (s.setHold room.1)
  let h := s.hold
  if h.records.length < Config.holdRecords ∧ 0 < h.freeBlocks.length then
    (bumpIf (decide (h.freeBlocks.length < need)) .holdClipped (s.setHold (h.store o f)),
      some h.serial)
  else (bump .holdLost (s.setHold h.lose), none)

/-- HOLD_APPEND (R171): the hold queue takes the oldest frame handed to it and appends it. In PASS it
appends nothing. -/
def execHoldAppend (s : State) : Result :=
  match s.hold.appends with
  | [] => .next s
  | a :: rest =>
    let taken := s.setHold { s.hold with appends := rest }
    if s.modeCtl.mode = .pass then .next taken
    else .next (endDrain (holdAppend a.origin a.frame taken).1)

/-! ### Delivery (R174) -/

/-- The item that the hold queue offers in DRAIN, with its bytes (R174). -/
def holdItem (s : State) : Option EgressTx :=
  let h := s.hold
  let c := s.ctl.cfg
  let lead : EgressTx := ⟨.holdLead, lostFramesNotice c (h.leadSerial.getD 0) h.leadCount⟩
  match h.stage, h.records.head? with
  | .idle, none => if h.leadCount ≠ 0 then some lead else none
  | .idle, some r =>
    if h.leadCount ≠ 0 then some lead else some ⟨.holdNotice, heldRecordNotice c r⟩
  | .lead, _ => some lead
  | .notice, some r => some ⟨.holdNotice, heldRecordNotice c r⟩
  | .frame, some r =>
    some
      ⟨.holdFrame, if r.clipped then clippedFrameNotice c r (h.storedBytes r) else h.storedBytes r⟩
  | .loss, some r => some ⟨.holdLoss, lostFramesNotice c r.serial r.lossAfter⟩
  | _, none => none

/-- The stage once an item is granted: the head is in delivery from then on (R174). -/
def stageOf : EgressItem → HoldStage → HoldStage
  | .holdLead, _ => .lead
  | .holdNotice, _ => .notice
  | .holdFrame, _ => .frame
  | .holdLoss, _ => .loss
  | _, st => st

/-- The head record removed; its blocks return to the pool (R174). -/
def HoldQueue.removeHead (h : HoldQueue) : HoldQueue :=
  { h with records := h.records.tail, stage := .idle }

/-- A hold-queue item delivered whole (R174). -/
def holdDelivered (item : EgressItem) (h : HoldQueue) : HoldQueue :=
  match item with
  | .holdLead =>
    { h with
      leadCount := 0
      leadSerial := none
      stage := if h.records.isEmpty then .idle else .notice }
  | .holdNotice => { h with stage := .frame }
  | .holdFrame =>
    match h.records.head? with
    | some r => if r.lossAfter ≠ 0 then { h with stage := .loss } else h.removeHead
    | none => h.removeHead
  | .holdLoss => h.removeHead
  | _ => h

end Sys2Proof.Machine
end

