-- ==== Sys2Proof/Machine/ModeControl.lean ====
section
/-! DEFINITION. The mode controller's wake line: the handshakes of 1.5, and the steps PULSE_END and
RESUME_WINDOW_END. -/

namespace Sys2Proof.Machine

/-- A pulse starts: the line active, ASSERTED, both countdowns loaded, the window with the larger of the
resume window and the pulse width (R15). -/
def startPulse (c : ConfigRecord) (m : ModeCtl) : ModeCtl :=
  { m with
    active := true
    sub := .asserted
    pulse := some c.pulseWidth
    window := some (max c.resumeWindow c.pulseWidth) }

/-- The line inactive and the sub-state RESUMED, both countdowns stopped (R15, R17). -/
def ModeCtl.resume (m : ModeCtl) : ModeCtl :=
  { m with active := false, sub := .resumed, pulse := none, window := none }

/-- A PULSE cycle starts: retry count 0, and a pulse unless system-ready is high (R15). -/
def startCycle (c : ConfigRecord) (ready : Bool) (m : ModeCtl) : ModeCtl :=
  let m := { m with retry := 0 }
  if ready then m.resume else startPulse c m

/-- The LEVEL handshake: the line active, ASSERTED, and the resume window open unless system-ready is high
(R14). -/
def startLevel (c : ConfigRecord) (ready : Bool) (m : ModeCtl) : ModeCtl :=
  { m with
    active := true
    sub := .asserted
    pulse := none
    window := if ready then none else some c.resumeWindow }

/-- A wake assertion at the mode controller: the mode WAKING and the handshake of the configured wake mode
(R8). -/
def beginWaking (c : ConfigRecord) (ready : Bool) (m : ModeCtl) : ModeCtl :=
  let m := { m with mode := .waking }
  match c.wakeMode with
  | .level => startLevel c ready m
  | .pulse => startCycle c ready m

/-- A restart request: in PULSE mode a fresh cycle from RESUMED or UNANSWERED, nothing otherwise (R9, R18). -/
def restartRequest (c : ConfigRecord) (ready : Bool) (m : ModeCtl) : ModeCtl :=
  if c.wakeMode = .pulse ∧ (m.sub = .resumed ∨ m.sub = .unanswered) then startCycle c ready m else m

/-- A rise of system-ready at the mode controller: in PULSE mode R17's table; in LEVEL mode an open window
closes without effect (R14). -/
def riseAtWakeLine (c : ConfigRecord) (m : ModeCtl) : ModeCtl :=
  match c.wakeMode, m.sub with
  | .pulse, .asserted => m.resume
  | .pulse, .gap => m.resume
  | .pulse, .unanswered => m.resume
  | .level, .asserted => { m with window := none }
  | _, _ => m

/-- One tick of a countdown; one that has ended waits for its end step (R13, log 6). -/
def countDown : Option Nat → Option Nat
  | some (n + 1) => some n
  | x => x

/-- The resume window of a PULSE cycle ends in GAP: a further pulse, or UNANSWERED after the last retry
(R16). -/
def windowEndInGap (s : State) : State :=
  if s.modeCtl.retry < s.ctl.cfg.retryLimit then
    s.setModeCtl
      (startPulse s.ctl.cfg { s.modeCtl with retry := s.modeCtl.retry + 1 })
  else
    bump .wakeUnanswered
      (s.setModeCtl
        { s.modeCtl with active := false, sub := .unanswered, pulse := none, window := none })

/-- The end of the pulse countdown in ASSERTED: the line inactive and GAP; a window that ends at the same
tick is acted on at once (R16). -/
def pulseEnd (s : State) : State :=
  if s.ctl.cfg.wakeMode = .pulse ∧ s.modeCtl.sub = .asserted ∧ s.modeCtl.pulse = some 0 then
    let s := s.setModeCtl { s.modeCtl with active := false, sub := .gap, pulse := none }
    if s.modeCtl.window = some 0 then windowEndInGap s else s
  else s

/-- The end of the resume-window countdown (R14, R16). -/
def resumeWindowEnd (s : State) : State :=
  if s.modeCtl.window = some 0 then
    match s.ctl.cfg.wakeMode, s.modeCtl.sub with
    | .pulse, .gap => windowEndInGap s
    | .level, .asserted => bump .resumeLate (s.setModeCtl { s.modeCtl with window := none })
    | _, _ => s
  else s

/-- PULSE_END (R16): the pulse countdown has ended. -/
def execPulseEnd (s : State) : Result := .next (pulseEnd s)

/-- RESUME_WINDOW_END (R14, R16): the resume-window countdown has ended. -/
def execResumeWindowEnd (s : State) : Result := .next (resumeWindowEnd s)

end Sys2Proof.Machine
end

