-- ==== Sys2Proof/Machine/WakeControl.lean ====
section
/-! DEFINITION. The wake controller (09): judging a request, asserting a wake, quiet time and deferred wakes,
and the steps WAKE_REQUEST and QUIET_INTERVAL_END. -/

namespace Sys2Proof.Machine

/-- P and the pressure state after an assertion of a class: the weight added, saturating at 511; at L or
more the lock latched and P set to H (R158). -/
def addPressure (c : ConfigRecord) (cls : Nat) (w : WakeCtl) : WakeCtl :=
  let p := min 511 (w.pressure + weightOf c cls)
  if c.limL ≤ p then { w with pressure := c.limH, pstate := .locked }
  else retake c { w with pressure := p }

/-- The record captured if it is free; a captured one is not changed (R165). -/
def captureRecord (r : WakeRecord) (w : WakeCtl) : WakeCtl :=
  match w.record with
  | none => { w with record := some r }
  | some _ => w

/-- A request asserted, all as one event (R158): WAKES, the pressure, the quiet counter, the mode and the
handshake, the frame held as TRIGGER, the wake record. -/
def assertWake (cls : Nat) (cause : WakeCause) (source : Nat) (frame : Option HeldFrame) (s : State) :
    State :=
  let before := s.wake.pressure
  let s := bump .wakes s
  let s := s.setWake { addPressure s.ctl.cfg cls s.wake with quiet := 0 }
  let s := s.setModeCtl (beginWaking s.ctl.cfg s.sys.ready s.modeCtl)
  let appended : State × Option (BitVec 16) :=
    match frame with
    | some f => holdAppend .trigger f s
    | none => (s, none)
  let s := appended.1
  s.setWake
    (captureRecord
      { cause := cause
        cls := cls
        source := source
        tick := s.bank.tick
        elapsed := s.bank.elapsed
        pressure := before
        trigger := appended.2
        later := 0 }
      s.wake)

/-- The frame of a request handed to the hold queue with an origin, in the same event. -/
def holdRequestFrame (o : Origin) (r : WakeRequest) (s : State) : State :=
  match r.frame with
  | some f => (holdAppend o f s).1
  | none => s

/-- A suppressed request (R159). -/
def suppressRequest (r : WakeRequest) (s : State) : State :=
  let s := bump .wakeSuppressed s
  let s := s.setWake { s.wake with deferred := max s.wake.deferred r.cls }
  if s.ctl.cfg.suppressDrop then s else holdRequestFrame .suppressed r s

/-- A later cause in WAKING: counted in a captured record, its frame held as FOLLOWER, a restart request at
or above the effective threshold (R163). -/
def laterCause (r : WakeRequest) (s : State) : State :=
  let s :=
    s.setWake
      { s.wake with record := s.wake.record.map fun k => { k with later := satBump k.later } }
  let s := holdRequestFrame .follower r s
  if s.threshold ≤ r.cls then
    s.setModeCtl (restartRequest s.ctl.cfg s.sys.ready s.modeCtl)
  else s

/-- A request judged against the mode, the thresholds and the pressure as they stand (R154, R157 to R160,
R163, R164). -/
def judgeRequest (r : WakeRequest) (s : State) : State :=
  if r.rehearsal then bump .rehearsalWakes s
  else
    match s.modeCtl.mode with
    | .guard =>
      if belowPolicy s.ctl.cfg r.cls then bump .wakeBelow s
      else if s.threshold ≤ r.cls then assertWake r.cls r.cause r.source r.frame s
      else suppressRequest r s
    | .waking => if belowPolicy s.ctl.cfg r.cls then bump .wakeBelow s else laterCause r s
    | .drain => holdRequestFrame .follower r s
    | .pass => s

/-- WAKE_REQUEST (R154, R157): the wake controller takes the request at a place among those on their way. -/
def execWakeRequest (place : Nat) (s : State) : Result :=
  match s.wake.requests[place]? with
  | none => .next s
  | some r =>
    let taken := s.setWake { s.wake with requests := s.wake.requests.eraseIdx place }
    .next (endDrain (judgeRequest r taken))

/-- The effects of a quiet interval's end on the pressure: P lower by 1, the lock released when P is 0, an
unlocked state taken afresh (R161). -/
def easePressure (c : ConfigRecord) (w : WakeCtl) : WakeCtl :=
  let p := w.pressure - 1
  if w.pstate = .locked then
    { w with pressure := p, pstate := if p = 0 then .openState else .locked }
  else retake c { w with pressure := p }

/-- A fall of the effective threshold in GUARD with the deferred class at or above the new one asserts a wake
of cause DEFERRED, and the deferred class becomes 0 (R162). -/
def deferredWake (before : Nat) (s : State) : State :=
  if s.threshold < before ∧ s.modeCtl.mode = .guard ∧ s.threshold ≤ s.wake.deferred then
    let s := assertWake s.wake.deferred .deferred 0 none s
    s.setWake { s.wake with deferred := 0 }
  else s

/-- The end of a quiet interval, in one event (R161, R162). -/
def endQuietInterval (s : State) : State :=
  deferredWake s.threshold (s.setWake { easePressure s.ctl.cfg s.wake with quiet := 0 })

/-- The wake controller takes the tick held for it: the quiet counter moves, and at the interval or above it
the interval ends (R161, log 6). -/
def takeHeldTick (s : State) : State :=
  if s.wake.tickHeld then
    let s := s.setWake { s.wake with tickHeld := false }
    if s.ctl.cfg.quietInterval ≤ s.wake.quiet + 1 then endQuietInterval s
    else s.setWake { s.wake with quiet := s.wake.quiet + 1 }
  else s

/-- A tick at the wake controller: the quiet counter moves; a tick that completes the interval is held for
QUIET_INTERVAL_END (R161, log 6). -/
def tickAtWake (c : ConfigRecord) (w : WakeCtl) : WakeCtl :=
  if c.quietInterval ≤ w.quiet + 1 then { w with tickHeld := true }
  else { w with quiet := w.quiet + 1 }

/-- QUIET_INTERVAL_END (R161, R162). -/
def execQuietIntervalEnd (s : State) : Result := .next (takeHeldTick s)

end Sys2Proof.Machine
end

