-- ==== Sys2Proof/Machine/TimerBank.lean ====
section
/-! DEFINITION. The time base and timer bank (08): the steps TICK, EXPIRY_ANSWER and ALARM_EXPIRY. -/

namespace Sys2Proof.Machine

/-- A timer at a tick: RUNNING with no expiry outstanding it counts down, and at 0 it has expired (R147). -/
def Timer.tick (t : Timer) : Timer :=
  if t.state = .running ∧ t.outstanding = false then
    { t with count := t.count - 1, outstanding := decide (t.count - 1 = 0) }
  else t

/-- The timer expires at this tick (R147). -/
def Timer.expires (t : Timer) : Bool :=
  t.state == .running && !t.outstanding && t.count - 1 == 0

/-- The expiry notices of a tick, in ascending index: each with whether a reload is staged (R147). -/
def expiriesFrom : Nat → List Timer → List ExpiryNotice
  | _, [] => []
  | i, t :: rest =>
    if t.expires then ⟨i, t.staged.isSome⟩ :: expiriesFrom (i + 1) rest else expiriesFrom (i + 1) rest

/-- A tick at the timer bank: the tick count, E in guard, the timers (R143, R144, R147). -/
def tickAtBank (guard : Bool) (b : TimerBank) : TimerBank :=
  { b with
    tick := b.tick + 1#32
    elapsed := if guard then b.elapsed + 1#32 else b.elapsed
    timers := b.timers.map Timer.tick
    notices := b.notices ++ expiriesFrom 0 b.timers }

/-- A tick at the mode controller: both countdowns (R13). -/
def tickAtWakeLine (m : ModeCtl) : ModeCtl :=
  { m with pulse := countDown m.pulse, window := countDown m.window }

/-- What the tick before has ended and no step has acted on yet: it is acted on before the next tick (log 6). -/
def settleTick (s : State) : State := takeHeldTick (resumeWindowEnd (pulseEnd s))

/-- The tick reaches the timer bank, the wake controller and the mode controller (R142). -/
def countTick (s : State) : State :=
  ((s.setBank (tickAtBank (inGuard s) s.bank)).setWake (tickAtWake s.ctl.cfg s.wake)).setModeCtl
    (tickAtWakeLine s.modeCtl)

/-- TICK (R142, R143, R144, R147, R161, R13). -/
def execTick (s : State) : Result := .next (countTick (settleTick s))

/-- EXPIRY_ANSWER (R147): the timer bank takes the owner's answer for a timer. -/
def execExpiryAnswer (timer : Nat) (s : State) : Result :=
  if s.bank.answers.contains timer then
    .next
      (modifyTimer timer Timer.answered
        (s.setBank { s.bank with answers := s.bank.answers.erase timer }))
  else .next s

/-- The notice of a timer taken by its owner, if one is on its way (R147). -/
def takeNotice (timer : Nat) (s : State) : Option (ExpiryNotice × State) :=
  match s.bank.notices.find? fun n => n.timer == timer with
  | none => none
  | some n => some (n, s.setBank { s.bank with notices := s.bank.notices.erase n })

/-- An alarm's expiry at the alarm table: the request, then FIRED if ONE_SHOT, and the answer in the same
event (R152). -/
def alarmExpires (n : Nat) (s : State) : State :=
  let a := s.alarm n
  let s := sendRequest ⟨a.cls, .alarm, n, none, false⟩ s
  let s := if a.mode = .oneShot then modifyAlarm n (fun x => { x with state := .fired }) s else s
  modifyTimer (alarmTimer n) Timer.answered s

/-- ALARM_EXPIRY (R152): the alarm table takes an alarm's expiry notice; it has no effect on an alarm that is
no longer RUNNING. -/
def execAlarmExpiry (alarm : Nat) (s : State) : Result :=
  match takeNotice (alarmTimer alarm) s with
  | none => .next s
  | some (_, s) =>
    if (s.alarm alarm).state = .running then .next (alarmExpires alarm s) else .next s

end Sys2Proof.Machine
end

