-- ==== Sys2Proof/Machine/Keepalive.lean ====
section
/-! DEFINITION. The keepalive unit (06): expiries and probes, the judgement of arriving segments, detaching,
and the step SESSION_TIMER_EXPIRY. -/

namespace Sys2Proof.Machine

/-! ### Sequence arithmetic (R103) -/

/-- `b` is beyond `a`: (b − a) mod 2^32 lies in 1..2^31 − 1. -/
def beyond (a b : BitVec 32) : Bool := decide (1 ≤ (b - a).toNat) && decide ((b - a).toNat < 2 ^ 31)

/-! ### Leaving the running states -/

/-- A session leaves ALIVE and PROBING for a state: its timer stops and it leaves the pending-probe list
(R106, R113, R114, R119, R120). -/
def leaveRunning (i : Nat) (newState : SessionState) (s : State) : State :=
  let s := modifySession i (fun x => { x with state := newState }) s
  (stopTimer i s).setProbes (s.probes.filter (· != i))

/-- Several sessions leave ALIVE and PROBING for a state. -/
def leaveRunningAll (newState : SessionState) : List Nat → State → State
  | [], s => s
  | i :: rest, s => leaveRunningAll newState rest (leaveRunning i newState s)

/-- The running sessions with a property, in ascending index. -/
def runningSessions (p : Session → Bool) (s : State) : List Nat :=
  (List.range s.sessions.length).filter fun i => (s.session i).running && p (s.session i)

/-! ### Expiries (R105 to R107) -/

/-- The expiry of a session that is ALIVE: no probe if a reload is staged; otherwise PROBING, the retry
interval staged, a probe due (R105). -/
def expiryAlive (i : Nat) (staged : Bool) (s : State) : State :=
  if staged then s
  else
    let s := modifySession i (fun x => { x with state := .probing }) s
    probeDue i (stageTimer i (s.session i).retry s)

/-- The expiry of a session that is PROBING: a miss; at the limit DEAD with a wake request, below it a
further probe due (R106). -/
def expiryProbing (i : Nat) (s : State) : State :=
  let s := modifySession i (fun x => { x with miss := x.miss + 1 }) s
  let x := s.session i
  if x.miss < x.missLimit then probeDue i s
  else sendRequest ⟨x.deadCls, .sessionDead, i, none, false⟩ (leaveRunning i .dead s)

/-- The order "liveness first" of R107: the notice reported no staged reload, and a liveness segment that the
unit has taken while the notice was on its way has staged the idle interval (R117, log 8). -/
def livenessFirst (i : Nat) (staged : Bool) (s : State) : Bool := !staged && (s.timer i).staged.isSome

/-- SESSION_TIMER_EXPIRY (R105 to R107): the keepalive unit takes a session's expiry notice, acts on it, and
answers the timer bank. It reads the staged reload as the notice reported it (R105, R147); a session whose
liveness it has taken first stays ALIVE and sends no probe (R107). -/
def execSessionTimerExpiry (session : Nat) (s : State) : Result :=
  if Config.sessionEntries ≤ session then .next s
  else
    match takeNotice session s with
    | none => .next s
    | some (n, s) =>
      let s :=
        match (s.session session).state with
        | .alive => if livenessFirst session n.staged s then s else expiryAlive session n.staged s
        | .probing => expiryProbing session s
        | _ => s
      .next (s.setBank { s.bank with answers := s.bank.answers ++ [session] })

/-! ### Judging a segment (R111 to R118) -/

/-- What a responder made of a frame: the state after it, and whether it declined the frame (R51). -/
structure Judged where
  state : State
  declined : Bool

/-- The frame is declined; the entry's fallback applies (R52). -/
def Judged.decline (s : State) : Judged := ⟨s, true⟩

/-- The frame is disposed of: answered, dropped or passed on (R51). -/
def Judged.done (s : State) : Judged := ⟨s, false⟩

/-- The TSval of a segment's options, scanned as R112 states; the first argument bounds the options. The scan
ends at the first option of kind 8 and length 10, whatever follows it: R112 leaves open which of two such
options counts and what a malformed option after one does (log 22, DESIGN CHOICE). -/
def scanTsval : Nat → Frame → Option (BitVec 32)
  | 0, _ => none
  | _ + 1, [] => none
  | fuel + 1, kind :: rest =>
    if kind = 0 then none
    else if kind = 1 then scanTsval fuel rest
    else
      match rest with
      | [] => none
      | len :: _ =>
        if len.toNat < 2 ∨ rest.length + 1 < len.toNat then none
        else if kind = 8 ∧ len = 10 then some (v4At rest 1)
        else scanTsval fuel (rest.drop (len.toNat - 1))

/-- The TSval of a segment, when the session's timestamp part is present (R112). -/
def segmentTsval (x : Session) (p : ParsedFrame) : Option (BitVec 32) :=
  match x.ts with
  | none => none
  | some _ =>
    let options := slice p.bytes (p.pos.l4 + 20) (p.pos.pay - (p.pos.l4 + 20))
    scanTsval options.length options

/-- A segment's length: header and payload. -/
def segmentLength (p : ParsedFrame) : Nat := p.pos.pay - p.pos.l4 + p.fv.l4len

/-- A transport message's checksum with its pseudo-header is good (R67, R80, R89, R111). -/
def transportGood (p : ParsedFrame) (length proto : Nat) : Bool :=
  sumGood
    (pseudoHeader (sourceOf p.fv.l3kind p.bytes p.pos.l3) (destOf p.fv.l3kind p.bytes p.pos.l3) length
        proto
      ++ slice p.bytes p.pos.l4 length)

/-- A segment that counts as liveness (R117). -/
def liveness (i : Nat) (tsval : Option (BitVec 32)) (s : State) : State :=
  let s :=
    modifySession i
      (fun x =>
        { x with state := .alive, miss := 0, lastPeer := tsval.getD x.lastPeer }) s
  (stageTimer i (s.session i).idle s).setProbes (s.probes.filter (· != i))

/-- An ACK reply to a segment, or its skip (R118). -/
def ackReply (i : Nat) (p : ParsedFrame) (s : State) : State :=
  let x := s.session i
  let src := (s.identity x.localId).addr
  match
    buildReply p.path .ack (some i) (isV4 src)
      (fun id => ackFrame s.ctl.cfg id (macAt p.bytes 6) x src s.bank.elapsed) s with
  | some s =>
    bump .acksSent (modifySession i (fun x => { x with acksSent := satBump x.acksSent }) s)
  | none => skipReply p.path s

/-- A segment passed on with a wake request: the session leaves its running state (R113, R114). -/
def passOn (i : Nat) (newState : SessionState) (cls : Nat) (cause : WakeCause) (p : ParsedFrame) (s : State) :
    Judged :=
  .done
    (sendRequest ⟨cls, cause, i, some ⟨p.bytes, p.arrival⟩, false⟩ (leaveRunning i newState s))

/-- The ordered cases of a segment of a running session with a good checksum (R113 to R116). -/
def judgeSegment (i : Nat) (p : ParsedFrame) (s : State) : Judged :=
  let x := s.session i
  let seq := v4At p.bytes (p.pos.l4 + 4)
  let ack := v4At p.bytes (p.pos.l4 + 8)
  let flags := p.fv.tcpflags
  let len := p.fv.l4len
  let stop := seq + BitVec.ofNat 32 len
  let tsval := segmentTsval x p
  if flags.testBit 1 then passOn i .ended x.endCls .sessionEnd p s
  else if flags.testBit 2 then
    if seq = x.rcv then passOn i .ended x.endCls .sessionEnd p s else .done (bump .rstIgnored s)
  else if flags.testBit 0 ∧ seq = x.rcv then passOn i .ended x.endCls .sessionEnd p s
  else if 1 ≤ len ∧ beyond x.rcv stop then passOn i .handed x.dataCls .sessionData p s
  else if 1 ≤ len then .done (ackReply i p (liveness i tsval s))
  else if seq = x.rcv - 1#32 then .done (ackReply i p (liveness i tsval s))
  else if seq = x.rcv ∧ flags.testBit 4 then
    if beyond x.snd ack then .done (bump .ackInvalid s) else .done (liveness i tsval s)
  else .done (bump .outOfWindow s)

/-- The keepalive unit's judgement of a frame handed to it (R111). A rehearsal copy is declined (R20,
log 11). -/
def judgeSession (p : ParsedFrame) (s : State) : Judged :=
  let i := p.fv.session
  if p.path = .copy then .decline s
  else if p.fv.pstatus ≠ .ok ∨ p.fv.proto ≠ 6 ∨ p.fv.frag ≠ .whole then .decline s
  else if Config.sessionEntries ≤ i then .decline s
  else if (s.session i).running = false then .decline s
  else if transportGood p (segmentLength p) 6 = false then .done (bump .l4Badsum s)
  else judgeSegment i p s

/-! ### Detaching (R119, R120) -/

/-- A session's tuple in the outbound direction is that of a frame (R119). -/
def matchesOutbound (ids : List Identity) (src dst : Addr) (v : FieldVector) (x : Session) : Bool :=
  sameFamily x.remote src && (ids.getD x.localId Identity.powerOn).addr == src
    && x.localPort == v.sport && x.remote == dst && x.remotePort == v.dport

/-- A data frame that leaves the receive FIFO for the line is inspected in GUARD and WAKING: every running
session whose tuple it has becomes DETACHED (R119). -/
def inspectOutbound (b : Frame) (s : State) : State :=
  if inGuard s then
    let p := parseFrame (s.parseContext false) b
    if p.fv.pstatus = .ok ∧ p.fv.frag ≠ .later ∧ p.fv.proto = 6
        ∧ (p.fv.l3kind = .ipv4 ∨ p.fv.l3kind = .ipv6) then
      let src := sourceOf p.fv.l3kind b p.pos.l3
      let dst := destOf p.fv.l3kind b p.pos.l3
      leaveRunningAll .detached (runningSessions (matchesOutbound s.identities src dst p.fv) s) s
    else s
  else s

/-- The notice of a conflict on an identity: every running session on it becomes DETACHED (R120). -/
def detachIdentity (id : Nat) (s : State) : State :=
  leaveRunningAll .detached (runningSessions (fun x => x.localId == id) s) s

end Sys2Proof.Machine
end

