-- ==== Sys2Proof/Machine/AddressResponder.lean ====
section
/-! DEFINITION. The address responder (04): sorting and accepting frames, conflicts and their defence, answers
to address resolution and neighbour solicitation. -/

namespace Sys2Proof.Machine

/-- A V4 identity's address. -/
def v4Of : Addr → BitVec 32
  | .v4 a => a
  | .v6 _ => 0

/-- A V6 identity's address. -/
def v6Of : Addr → BitVec 128
  | .v6 a => a
  | .v4 _ => 0

/-- DSTID names a valid identity of a family. -/
def namesIdentity (ids : List Identity) (id : Nat) (v4 : Bool) : Bool :=
  match ids[id]? with
  | some i => i.valid && isV4 i.addr == v4
  | none => false

/-- DSTID names a valid READY identity of a family with a property. -/
def namesReady (ids : List Identity) (id : Nat) (v4 : Bool) (p : Identity → Bool) : Bool :=
  namesIdentity ids id v4
    && match ids[id]? with
      | some i => i.state == .ready && p i
      | none => false

/-- The three kinds of frame that the address responder judges (R66). -/
inductive AddressKind where
  | arp | solicitation | advertisement
deriving DecidableEq, Repr

/-- A frame sorted by kind; any other is declined (R66). -/
def addressKind (v : FieldVector) : Option AddressKind :=
  if v.pstatus ≠ .ok then none
  else if v.l3kind = .arp then some .arp
  else if v.l3kind = .ipv6 ∧ v.proto = 58 ∧ v.icmptype = 135 then some .solicitation
  else if v.l3kind = .ipv6 ∧ v.proto = 58 ∧ v.icmptype = 136 then some .advertisement
  else none

/-- The parts of an ARP frame's body (R34, R69). -/
structure ArpBody where
  op : Nat
  senderMac : Mac
  senderIp : BitVec 32
  targetIp : BitVec 32

/-- An ARP frame's body. -/
def arpBody (p : ParsedFrame) : ArpBody :=
  ⟨beNat p.bytes (p.pos.l3 + 6) 2, macAt p.bytes (p.pos.l3 + 8), v4At p.bytes (p.pos.l3 + 14),
    v4At p.bytes (p.pos.l3 + 24)⟩

/-- The form of a conflict (R71). -/
inductive ConflictForm where
  | foreignClaim | arpProbe | duplicateProbe | foreignAdvertisement
deriving DecidableEq, Repr

/-- The conflict an ARP frame shows, if any: the identity and the form (R71). -/
def arpConflict (s : State) (p : ParsedFrame) : Option (Nat × ConflictForm) :=
  let a := arpBody p
  if a.senderMac = s.ctl.cfg.hostMac then none
  else
    match identityOf s.identities (.v4 a.senderIp) with
    | some i => some (i, .foreignClaim)
    | none =>
      if a.op = 1 ∧ a.senderIp = 0 ∧ namesIdentity s.identities p.fv.dstid true then
        some (p.fv.dstid, .arpProbe)
      else none

/-- The conflict an accepted solicitation or advertisement shows, if any (R71). -/
def ndConflict (s : State) (kind : AddressKind) (p : ParsedFrame) : Option (Nat × ConflictForm) :=
  if macAt p.bytes 6 = s.ctl.cfg.hostMac ∨ namesIdentity s.identities p.fv.dstid false = false then none
  else if kind = .advertisement then some (p.fv.dstid, .foreignAdvertisement)
  else if isUnspecified (sourceOf .ipv6 p.bytes p.pos.l3) then some (p.fv.dstid, .duplicateProbe)
  else none

/-- The defence frame of a conflict (R74). -/
def defenceFrame (c : ConfigRecord) (form : ConflictForm) (i : Identity) (p : ParsedFrame) : Frame :=
  match form with
  | .arpProbe =>
    arpFrame c (arpBody p).senderMac 2 (v4Of i.addr) (arpBody p).senderMac 0
  | .foreignClaim => arpFrame c Config.broadcastMac 1 (v4Of i.addr) 0 (v4Of i.addr)
  | .duplicateProbe =>
    advertisementFrame c Config.allNodesMac (v6Of i.addr) Config.allNodesV6 overrideOnly
  | .foreignAdvertisement =>
    advertisementFrame c Config.allNodesMac (v6Of i.addr) Config.allNodesV6 overrideOnly

/-- The defence built, or skipped for want of a slot, when the identity's defend flag is set (R72, step 1). -/
def defend (form : ConflictForm) (i : Identity) (p : ParsedFrame) (s : State) : State :=
  if i.defend then
    match
      buildReply p.path .defence none false (fun _ => defenceFrame s.ctl.cfg form i p) s with
    | some s => s
    | none => skipReply p.path s
  else s

/-- An identity's conflict count and CONFLICTS incremented (R72, R73). -/
def countConflict (id : Nat) (s : State) : State :=
  bump .conflicts
    (modifyIdentity id (fun i => { i with conflicts := satBump i.conflicts }) s)

/-- A conflict handled (R72, R73, R75, R76). -/
def handleConflict (id : Nat) (form : ConflictForm) (p : ParsedFrame) (s : State) : Judged :=
  let i := s.identity id
  let frame : HeldFrame := ⟨p.bytes, p.arrival⟩
  if p.path = .copy then
    if i.state = .conflicted then .decline s
    else
      .done (sendRequest ⟨i.cls, .addressConflict, id, some frame, true⟩ (defend form i p s))
  else if i.state = .conflicted then .decline (countConflict id s)
  else
    let s := defend form i p s
    let s := modifyIdentity id (fun i => { i with state := .conflicted }) s
    let s := detachIdentity id (countConflict id s)
    if inGuard s then .done (sendRequest ⟨i.cls, .addressConflict, id, some frame, false⟩ s)
    else .done (handToHold .follower frame s)

/-- A built answer counted outside rehearsal, or its skip (R125). -/
def answer (p : ParsedFrame) (c : Counter) (takesId : Bool) (frame : BitVec 16 → Frame) (s : State) :
    State :=
  match buildReply p.path .answer none takesId frame s with
  | some s => bumpIf (p.path != .copy) c s
  | none => skipReply p.path s

/-- An ARP frame without a conflict (R69). -/
def answerArp (p : ParsedFrame) (s : State) : Judged :=
  let a := arpBody p
  let c := s.ctl.cfg
  if a.op = 1 ∧ a.senderMac ≠ c.hostMac ∧ a.senderIp ≠ 0
      ∧ namesReady s.identities p.fv.dstid true Identity.answerResolution then
    .done
      (answer p .answerArp false
        (fun _ =>
          arpFrame c a.senderMac 2 (v4Of (s.identity p.fv.dstid).addr) a.senderMac a.senderIp) s)
  else .decline s

/-- An accepted solicitation without a conflict (R70). -/
def answerSolicitation (p : ParsedFrame) (s : State) : Judged :=
  let src := sourceOf .ipv6 p.bytes p.pos.l3
  if canReceive src ∧ namesReady s.identities p.fv.dstid false Identity.answerResolution then
    .done
      (answer p .answerNd false
        (fun _ =>
          advertisementFrame s.ctl.cfg (macAt p.bytes 6) (v6Of (s.identity p.fv.dstid).addr) (v6Of src)
            solicitedOverride) s)
  else .decline s

/-- A bad transport checksum: the frame is dropped and counted outside rehearsal (R67, R76, R80, R85, R89,
R96). -/
def dropBadSum (p : ParsedFrame) (s : State) : Judged :=
  .done (bumpIf (p.path != .copy) .l4Badsum s)

/-- A solicitation or advertisement (R67, R68, R70, R71). -/
def judgeNd (kind : AddressKind) (p : ParsedFrame) (s : State) : Judged :=
  if p.fv.frag ≠ .whole ∨ p.fv.l4len + 8 < 24 then .decline s
  else if transportGood p (p.fv.l4len + 8) 58 = false then dropBadSum p s
  else if byteAt p.bytes (p.pos.l3 + 7) ≠ 255 ∨ byteAt p.bytes (p.pos.l4 + 1) ≠ 0 then .decline s
  else if isMulticast6 (v6At p.bytes (p.pos.l4 + 8)) then .decline s
  else
    match ndConflict s kind p with
    | some (i, form) => handleConflict i form p s
    | none => if kind = .solicitation then answerSolicitation p s else .decline s

/-- The address responder's judgement of a frame handed to it (R66 to R76). -/
def judgeAddress (p : ParsedFrame) (s : State) : Judged :=
  match addressKind p.fv with
  | none => .decline s
  | some .arp =>
    match arpConflict s p with
    | some (i, form) => handleConflict i form p s
    | none => answerArp p s
  | some kind => judgeNd kind p s

end Sys2Proof.Machine
end

