-- ==== Sys2Proof/Machine/EchoResponder.lean ====
section
/-! DEFINITION. The echo responder (5.1): the checks of an echo request and its reply. -/

namespace Sys2Proof.Machine

/-- An echo request of either family (R79). -/
def isEchoRequest (v : FieldVector) : Bool :=
  v.pstatus == .ok
    && (v.l3kind == .ipv4 && v.proto == 1 && v.icmptype == 8
      || v.l3kind == .ipv6 && v.proto == 58 && v.icmptype == 128)

/-- The checksum of an echo request's message is good; in IPv6 it covers the pseudo-header too (R80,
check 3). -/
def echoSumGood (p : ParsedFrame) : Bool :=
  let m := p.fv.l4len + 8
  if p.fv.l3kind = .ipv4 then sumGood (slice p.bytes p.pos.l4 m) else transportGood p m 58

/-- The address conditions of an echo request (R81). -/
def echoAddressesMeet (s : State) (p : ParsedFrame) : Bool :=
  p.fv.dclass == .own
    && namesReady s.identities p.fv.dstid (p.fv.l3kind == .ipv4) Identity.answerEcho
    && canReceive (sourceOf p.fv.l3kind p.bytes p.pos.l3) && !isGroupMac (macAt p.bytes 6)

/-- The reply to a message of `m` bytes fits in a reply slot (R82). -/
def echoFits (c : ConfigRecord) (v4 : Bool) (m : Nat) : Bool :=
  decide ((if c.vid = 0 then 14 else 18) + (if v4 then 20 else 40) + m ≤ Config.slotBytes)

/-- The echo reply's frame (R83, R84). -/
def echoReplyFrame (c : ConfigRecord) (id : BitVec 16) (i : Identity) (p : ParsedFrame) : Frame :=
  let request := slice p.bytes p.pos.l4 (p.fv.l4len + 8)
  ipFrame c id (macAt p.bytes 6) c.hopLimit (if p.fv.l3kind = .ipv4 then 1 else 58) i.addr
    (sourceOf p.fv.l3kind p.bytes p.pos.l3) (echoMessage i.addr request)

/-- The echo responder's judgement of a frame handed to it (R79 to R85). -/
def judgeEcho (p : ParsedFrame) (s : State) : Judged :=
  let v4 := p.fv.l3kind == .ipv4
  if isEchoRequest p.fv = false then .decline s
  else if p.fv.frag ≠ .whole then .decline s
  else if byteAt p.bytes (p.pos.l4 + 1) ≠ 0 then .decline s
  else if echoSumGood p = false then dropBadSum p s
  else if echoAddressesMeet s p = false then .decline s
  else if echoFits s.ctl.cfg v4 (p.fv.l4len + 8) = false then .decline s
  else
    .done
      (answer p .answerEcho v4
        (fun id => echoReplyFrame s.ctl.cfg id (s.identity p.fv.dstid) p) s)

end Sys2Proof.Machine
end

