-- ==== Sys2Proof/Machine/NameResponder.lean ====
section
/-! DEFINITION. The name responder (5.2, 5.3): judging a name query and building its answer. -/

namespace Sys2Proof.Machine

/-- The configured name group of a family (R89). -/
def groupOf (c : ConfigRecord) (v4 : Bool) : Addr := if v4 then .v4 c.group4 else .v6 c.group6

/-- The UDP checksum is good: 0 means none was computed in IPv4 and is bad in IPv6 (R89, step 4). -/
def udpSumGood (p : ParsedFrame) : Bool :=
  if beNat p.bytes (p.pos.l4 + 6) 2 = 0 then p.fv.l3kind == .ipv4
  else transportGood p (p.fv.l4len + 8) 17

/-- The header of a query meets R90. -/
def queryHeaderMeets (m : Frame) : Bool :=
  decide (12 ≤ m.length) && byteAt m 2 / 8 == 0 && beNat m 4 2 == 1 && beNat m 6 2 == 0
    && beNat m 8 2 == 0

/-- The name at the front of a run of bytes, closing zero byte included (R91): read label by label; a length
byte of 64 or more, or a name that runs past the end, gives none. The first argument bounds the labels. -/
def takeName : Nat → Frame → Option Frame
  | 0, _ => none
  | _ + 1, [] => none
  | fuel + 1, n :: rest =>
    if n = 0 then some [0]
    else if n.toNat ≤ 63 ∧ n.toNat ≤ rest.length then
      (takeName fuel (rest.drop n.toNat)).map fun t => n :: (rest.take n.toNat ++ t)
    else none

/-- A query's question: its name in the query's letter case, its type, its unicast-reply bit. -/
structure Question where
  name : Frame
  qtype : Nat
  unicast : Bool
deriving DecidableEq, Repr

/-- The question of a query, when it meets R91. -/
def readQuestion (m : Frame) : Option Question :=
  match takeName 65 (m.drop 12) with
  | none => none
  | some name =>
    let at' := 12 + name.length
    let qtype := beNat m at' 2
    let qclass := beNat m (at' + 2) 2
    if 2 ≤ name.length ∧ name.length ≤ 64 ∧ at' + 4 ≤ m.length
        ∧ (qtype = 1 ∨ qtype = 28 ∨ qtype = 255) ∧ qclass % 0x8000 = 1 then
      some ⟨name, qtype, decide (0x8000 ≤ qclass)⟩
    else none

/-- An ASCII letter A to Z taken as the letter a to z (R92). -/
def lowerByte (b : Byte) : Byte := if 0x41 ≤ b.toNat ∧ b.toNat ≤ 0x5A then b + 32#8 else b

/-- Two names in wire form are equal: length bytes exactly, label bytes but for the case of ASCII letters
(R92). The first argument bounds the labels. -/
def namesEqual : Nat → Frame → Frame → Bool
  | 0, _, _ => false
  | _ + 1, [], [] => true
  | fuel + 1, n :: a, m :: b =>
    n == m && (a.take n.toNat).map lowerByte == (b.take m.toNat).map lowerByte
      && namesEqual fuel (a.drop n.toNat) (b.drop m.toNat)
  | _ + 1, _, _ => false

/-- The first valid entry whose name is equal to the question name (R92). -/
def matchingName (names : List NameEntry) (q : Frame) : Option Nat :=
  names.findIdx? fun e => e.valid && namesEqual 65 e.name q

/-- The address's family fits a question type: V4 for A, V6 for AAAA, either for ANY (R93). -/
def fitsType (qtype : Nat) (a : Addr) : Bool :=
  qtype == 255 || (if isV4 a then qtype == 1 else qtype == 28)

/-- The addresses of the answer's records: at most four identities of the entry's set, in ascending index
(R93). -/
def answerAddresses (ids : List Identity) (e : NameEntry) (qtype : Nat) : List Addr :=
  (((List.range ids.length).filter fun k =>
        e.idset.getLsbD k && namesReady ids k (isV4 (ids.getD k Identity.powerOn).addr) fun i =>
          fitsType qtype i.addr).map
      fun k => (ids.getD k Identity.powerOn).addr).take 4

/-- The lowest valid READY identity of a family (R95). -/
def firstReady (ids : List Identity) (v4 : Bool) : Option Addr :=
  (ids.find? fun i => i.valid && i.state == .ready && isV4 i.addr == v4).map Identity.addr

/-- Where an answer goes: Ethernet destination, IP destination, UDP destination port (R95). -/
structure AnswerTarget where
  mac : Mac
  ip : Addr
  port : Nat

/-- To the querier on the unicast-reply bit or another source port, if it can receive; to the group otherwise
(R95). -/
def answerTarget (c : ConfigRecord) (v4 : Bool) (p : ParsedFrame) (q : Question) : Option AnswerTarget :=
  if q.unicast ∨ p.fv.sport ≠ c.namePort then
    let src := sourceOf p.fv.l3kind p.bytes p.pos.l3
    if canReceive src && !isGroupMac (macAt p.bytes 6) then
      some ⟨macAt p.bytes 6, src, p.fv.sport⟩
    else none
  else some ⟨groupMac (groupOf c v4), groupOf c v4, c.namePort⟩

/-- The answer's IP source: the identity DSTID names for a direct query, the lowest READY identity of the
family for a group query (R95). -/
def answerSource (s : State) (v4 direct : Bool) (p : ParsedFrame) : Option Addr :=
  if direct then some (s.identity p.fv.dstid).addr else firstReady s.identities v4

/-- An answer built, counted in ANSWER_NAME and in the entry outside rehearsal, or its skip (R96). -/
def answerName (p : ParsedFrame) (entry : Nat) (takesId : Bool) (frame : BitVec 16 → Frame) (s : State) :
    State :=
  match buildReply p.path .answer none takesId frame s with
  | some s =>
    if p.path = .copy then s
    else
      bump .answerName
        (s.setNames (s.names.modify entry fun e => { e with answers := satBump e.answers }))
  | none => skipReply p.path s

/-- A query with a good transport, judged by its message (R90 to R96). -/
def judgeQuery (v4 direct : Bool) (p : ParsedFrame) (s : State) : Judged :=
  let m := slice p.bytes p.pos.pay p.fv.l4len
  let c := s.ctl.cfg
  if queryHeaderMeets m = false then .decline s
  else
    match readQuestion m with
    | none => .decline s
    | some q =>
      match matchingName s.names q.name with
      | none => .decline s
      | some k =>
        let e := s.names.getD k NameEntry.powerOn
        let records := answerAddresses s.identities e q.qtype
        if records = [] then .decline s
        else
          match answerTarget c v4 p q, answerSource s v4 direct p with
          | some t, some src =>
            .done
              (answerName p k v4
                (fun id =>
                  ipFrame c id t.mac c.hopLimit 17 src t.ip
                    (udpDatagram src t.ip c.namePort t.port
                      (nameMessage (beNat m 0 2) q.name e.ttl records))) s)
          | _, _ => .decline s

/-- The name responder's judgement of a frame handed to it (R89). -/
def judgeName (p : ParsedFrame) (s : State) : Judged :=
  let v4 := p.fv.l3kind == .ipv4
  let direct := namesReady s.identities p.fv.dstid v4 fun _ => true
  let group := destOf p.fv.l3kind p.bytes p.pos.l3 == groupOf s.ctl.cfg v4
  if p.fv.pstatus ≠ .ok ∨ (p.fv.l3kind ≠ .ipv4 ∧ p.fv.l3kind ≠ .ipv6) ∨ p.fv.proto ≠ 17
      ∨ p.fv.frag ≠ .whole then .decline s
  else if p.fv.dport ≠ s.ctl.cfg.namePort then .decline s
  else if (direct || group) = false then .decline s
  else if udpSumGood p = false then dropBadSum p s
  else judgeQuery v4 direct p s

end Sys2Proof.Machine
end

