-- ==== Sys2Proof/Machine/Classifier.lean ====
section
/-! DEFINITION. The classifier (03): terms, entries, the verdict and carrying it out, and the step
CLASSIFY_FRAME. -/

namespace Sys2Proof.Machine

/-- A term position matches a field vector: nothing matches all; a term compares the bits set in its mask
(R42). -/
def termMatches (v : FieldVector) : Option Term → Bool
  | none => true
  | some t => BitVec.ofNat 32 (v.get t.field) &&& t.mask == t.value &&& t.mask

/-- An entry matches: valid, and every term position matches (R43). -/
def entryMatches (v : FieldVector) (e : MatchEntry) : Bool := e.valid && e.terms.all (termMatches v)

/-- The lowest valid entry that matches (R44). -/
def firstMatch (table : List MatchEntry) (v : FieldVector) : Option Nat :=
  table.findIdx? (entryMatches v)

/-- The frame of a verdict on its way to the laptop. -/
def ParsedFrame.held (p : ParsedFrame) : HeldFrame := ⟨p.bytes, p.arrival⟩

/-- A HOLD verdict: a rehearsal copy is discarded; HELD in GUARD, FOLLOWER in WAKING and for a frame carried
through after LEAVE_GUARD (R48, R20, R11). -/
def holdVerdict (p : ParsedFrame) (s : State) : State :=
  if p.path = .copy then s
  else handToHold (if s.modeCtl.mode = .guard then .held else .follower) p.held s

/-- A WAKE verdict or fallback of an entry: a request in guard, a rehearsal request for a copy, an append as
FOLLOWER for a frame carried through after LEAVE_GUARD (R49, R52, R20, R11). -/
def wakeVerdict (cause : WakeCause) (entry cls : Nat) (p : ParsedFrame) (s : State) : State :=
  if p.path = .copy then sendRequest ⟨cls, cause, entry, some p.held, true⟩ s
  else if inGuard s then sendRequest ⟨cls, cause, entry, some p.held, false⟩ s
  else handToHold .follower p.held s

/-- A fallback applied (R52). -/
def applyFallback (entry : Nat) (e : MatchEntry) (p : ParsedFrame) (s : State) : State :=
  match e.fallback with
  | .drop => s
  | .hold => holdVerdict p s
  | .wake => wakeVerdict .fallback entry e.cls p s

/-- A responder's outcome: the fallback applies if it declined (R51, R52). -/
def afterResponder (entry : Nat) (e : MatchEntry) (p : ParsedFrame) (j : Judged) : State :=
  if j.declined then applyFallback entry e p j.state else j.state

/-- An entry's verdict carried out (R47 to R52). -/
def carryOut (entry : Nat) (e : MatchEntry) (p : ParsedFrame) (s : State) : State :=
  match e.action with
  | .drop => s
  | .hold => holdVerdict p s
  | .wake => wakeVerdict .frameMatch entry e.cls p s
  | .answerAddress => afterResponder entry e p (judgeAddress p s)
  | .answerEcho => afterResponder entry e p (judgeEcho p s)
  | .answerName => afterResponder entry e p (judgeName p s)
  | .answerSession => afterResponder entry e p (judgeSession p s)

/-- A frame evaluated and its verdict carried out: the entry's hit count or MATCH_NONE moves (R44, R45). -/
def classify (p : ParsedFrame) (s : State) : State :=
  match firstMatch s.matchTable p.fv with
  | some k =>
    carryOut k (s.matchTable.getD k MatchEntry.powerOn) p
      (s.setMatchTable (s.matchTable.modify k fun e => { e with hits := satBump e.hits }))
  | none =>
    let s := bump .matchNone s
    if s.ctl.cfg.defaultHold then holdVerdict p s else s

/-- The classifier has carried out its last verdict: no request with a frame and no append is on its way
(R46, R49). -/
def classifierFree (s : State) : Bool :=
  s.wake.requests.all (fun r => r.frame.isNone) && s.hold.appends.isEmpty

/-- CLASSIFY_FRAME (R44 to R53): the classifier takes the parsed frame once it is free. -/
def execClassifyFrame (s : State) : Result :=
  match s.guardPath.parsed with
  | none => .next s
  | some p =>
    if classifierFree s then
      .next (endDrain (classify p (s.setGuardPath { s.guardPath with parsed := none })))
    else .next s

end Sys2Proof.Machine
end

