-- ==== Sys2Proof/Machine/LineArbiter.lean ====
section
/-! DEFINITION. The line transmit arbiter (7.5): the steps LINE_TX_GRANT, LINE_TX_DONE and
SYSTEM_FRAME_DISCARD. -/

namespace Sys2Proof.Machine

/-- The data frame that stands at the head of the receive FIFO, if there is one (R137, R179). -/
def dataHead (s : State) : Option Frame :=
  match s.sys.rx with
  | f :: _ => if isControl f then none else some f
  | [] => none

/-- The head of the receive FIFO taken. -/
def takeHead (s : State) : State := s.setSys { s.sys with rx := s.sys.rx.tail }

/-- A grant to the reply queue: its oldest slot becomes SENDING and leaves the queue (R124, R137). -/
def grantReply (i : Nat) (s : State) : State :=
  (s.setReply
      { s.reply with
        slots := s.reply.slots.modify i fun x => { x with state := .sending }
        queue := s.reply.queue.tail }).setArb
    ⟨some (.reply i), .reply⟩

/-- A grant to the system data source: the frame leaves the receive FIFO and is inspected for detach (R137,
R119). -/
def grantSystem (f : Frame) (s : State) : State :=
  inspectOutbound f ((takeHead s).setArb ⟨some (.system f), .system⟩)

/-- The grant of an idle transmitter on an UP link: the one source that waits, or of two the one not served
last (R137). -/
def grantLine (s : State) : State :=
  match s.reply.queue.head?, dataHead s with
  | some i, none => grantReply i s
  | none, some f => grantSystem f s
  | some i, some f => if s.arb.last = .system then grantReply i s else grantSystem f s
  | none, none => s

/-- LINE_TX_GRANT (R137): no grant while the link is DOWN or the transmitter is busy (R138). -/
def execLineTxGrant (s : State) : Result :=
  if s.linePort.up = true ∧ s.arb.tx = none then .next (grantLine s) else .next s

/-- LINE_TX_DONE (R127, R137, R178): the transmission ends; a reply's slot becomes FREE and is handed on, a
system data frame is done and its place in the receive FIFO is freed. -/
def execLineTxDone (s : State) : Result :=
  match s.arb.tx with
  | none => .next s
  | some (.reply i) => .next (freeAndHandOn i (s.setArb { s.arb with tx := none }))
  | some (.system _) => .next (s.setArb { s.arb with tx := none })

/-- SYSTEM_FRAME_DISCARD (R138): while the link is DOWN a data frame at the head is inspected, discarded and
counted. -/
def execSystemFrameDiscard (s : State) : Result :=
  match dataHead s with
  | some f =>
    if s.linePort.up = false then .next (bump .lineTxDropped (inspectOutbound f (takeHead s)))
    else .next s
  | none => .next s

end Sys2Proof.Machine
end

