-- ==== Sys2Proof/Machine/LinePort.lean ====
section
/-! DEFINITION. The line port (2.1, 2.2): the receive checks, the path of a good frame, and the steps
LINE_FRAME_RECEIVED, LINK_DOWN and LINK_UP. -/

namespace Sys2Proof.Machine

/-! ### Receive checks (R22, R23) -/

/-- The greatest length of a frame with FCS: 1,518 bytes, or 1,522 tagged (R22, R178). -/
def maxLength (b : Frame) : Nat := if isTagged b then 1522 else 1518

/-- The VLAN filter against a configured VID: VID 0 admits untagged and priority-tagged frames, VID n the
frames tagged n (R23). -/
def vlanAdmits (vid : Nat) (b : Frame) : Bool :=
  if vid = 0 then !isTagged b || vidOf b == 0 else isTagged b && vidOf b == vid

/-- The counter of the first receive check that a frame fails; `none` for a good frame (R22, R23). -/
def receiveFault (s : State) (rx : LineReception) : Option Counter :=
  if rx.bytes.length < 64 then some .rxRunt
  else if maxLength rx.bytes < rx.bytes.length then some .rxLong
  else if rx.fcsGood = false ∨ rx.phyError = true then some .rxFcs
  else if s.modeCtl.mode ≠ .pass ∧ vlanAdmits s.ctl.cfg.vid rx.bytes = false then some .rxVlanForeign
  else none

/-- The counter of a reception that a loss of link cuts off (R22). -/
def cutCounter (received : Nat) : Counter := if 64 ≤ received then .rxFcs else .rxRunt

/-- A received frame without its FCS (R24). -/
def withoutFcs (b : Frame) : Frame := b.take (b.length - 4)

/-! ### The path of a good frame (R24, R31) -/

/-- A frame at the guard-path input FIFO: it takes a place, or finds the FIFO full, which is counted unless
it is a rehearsal copy (R31). -/
def offerGuardPath (path : Path) (b : Frame) (s : State) : State :=
  if s.guardPath.fifo.length < Config.guardFifoPlaces then
    s.setGuardPath { s.guardPath with fifo := s.guardPath.fifo ++ [⟨b, s.bank.tick, path⟩] }
  else bumpIf (path != .copy) .parseOverrun s

/-- A frame at the forward FIFO: dropped while system-ready is low or both places are taken (R180). -/
def offerForward (b : Frame) (s : State) : State :=
  if s.sys.ready = true ∧ s.sys.fwd.length < Config.forwardPlaces then
    s.setSys { s.sys with fwd := s.sys.fwd ++ [b] }
  else bump .fwdDropped s

/-- A rehearsal copy of a frame, when rehearsal is on and the guard VLAN filter admits the frame (R20, R23,
R24). -/
def offerCopy (b : Frame) (s : State) : State :=
  if s.ctl.cfg.rehearsal = true ∧ vlanAdmits s.ctl.cfg.vid b = true then offerGuardPath .copy b s
  else s

/-- The DRAIN frames that wait in the input FIFO, in order. -/
def drainedItems (s : State) : List GuardItem := s.guardPath.fifo.filter fun g => g.path == .drained

/-- The DRAIN frames of the input FIFO handed to the hold queue, in order, once nothing is pending ahead of
them (R11, R31, log 10). -/
def releaseDrained (s : State) : State :=
  (s.setHold
      { s.hold with
        appends :=
          s.hold.appends ++ (drainedItems s).map fun g => ⟨⟨g.bytes, g.arrival⟩, .drained⟩ }).setGuardPath
    { s.guardPath with fifo := s.guardPath.fifo.filter fun g => g.path != .drained }

/-- A good frame in DRAIN: behind the pending guard-path frames in the input FIFO, or to the hold queue
directly (R24, R31). -/
def offerDrained (b : Frame) (s : State) : State :=
  if guardPending s then offerGuardPath .drained b s
  else handToHold .drained ⟨b, s.bank.tick⟩ (releaseDrained s)

/-- A good frame handed on as the mode says (R2, R24). -/
def handOn (b : Frame) (s : State) : State :=
  match s.modeCtl.mode with
  | .pass => offerCopy b (offerForward b s)
  | .guard => offerGuardPath .guardPath b s
  | .waking => offerGuardPath .guardPath b s
  | .drain => offerDrained b s

/-- LINE_FRAME_RECEIVED (R22 to R25). A reception cut off by the link counts as R22 says; while the link is
DOWN no other frame is received (R26). -/
def execLineFrameReceived (rx : LineReception) (s : State) : Result :=
  if rx.cut then .next (bump (cutCounter rx.bytes.length) s)
  else if s.linePort.up = false then .next s
  else
    match receiveFault s rx with
    | some c => .next (bump c s)
    | none => .next (handOn (withoutFcs rx.bytes) (bump .rxGood s))

/-! ### Link state (R26 to R29) -/

/-- A gated timer that runs freezes; the others stay as they are (R148). -/
def freezeFrom : Nat → List Timer → List Timer
  | _, [] => []
  | i, t :: rest =>
    (if gated i && t.state == .running then { t with state := .frozen } else t) :: freezeFrom (i + 1) rest

/-- A FROZEN timer runs again (R148). -/
def Timer.thaw (t : Timer) : Timer :=
  if t.state = .frozen then { t with state := .running } else t

/-- A transmission in progress is cut by the loss of link; a system data frame is counted (R138, R139). -/
def cutTransmission (s : State) : State :=
  match s.arb.tx with
  | some (.system _) => bump .lineTxDropped (s.setArb { s.arb with tx := none })
  | some (.reply _) => s.setArb { s.arb with tx := none }
  | none => s

/-- The line port's own wake request at a loss of link in guard, unless its class is 0 (R28). -/
def linkLostRequest (s : State) : State :=
  if inGuard s = true ∧ s.ctl.cfg.linkLostCls ≠ 0 then
    sendRequest ⟨s.ctl.cfg.linkLostCls, .linkLost, 0, none, false⟩ s
  else s

/-- A transition to DOWN at the line port, the arbiter, the reply builder and the timer bank (R26 to R28). -/
def linkLost (s : State) : State :=
  let s := discardLineReplies (cutTransmission (s.setLinePort ⟨false, true⟩))
  linkLostRequest (s.setBank { s.bank with timers := freezeFrom 0 s.bank.timers })

/-- LINK_DOWN (R22, R28, R139, R148): a transition to DOWN, with the frame in reception cut off if there is
one. An input that is DOWN already makes no transition. -/
def execLinkDown (receiving : Option Nat) (s : State) : Result :=
  if s.linePort.up then
    match receiving with
    | some n => .next (linkLost (bump (cutCounter n) s))
    | none => .next (linkLost s)
  else .next s

/-- LINK_UP (R26, R29, R148): a transition to UP. An input that is UP already makes no transition. -/
def execLinkUp (s : State) : Result :=
  if s.linePort.up then .next s
  else
    .next
      ((s.setLinePort { s.linePort with up := true }).setBank
        { s.bank with timers := s.bank.timers.map Timer.thaw })

end Sys2Proof.Machine
end

