-- ==== Sys2Proof/Machine/SystemPort.lean ====
section
/-! DEFINITION. The system port (10.4): reception from the laptop, the system-ready line, the system egress
arbiter, and the steps SYS_FRAME_RECEIVED, SYSTEM_READY_RISE, SYSTEM_READY_FALL, SYS_EGRESS_GRANT and
SYS_DELIVERY_DONE. -/

namespace Sys2Proof.Machine

/-- The places of the receive FIFO that are taken: a data frame keeps its place until its transmission ends
or is cut (R178). -/
def receiveTaken (s : State) : Nat :=
  s.sys.rx.length
    + match s.arb.tx with
      | some (.system _) => 1
      | _ => 0

/-- A frame from the laptop passes the checks and finds a place (R178). -/
def sysAdmits (s : State) (rx : SystemReception) : Bool :=
  rx.fcsGood && !rx.macError && decide (64 ≤ rx.bytes.length)
    && decide (rx.bytes.length ≤ maxLength rx.bytes) && decide (receiveTaken s < Config.receivePlaces)

/-- SYS_FRAME_RECEIVED (R178): the frame takes a place in the receive FIFO without its FCS, or is dropped and
counted; one that a soft reset meets in reception is dropped uncounted. -/
def execSysFrameReceived (rx : SystemReception) (s : State) : Result :=
  if rx.resetDuring then .next s
  else if sysAdmits s rx then
    .next (s.setSys { s.sys with rx := s.sys.rx ++ [withoutFcs rx.bytes] })
  else .next (bump .sysRxDropped s)

/-- SYSTEM_READY_RISE (R4, R14, R17, R181): the level goes high; in WAKING the handshake acts on the rise. -/
def execSystemReadyRise (s : State) : Result :=
  if s.sys.ready then .next s
  else
    let s := s.setSys { s.sys with ready := true }
    if s.modeCtl.mode = .waking then .next (s.setModeCtl (riseAtWakeLine s.ctl.cfg s.modeCtl)) else .next s

/-- SYSTEM_READY_FALL (R182, R175): the level goes low and the item being sent is cut; its owner keeps it. -/
def execSystemReadyFall (s : State) : Result :=
  if s.sys.ready then .next (s.setSys { s.sys with ready := false, tx := none }) else .next s

/-- What the data stream offers: the oldest frame of the forward FIFO, otherwise in DRAIN the hold queue's
item (R181). -/
def dataOffer (s : State) : Option EgressTx :=
  match s.sys.fwd with
  | f :: _ => some ⟨.forward, f⟩
  | [] => if s.modeCtl.mode = .drain then holdItem s else none

/-- What the control stream offers: the response, otherwise the notice of the oldest slot in the notice order
(R181, R128). -/
def controlOffer (s : State) : Option EgressTx :=
  match s.ctl.response, s.reply.notices with
  | some f, _ => some ⟨.response, f⟩
  | none, i :: _ => some ⟨.rehearsal i, rehearsalNotice s.ctl.cfg (s.slot i)⟩
  | none, [] => none

/-- An item granted to a stream; a hold-queue item puts the head record in delivery (R181, R174). -/
def sendItem (stream : EgressStream) (x : EgressTx) (s : State) : State :=
  (s.setSys { s.sys with tx := some x, last := stream }).setHold
    { s.hold with stage := stageOf x.item s.hold.stage }

/-- The grant of an idle link to the laptop: the one stream that waits, or of two the one not served last
(R181). -/
def grantEgress (s : State) : State :=
  match dataOffer s, controlOffer s with
  | some d, none => sendItem .data d s
  | none, some c => sendItem .control c s
  | some d, some c => if s.sys.last = .control then sendItem .data d s else sendItem .control c s
  | none, none => s

/-- SYS_EGRESS_GRANT (R181): no grant while system-ready is low or the link is in use. -/
def execSysEgressGrant (s : State) : Result :=
  if s.sys.ready = true ∧ s.sys.tx = none then .next (grantEgress s) else .next s

/-- The owner of an item told of its completion (R181, R174, R128). -/
def completeItem (item : EgressItem) (s : State) : State :=
  match item with
  | .forward => s.setSys { s.sys with fwd := s.sys.fwd.tail }
  | .response => s.setCtl { s.ctl with response := none }
  | .rehearsal i =>
    freeAndHandOn i (s.setReply { s.reply with notices := s.reply.notices.filter (· != i) })
  | .holdLead => endDrain (s.setHold (holdDelivered .holdLead s.hold))
  | .holdNotice => endDrain (s.setHold (holdDelivered .holdNotice s.hold))
  | .holdFrame => endDrain (s.setHold (holdDelivered .holdFrame s.hold))
  | .holdLoss => endDrain (s.setHold (holdDelivered .holdLoss s.hold))

/-- SYS_DELIVERY_DONE (R181): the sending of an item ends. -/
def execSysDeliveryDone (s : State) : Result :=
  match s.sys.tx with
  | none => .next s
  | some x => .next (completeItem x.item (s.setSys { s.sys with tx := none }))

end Sys2Proof.Machine
end

