-- ==== Sys2Proof/Machine/ControlUnit.lean ====
section
/-! DEFINITION. The control unit (11): taking a command from the receive FIFO, its checks, the twenty
commands, BAD_CONTROL_FRAME, UNKNOWN_COMMAND, and the power-on reset. -/

namespace Sys2Proof.Machine

/-! ### Taking a control frame (R184 to R187) -/

/-- What a command makes: the response's status and body, and the state. -/
structure Answer where
  status : Status
  body : Frame
  state : State

/-- A refused command: an empty body and the state unchanged (R186). -/
def Answer.refuse (status : Status) (s : State) : Answer := ⟨status, [], s⟩

/-- A command done, with a response body. -/
def Answer.done (body : Frame) (s : State) : Answer := ⟨.ok, body, s⟩

/-- The control frame that the control unit can take: the head of the receive FIFO, while the response buffer
is free (R179, R184, R185). -/
def controlHead (s : State) : Option ControlHeader :=
  match s.sys.rx, s.ctl.response with
  | f :: _, none => if isControl f then some (readControl f) else none
  | _, _ => none

/-- The header is that of a command: version 1, kind 1 (R184). -/
def ControlHeader.isCommand (h : ControlHeader) : Bool := h.version == 1 && h.kind == 1

/-- The codes of the twenty commands (R188). -/
def knownCode (code : Nat) : Bool := decide (1 ≤ code) && decide (code ≤ 20)

/-- The response to a command placed in the buffer (R185, R187). -/
def respond (h : ControlHeader) (a : Answer) : State :=
  a.state.setCtl
    { a.state.ctl with response := some (responseFrame h.src h.code a.status h.tag a.body) }

/-- A command of this code at the head is taken: the length checks, its own checks and effect, the response
(R185, R186). With another head nothing happens (log 1). -/
def takeCommand (code length : Nat) (act : Frame → State → Answer) (s : State) : State :=
  match controlHead s with
  | none => s
  | some h =>
    if h.isCommand = true ∧ h.code = code then
      respond h
        (if h.present < h.bodyLength then .refuse .badLength (takeHead s)
         else if h.bodyLength ≠ length then .refuse .badLength (takeHead s)
         else act h.body (takeHead s))
    else s

/-- A command that PASS and DRAIN admit (R3, R188). -/
def writing (act : Frame → State → Answer) (b : Frame) (s : State) : Answer :=
  if admitsWrites s then act b s else .refuse .wrongMode s

/-- A command with an index in its first byte, checked against the table's size (R188). -/
def indexed (entries : Nat) (act : Nat → Frame → State → Answer) (b : Frame) (s : State) : Answer :=
  if byteAt b 0 < entries then act (byteAt b 0) b s else .refuse .badIndex s

/-- A body's value stored by an accepted write, or the write refused with BAD_VALUE (R186). -/
def storing {α : Type} (value : Option α) (store : α → State → State) (s : State) : Answer :=
  match value with
  | some x => .done [] (store x s)
  | none => .refuse .badValue s

/-! ### Reset (R195, R196) -/

/-- POWER_ON_RESET (R196): every state of the part at its power-on value. The level of system-ready is an
input and keeps its value, and the queue is the model's own (log 7). -/
def execPowerOnReset (s : State) : Result :=
  .next
    { State.reset with
      pending := s.pending
      sys := { State.reset.sys with ready := s.sys.ready } }

/-- The mode controller, the guard path and the keepalive unit at a soft reset (R1, R19, R40, R59, R60, R98,
R122, R195). -/
def softResetGuard (s : State) : State :=
  ((((s.setModeCtl (ModeCtl.atRest .pass)).setGuardPath
              { s.guardPath with fifo := [], parsed := none }).setIdentities
          (s.identities.map fun i => { i with state := .ready, conflicts := 0 })).setSessions
      (s.sessions.map Session.resetRuntime)).setProbes
    []

/-- The reply builder, the line transmit arbiter and the timer bank at a soft reset (R140, R149, R152, R195). -/
def softResetReplies (s : State) : State :=
  ((s.setReply
          { s.reply with slots := s.reply.slots.map fun _ => Slot.empty, queue := [], notices := [] }).setArb
      ⟨none, .system⟩).setBank
    { s.bank with
      timers := s.bank.timers.map Timer.stop
      alarms := s.bank.alarms.map fun a => { a with state := .idle } }

/-- The wake controller, the hold queue and the system port at a soft reset (R168, R169, R178, R180, R182,
R195). Requests on their way stay so (log 17). A tick that completes a quiet interval and is still held (log 6)
is dropped with the quiet counter: the interval does not end, a deferred wake that it would have made due is
not asserted, and the tick is not counted after the reset (log 6, DESIGN CHOICE). -/
def softResetDelivery (s : State) : State :=
  ((s.setWake { WakeCtl.powerOn with requests := s.wake.requests }).setHold
      { s.hold with
        records := [], leadCount := 0, leadSerial := none, stage := .idle, appends := [] }).setSys
    { s.sys with rx := [], fwd := [], tx := none, last := .control }

/-- The effects of a soft reset, block by block (R195). -/
def softReset (s : State) : State := softResetDelivery (softResetReplies (softResetGuard s))

/-- SOFT_RESET (R195), command 0x14. -/
def execSoftReset (s : State) : Result :=
  .next (takeCommand 0x14 0 (fun _ s => .done [] (softReset s)) s)

/-! ### Description, status, configuration -/

/-- IDENTIFY (R189), command 0x01. -/
def execIdentify (s : State) : Result :=
  .next (takeCommand 0x01 0 (fun _ s => .done identifyBody s) s)

/-- READ_STATUS after the report: the latch is cleared if the link is UP (R27, R190). -/
def clearLatch (s : State) : State :=
  if s.linePort.up then s.setLinePort { s.linePort with lost := false } else s

/-- READ_STATUS (R190), command 0x02. -/
def execReadStatus (s : State) : Result :=
  .next (takeCommand 0x02 0 (fun _ s => .done (statusBody s) (clearLatch s)) s)

/-- A configuration record put in force: the LISTED set derived again, an unlocked pressure state taken
afresh (R33, R155, R192). -/
def installConfig (c : ConfigRecord) (s : State) : State :=
  refreshListed ((s.setCtl { s.ctl with cfg := c }).setWake (retake c s.wake))

/-- WRITE_CONFIG (R192), command 0x03. -/
def execWriteConfig (s : State) : Result :=
  .next (takeCommand 0x03 87 (writing fun b s => storing (decodeConfig b) installConfig s) s)

/-- READ_CONFIG (R192), command 0x04. -/
def execReadConfig (s : State) : Result :=
  .next (takeCommand 0x04 0 (fun _ s => .done (configBody s.ctl.cfg) s) s)

/-! ### Tables -/

/-- A match entry replaced (R55). -/
def storeMatch (i : Nat) (e : MatchEntry) (s : State) : State := s.setMatchTable (s.matchTable.set i e)

/-- WRITE_MATCH (R54, R55), command 0x05. -/
def execWriteMatch (s : State) : Result :=
  .next
    (takeCommand 0x05 45
      (writing (indexed Config.matchEntries fun i b s => storing (decodeMatch b) (storeMatch i) s)) s)

/-- READ_MATCH (R56), command 0x06. -/
def execReadMatch (s : State) : Result :=
  .next
    (takeCommand 0x06 1
      (indexed Config.matchEntries fun i _ s =>
        .done (matchReadBody i (s.matchTable.getD i MatchEntry.powerOn)) s) s)

/-- Another valid identity than the one at an index holds an address (R62, check 5). -/
def addressTaken (ids : List Identity) (i : Nat) (a : Addr) : Bool :=
  (List.range ids.length).any fun k =>
    k != i && (ids.getD k Identity.powerOn).valid && (ids.getD k Identity.powerOn).addr == a

/-- An identity as a write may store it at an index: an entry written valid must have an address that no
other valid entry holds (R62, check 5). -/
def identityFor (ids : List Identity) (i : Nat) (x : Identity) : Option Identity :=
  if x.valid && addressTaken ids i x.addr then none else some x

/-- An identity replaced and the LISTED set derived again (R63). -/
def storeIdentity (i : Nat) (x : Identity) (s : State) : State :=
  refreshListed (s.setIdentities (s.identities.set i x))

/-- WRITE_IDENTITY (R62, R63), command 0x07. -/
def execWriteIdentity (s : State) : Result :=
  .next
    (takeCommand 0x07 21
      (writing
        (indexed Config.identityEntries fun i b s =>
          storing ((decodeIdentity b).bind (identityFor s.identities i)) (storeIdentity i) s)) s)

/-- READ_IDENTITY (R64), command 0x08. -/
def execReadIdentity (s : State) : Result :=
  .next
    (takeCommand 0x08 1
      (indexed Config.identityEntries fun i _ s => .done (identityReadBody i (s.identity i)) s) s)

/-- A name entry replaced (R88). -/
def storeName (i : Nat) (x : NameEntry) (s : State) : State := s.setNames (s.names.set i x)

/-- WRITE_NAME (R87, R88), command 0x09. -/
def execWriteName (s : State) : Result :=
  .next
    (takeCommand 0x09 73
      (writing (indexed Config.nameEntries fun i b s => storing (decodeName b) (storeName i) s)) s)

/-- READ_NAME (R88), command 0x0A. -/
def execReadName (s : State) : Result :=
  .next
    (takeCommand 0x0A 1
      (indexed Config.nameEntries fun i _ s =>
        .done (nameReadBody i (s.names.getD i NameEntry.powerOn)) s) s)

/-- A session replaced (R101). -/
def storeSession (i : Nat) (x : Session) (s : State) : State := s.setSessions (s.sessions.set i x)

/-- WRITE_SESSION (R100, R101), command 0x0B. -/
def execWriteSession (s : State) : Result :=
  .next
    (takeCommand 0x0B 61
      (writing (indexed Config.sessionEntries fun i b s => storing (decodeSession b) (storeSession i) s))
      s)

/-- READ_SESSION (R101), command 0x0C. -/
def execReadSession (s : State) : Result :=
  .next
    (takeCommand 0x0C 1
      (indexed Config.sessionEntries fun i _ s => .done (sessionReadBody i (s.session i)) s) s)

/-- An alarm replaced (R151). -/
def storeAlarm (i : Nat) (x : Alarm) (s : State) : State :=
  s.setBank { s.bank with alarms := s.bank.alarms.set i x }

/-- WRITE_ALARM (R151), command 0x0D. -/
def execWriteAlarm (s : State) : Result :=
  .next
    (takeCommand 0x0D 8
      (writing (indexed Config.alarmEntries fun i b s => storing (decodeAlarm b) (storeAlarm i) s)) s)

/-- READ_ALARM (R151), command 0x0E. -/
def execReadAlarm (s : State) : Result :=
  .next
    (takeCommand 0x0E 1
      (indexed Config.alarmEntries fun i _ s =>
        .done (alarmReadBody i (s.alarm i) (s.timer (alarmTimer i))) s) s)

/-- The table of a selector with every entry as after a power-on reset (R193, R57, R65, R88, R102, R151);
`none` for a selector above 4. -/
def clearedTable (selector : Nat) (s : State) : Option State :=
  match selector with
  | 0 => some (s.setMatchTable (s.matchTable.map fun _ => MatchEntry.powerOn))
  | 1 => some (refreshListed (s.setIdentities (s.identities.map fun _ => Identity.powerOn)))
  | 2 => some (s.setNames (s.names.map fun _ => NameEntry.powerOn))
  | 3 => some (s.setSessions (s.sessions.map fun _ => Session.powerOn))
  | 4 => some (s.setBank { s.bank with alarms := s.bank.alarms.map fun _ => Alarm.powerOn })
  | _ => none

/-- CLEAR_TABLE (R193), command 0x0F. -/
def execClearTable (s : State) : Result :=
  .next
    (takeCommand 0x0F 1
      (writing fun b s => storing (clearedTable (byteAt b 0) s) (fun s' _ => s') s) s)

/-! ### Entering and leaving guard -/

/-- A valid session names a valid identity of its own family (R5, check 3). -/
def sessionPlaced (ids : List Identity) (x : Session) : Bool :=
  !x.valid
    || ((ids.getD x.localId Identity.powerOn).valid
      && sameFamily (ids.getD x.localId Identity.powerOn).addr x.remote)

/-- The first session in ascending index that fails ENTER_GUARD's check (R5, check 3). -/
def misplacedSession (s : State) : Option Nat :=
  s.sessions.findIdx? fun x => !sessionPlaced s.identities x

/-- A session at guard entry: valid and ARMED it becomes ALIVE with miss count 0 (R6, R104). -/
def Session.enter (x : Session) : Session :=
  if x.valid = true ∧ x.state = .armed then { x with state := .alive, miss := 0 } else x

/-- The timers of the sessions that become ALIVE started from their idle intervals (R104, R149). -/
def startSessionTimers : Nat → List Session → State → State
  | _, [], s => s
  | i, x :: rest, s =>
    startSessionTimers (i + 1) rest
      (if x.valid = true ∧ x.state = .armed then startTimer i x.idle x.idle .periodic s else s)

/-- An alarm at guard entry: valid it becomes RUNNING (R152). -/
def Alarm.enter (a : Alarm) : Alarm := if a.valid then { a with state := .running } else a

/-- The timers of the valid alarms started from their counts in their modes (R152). -/
def startAlarmTimers : Nat → List Alarm → State → State
  | _, [], s => s
  | n, a :: rest, s =>
    startAlarmTimers (n + 1) rest
      (if a.valid then startTimer (alarmTimer n) a.count a.count a.mode s else s)

/-- The timer bank at guard entry: E is 0, session and alarm timers start (R6, R104, R149, R152). -/
def enterTimers (s : State) : State :=
  startAlarmTimers 0 s.bank.alarms
    (startSessionTimers 0 s.sessions
      (s.setBank { s.bank with elapsed := 0, alarms := s.bank.alarms.map Alarm.enter }))

/-- The guard-entry actions of all blocks (R6). -/
def guardEntry (s : State) : State :=
  let s := enterTimers s
  let s := s.setSessions (s.sessions.map Session.enter)
  let s := s.setIdentities (s.identities.map fun i => { i with state := .ready })
  let s := s.setWake { s.wake with deferred := 0 }
  setMode .guard s

/-- ENTER_GUARD's own checks and effect (R5, R6). -/
def enterGuard (s : State) : Answer :=
  if s.modeCtl.mode ≠ .pass then .refuse .wrongMode s
  else if s.ctl.cfg.hostMac = 0 ∨ isGroupMac s.ctl.cfg.hostMac = true then .refuse .badValue s
  else
    match misplacedSession s with
    | some i => ⟨.badIndex, toBytes 1 i, s⟩
    | none => .done [] (guardEntry s)

/-- ENTER_GUARD (R5, R6), command 0x10. -/
def execEnterGuard (s : State) : Result := .next (takeCommand 0x10 0 (fun _ s => enterGuard s) s)

/-- A session at guard exit: running it becomes ARMED (R10, R121). -/
def Session.leave (x : Session) : Session := if x.running then { x with state := .armed } else x

/-- An alarm at guard exit: RUNNING it becomes IDLE (R10, R152). -/
def Alarm.leave (a : Alarm) : Alarm := if a.state = .running then { a with state := .idle } else a

/-- The guard-exit actions of all blocks, and the mode that follows (R10, R11). -/
def guardExit (s : State) : State :=
  let s := stopAllTimers s
  let s := s.setBank { s.bank with alarms := s.bank.alarms.map Alarm.leave }
  let s := (s.setSessions (s.sessions.map Session.leave)).setProbes []
  let s := s.setWake { s.wake with deferred := 0 }
  s.setModeCtl
    (ModeCtl.atRest (if s.hold.records.isEmpty && !guardPending s then .pass else .drain))

/-- LEAVE_GUARD's own check, effect and response body (R10). -/
def leaveGuard (s : State) : Answer :=
  if inGuard s then .done (leaveGuardBody (guardExit s)) (guardExit s) else .refuse .wrongMode s

/-- LEAVE_GUARD (R10, R11), command 0x11. -/
def execLeaveGuard (s : State) : Result := .next (takeCommand 0x11 0 (fun _ s => leaveGuard s) s)

/-! ### Wake record and counters -/

/-- READ_WAKE_RECORD (R166), command 0x12. -/
def execReadWakeRecord (s : State) : Result :=
  .next
    (takeCommand 0x12 0
      (fun _ s => .done (wakeRecordBody s.wake.record) (s.setWake { s.wake with record := none })) s)

/-- Every counter set to 0 (R194). -/
def clearCounters (s : State) : State :=
  s.setCtl { s.ctl with counters := s.ctl.counters.map fun _ => 0 }

/-- READ_COUNTERS' own check, response and clearing (R194). -/
def readCounters (b : Frame) (s : State) : Answer :=
  match yesNo (byteAt b 0) with
  | some clear => .done (countersBody s.ctl.counters) (if clear then clearCounters s else s)
  | none => .refuse .badValue s

/-- READ_COUNTERS (R194), command 0x13. -/
def execReadCounters (s : State) : Result := .next (takeCommand 0x13 1 readCounters s)

/-! ### Frames that are no command of the table -/

/-- BAD_CONTROL_FRAME (R184): a control frame whose version or kind is not a command's is dropped and
counted. -/
def execBadControlFrame (s : State) : Result :=
  match controlHead s with
  | none => .next s
  | some h => if h.isCommand then .next s else .next (bump .sysBadControl (takeHead s))

/-- UNKNOWN_COMMAND (R186): a command of no known code is answered so, or with BAD_LENGTH when its body length
exceeds the bytes present. -/
def execUnknownCommand (s : State) : Result :=
  match controlHead s with
  | none => .next s
  | some h =>
    if h.isCommand = true ∧ knownCode h.code = false then
      .next
        (respond h
          (.refuse (if h.present < h.bodyLength then .badLength else .unknownCommand) (takeHead s)))
    else .next s

end Sys2Proof.Machine
end

