-- ==== Sys2Proof/Machine/Dispatch.lean ====
section
/-! DEFINITION. Which meaning each command has: one arm per constructor of Instr. -/

namespace Sys2Proof.Machine

def exec (i : Instr) (s : State) : Host.Outcome State Fault Refusal :=
  match i with
  | .powerOnReset => Sys2Proof.Machine.execPowerOnReset s
  | .softReset => Sys2Proof.Machine.execSoftReset s
  | .identify => Sys2Proof.Machine.execIdentify s
  | .readStatus => Sys2Proof.Machine.execReadStatus s
  | .writeConfig => Sys2Proof.Machine.execWriteConfig s
  | .readConfig => Sys2Proof.Machine.execReadConfig s
  | .writeMatch => Sys2Proof.Machine.execWriteMatch s
  | .readMatch => Sys2Proof.Machine.execReadMatch s
  | .writeIdentity => Sys2Proof.Machine.execWriteIdentity s
  | .readIdentity => Sys2Proof.Machine.execReadIdentity s
  | .writeName => Sys2Proof.Machine.execWriteName s
  | .readName => Sys2Proof.Machine.execReadName s
  | .writeSession => Sys2Proof.Machine.execWriteSession s
  | .readSession => Sys2Proof.Machine.execReadSession s
  | .writeAlarm => Sys2Proof.Machine.execWriteAlarm s
  | .readAlarm => Sys2Proof.Machine.execReadAlarm s
  | .clearTable => Sys2Proof.Machine.execClearTable s
  | .enterGuard => Sys2Proof.Machine.execEnterGuard s
  | .leaveGuard => Sys2Proof.Machine.execLeaveGuard s
  | .readWakeRecord => Sys2Proof.Machine.execReadWakeRecord s
  | .readCounters => Sys2Proof.Machine.execReadCounters s
  | .badControlFrame => Sys2Proof.Machine.execBadControlFrame s
  | .unknownCommand => Sys2Proof.Machine.execUnknownCommand s
  | .tick => Sys2Proof.Machine.execTick s
  | .linkDown receiving => Sys2Proof.Machine.execLinkDown receiving s
  | .linkUp => Sys2Proof.Machine.execLinkUp s
  | .systemReadyRise => Sys2Proof.Machine.execSystemReadyRise s
  | .systemReadyFall => Sys2Proof.Machine.execSystemReadyFall s
  | .lineFrameReceived rx => Sys2Proof.Machine.execLineFrameReceived rx s
  | .sysFrameReceived rx => Sys2Proof.Machine.execSysFrameReceived rx s
  | .parseFrame => Sys2Proof.Machine.execParseFrame s
  | .classifyFrame => Sys2Proof.Machine.execClassifyFrame s
  | .sessionTimerExpiry session => Sys2Proof.Machine.execSessionTimerExpiry session s
  | .expiryAnswer timer => Sys2Proof.Machine.execExpiryAnswer timer s
  | .alarmExpiry alarm => Sys2Proof.Machine.execAlarmExpiry alarm s
  | .quietIntervalEnd => Sys2Proof.Machine.execQuietIntervalEnd s
  | .wakeRequest place => Sys2Proof.Machine.execWakeRequest place s
  | .pulseEnd => Sys2Proof.Machine.execPulseEnd s
  | .resumeWindowEnd => Sys2Proof.Machine.execResumeWindowEnd s
  | .holdAppend => Sys2Proof.Machine.execHoldAppend s
  | .lineTxGrant => Sys2Proof.Machine.execLineTxGrant s
  | .lineTxDone => Sys2Proof.Machine.execLineTxDone s
  | .systemFrameDiscard => Sys2Proof.Machine.execSystemFrameDiscard s
  | .sysEgressGrant => Sys2Proof.Machine.execSysEgressGrant s
  | .sysDeliveryDone => Sys2Proof.Machine.execSysDeliveryDone s

end Sys2Proof.Machine
end

