-- ==== Sys2Proof/Safety.lean ====
section
/-! DEFINITION. The terms in which claims about the part are stated: a command that stands ready to be taken
and the state after its response, and the properties that every step keeps. -/

namespace Sys2Proof.Machine

/-! ### Commands in the receive FIFO -/

/-- A command frame of a code and a body length stands at the head of the receive FIFO and the response
buffer is free; the body is present (R179, R184, R186). -/
abbrev Offers (s : State) (f : Frame) (rest : List Frame) (code length : Nat) : Prop :=
  s.sys.rx = f :: rest ∧ s.ctl.response = none ∧ isControl f = true ∧ (readControl f).version = 1
    ∧ (readControl f).kind = 1 ∧ (readControl f).code = code ∧ (readControl f).bodyLength = length
    ∧ length ≤ (readControl f).present

/-- The body of a command frame. -/
def bodyOf (f : Frame) : Frame := (readControl f).body

/-- A state whose control unit has taken the command frame and put a response to it into the buffer
(R185, R187). -/
def State.answered (s : State) (f : Frame) (rest : List Frame) (status : Status) (body : Frame) : State :=
  { s with
    sys := { s.sys with rx := rest }
    ctl :=
      { s.ctl with
        response :=
          some
            (responseFrame (readControl f).src (readControl f).code status (readControl f).tag body) } }

/-- The twenty commands with their codes and body lengths (R188). -/
def commandTable : List (Instr × Nat × Nat) :=
  [(.identify, 0x01, 0), (.readStatus, 0x02, 0), (.writeConfig, 0x03, 87), (.readConfig, 0x04, 0),
    (.writeMatch, 0x05, 45), (.readMatch, 0x06, 1), (.writeIdentity, 0x07, 21),
    (.readIdentity, 0x08, 1), (.writeName, 0x09, 73), (.readName, 0x0A, 1),
    (.writeSession, 0x0B, 61), (.readSession, 0x0C, 1), (.writeAlarm, 0x0D, 8),
    (.readAlarm, 0x0E, 1), (.clearTable, 0x0F, 1), (.enterGuard, 0x10, 0), (.leaveGuard, 0x11, 0),
    (.readWakeRecord, 0x12, 0), (.readCounters, 0x13, 1), (.softReset, 0x14, 0)]

/-! ### Time and the wake handshake -/

/-- The state after so many ticks. -/
def ticked : Nat → State → State
  | 0, s => s
  | n + 1, s =>
    match exec .tick s with
    | .next t => ticked n t
    | _ => s

/-- The handshake that a wake assertion starts (R8, R14, R15). -/
def handshake (c : ConfigRecord) (ready : Bool) (m : ModeCtl) : ModeCtl :=
  match c.wakeMode, ready with
  | .level, true => ⟨.waking, true, .asserted, m.retry, none, none⟩
  | .level, false => ⟨.waking, true, .asserted, m.retry, none, some c.resumeWindow⟩
  | .pulse, true => ⟨.waking, false, .resumed, 0, none, none⟩
  | .pulse, false =>
    ⟨.waking, true, .asserted, 0, some c.pulseWidth, some (max c.resumeWindow c.pulseWidth)⟩

/-- A timer whose owner has answered its expiry, by the table of R147. -/
def reloaded (t : Timer) : Timer :=
  if t.state = .stopped ∨ t.outstanding = false then t
  else
    match t.mode, t.staged with
    | .oneShot, _ => { t with state := .stopped, staged := none, outstanding := false }
    | .periodic, some v => { t with count := v, reload := v, staged := none, outstanding := false }
    | .periodic, none => { t with count := t.reload, outstanding := false }

/-! ### Frames at the classifier, reply slots, sessions -/

/-- The frame stands at the classifier, which is free to take it, and the entry at an index is the lowest one
that matches it (R43, R44). -/
abbrev Decides (s : State) (p : ParsedFrame) (k : Nat) (e : MatchEntry) : Prop :=
  s.guardPath.parsed = some p ∧ classifierFree s = true ∧ firstMatch s.matchTable p.fv = some k
    ∧ s.matchTable[k]? = some e

/-- The state after the classifier has taken its frame and counted the hit of an entry (R44). -/
def State.hit (s : State) (k : Nat) : State :=
  { s with
    guardPath := { s.guardPath with parsed := none }
    matchTable := s.matchTable.modify k fun e => { e with hits := satBump e.hits } }

/-- A frame built into a slot for the line: QUEUED at the tail of the reply queue; an IPv4 packet takes an
identification (R125, R130). -/
def State.queued (s : State) (slot : Nat) (kind : ReplyKind) (session : Option Nat) (v4 : Bool)
    (frame : Frame) : State :=
  { s with
    reply :=
      { s.reply with
        slots := s.reply.slots.set slot ⟨.queued, .line, kind, session, frame⟩
        queue := s.reply.queue ++ [slot]
        ipId := if v4 then s.reply.ipId + 1 else s.reply.ipId } }

/-- A session's probe built into a slot from the values as they stand: PROBES_SENT and the session's count
move (R108, R126). -/
def State.probeBuilt (s : State) (slot i : Nat) : State :=
  bump .probesSent
    { s.queued slot .probe (some i) (isV4 (s.identity (s.session i).localId).addr)
        (probeFrame s.ctl.cfg s.reply.ipId (s.session i) (s.identity (s.session i).localId).addr
          s.bank.elapsed) with
      sessions := s.sessions.modify i fun x => { x with probesSent := satBump x.probesSent } }

/-- A slot freed and handed on: to the session at the head of the pending-probe list, or it stays FREE
(R110, R126). -/
def State.handedOn (s : State) (slot : Nat) : State :=
  match s.probes with
  | [] => { s with reply := { s.reply with slots := s.reply.slots.set slot Slot.empty } }
  | i :: rest =>
    State.probeBuilt
      { s with
        probes := rest
        reply := { s.reply with slots := s.reply.slots.set slot Slot.empty } }
      slot i

/-- A session leaves ALIVE and PROBING for a state: its timer is stopped and it leaves the pending-probe
list. -/
def State.left (s : State) (i : Nat) (newState : SessionState) : State :=
  { s with
    sessions := s.sessions.modify i fun x => { x with state := newState }
    bank :=
      { s.bank with
        timers :=
          s.bank.timers.modify i fun t =>
            { t with state := .stopped, staged := none, outstanding := false } }
    probes := s.probes.filter fun j => j != i }

/-- A wake request sent to the wake controller. -/
def State.requested (s : State) (r : WakeRequest) : State :=
  { s with wake := { s.wake with requests := s.wake.requests ++ [r] } }

/-- What the fallback of the entry at an index makes of a frame that a responder declines in GUARD or WAKING:
dropped, handed to the hold queue, or a wake request of cause FALLBACK (R48, R52). -/
def State.disposed (s : State) (k : Nat) (e : MatchEntry) (p : ParsedFrame) : State :=
  match e.fallback with
  | .drop => s
  | .hold =>
    { s with
      hold :=
        { s.hold with
          appends :=
            s.hold.appends
              ++ [⟨⟨p.bytes, p.arrival⟩, if s.modeCtl.mode = .guard then .held else .follower⟩] } }
  | .wake => s.requested ⟨e.cls, .fallback, k, some ⟨p.bytes, p.arrival⟩, false⟩

/-- What R67 asks of a solicitation or advertisement before it is judged further: whole, 24 bytes of message, a
good checksum, hop limit 255 and code 0, and a target that is not multicast. -/
abbrev AcceptedNd (p : ParsedFrame) : Prop :=
  p.fv.frag = .whole ∧ 24 ≤ p.fv.l4len + 8 ∧ transportGood p (p.fv.l4len + 8) 58 = true
    ∧ byteAt p.bytes (p.pos.l3 + 7) = 255 ∧ byteAt p.bytes (p.pos.l4 + 1) = 0
    ∧ isMulticast6 (v6At p.bytes (p.pos.l4 + 8)) = false

/-- A session after a liveness segment: ALIVE, miss count 0, the idle interval staged on a timer that is not
stopped, off the pending-probe list, the peer's TSval taken if there is one (R117). -/
def State.heard (s : State) (i : Nat) (tsval : Option (BitVec 32)) : State :=
  { s with
    sessions :=
      s.sessions.modify i fun x =>
        { x with state := .alive, miss := 0, lastPeer := tsval.getD x.lastPeer }
    bank :=
      { s.bank with
        timers :=
          s.bank.timers.modify i fun t =>
            if t.state = .stopped then t else { t with staged := some (s.session i).idle } }
    probes := s.probes.filter fun j => j != i }

/-! ### Properties that every step keeps -/

/-- Every table has its size (R41, R60, R86, R97, R124, R145, R150, R169, R194). -/
abbrev Sizes (s : State) : Prop :=
  s.matchTable.length = Config.matchEntries ∧ s.identities.length = Config.identityEntries
    ∧ s.names.length = Config.nameEntries ∧ s.sessions.length = Config.sessionEntries
    ∧ s.reply.slots.length = Config.replySlots ∧ s.bank.timers.length = Config.timerCount
    ∧ s.bank.alarms.length = Config.alarmEntries ∧ s.hold.pool.length = Config.holdBlocks
    ∧ s.ctl.counters.length = Config.counterCount

/-- Outside WAKING the wake line is at rest: inactive, IDLE, retry count 0, both countdowns stopped
(R13). -/
abbrev WakeLineRests (s : State) : Prop :=
  s.modeCtl.mode ≠ .waking → s.modeCtl = ModeCtl.atRest s.modeCtl.mode

/-- In PASS and DRAIN no timer counts, no session and no alarm runs, no probe waits (R149). -/
abbrev QuietOutsideGuard (s : State) : Prop :=
  inGuard s = false →
    s.probes = [] ∧ (∀ t ∈ s.bank.timers, t.state = .stopped) ∧ (∀ x ∈ s.sessions, x.running = false)
      ∧ ∀ a ∈ s.bank.alarms, a.state ≠ .running

/-- The LISTED set is the one that R33 derives from the identities and the configuration. -/
abbrev ListedDerived (s : State) : Prop := s.guardPath.listed = deriveListed s.identities s.ctl.cfg

/-- The configuration is in range, P is at most 511, and the pressure state is the lock or the one that P
gives (R155, R191). -/
abbrev PressureSound (s : State) : Prop :=
  s.ctl.cfg.inRange = true ∧ s.wake.pressure ≤ 511
    ∧ (s.wake.pstate = .locked ∨ s.wake.pstate = pressureStateOf s.ctl.cfg s.wake.pressure)

/-- The blocks that the records of the hold queue hold, record after record. -/
def HoldQueue.held (h : HoldQueue) : List Nat := (h.records.map HoldRecord.blocks).flatten

/-- At most 64 records; every block that a record holds exists, and no block is held twice (R169). -/
abbrev HoldSound (s : State) : Prop :=
  s.hold.records.length ≤ Config.holdRecords ∧ (∀ b ∈ s.hold.held, b < Config.holdBlocks)
    ∧ s.hold.held.Nodup

/-- In PASS the hold queue holds no record (R1). -/
abbrev PassHoldsNothing (s : State) : Prop := s.modeCtl.mode = .pass → s.hold.records = []

/-- The three FIFOs hold no more than they have places (R31, R178, R180). -/
abbrev FifoBounds (s : State) : Prop :=
  s.guardPath.fifo.length ≤ Config.guardFifoPlaces ∧ receiveTaken s ≤ Config.receivePlaces
    ∧ s.sys.fwd.length ≤ Config.forwardPlaces

/-- While a session waits for a slot to probe, no slot is FREE (R110, R126). -/
abbrev ProbesWait (s : State) : Prop := s.probes ≠ [] → ∀ x ∈ s.reply.slots, x.state ≠ .free

/-- A reply in transmission is a SENDING slot of destination LINE (R127). -/
def sendingSound (s : State) : Bool :=
  match s.arb.tx with
  | some (.reply i) => (s.slot i).state == .sending && (s.slot i).dest == .line
  | _ => true

/-- A rehearsal notice in delivery is of a slot in the notice order (R128). -/
def noticeSound (s : State) : Bool :=
  match s.sys.tx.map EgressTx.item with
  | some (.rehearsal i) => s.reply.notices.contains i
  | _ => true

/-- The two orders over the slots (R124): each lists slots once, the reply queue QUEUED slots of destination
LINE and the notice order QUEUED slots of destination NOTICE; every QUEUED slot stands in its order; a
SENDING slot is the one in transmission; what is in transmission or in delivery is such a slot. -/
abbrev SlotOrders (s : State) : Prop :=
  s.reply.queue.Nodup ∧ s.reply.notices.Nodup
    ∧ (∀ i ∈ s.reply.queue, (s.slot i).state = .queued ∧ (s.slot i).dest = .line)
    ∧ (∀ i ∈ s.reply.notices, (s.slot i).state = .queued ∧ (s.slot i).dest = .notice)
    ∧ (∀ i ∈ List.range s.reply.slots.length,
        ((s.slot i).state = .queued → (s.slot i).dest = .line → i ∈ s.reply.queue)
          ∧ ((s.slot i).state = .queued → (s.slot i).dest = .notice → i ∈ s.reply.notices)
          ∧ ((s.slot i).state = .sending → s.arb.tx = some (.reply i)))
    ∧ sendingSound s = true ∧ noticeSound s = true

end Sys2Proof.Machine
end

