-- ==== Sys2Proof/Certificates/Slice0/Obligations.lean ====
section
/-! DEFINITION. The statements about the part, for the provers. -/

open Sys2Proof Sys2Proof.Machine

/-! ### The machine as a whole -/

/-- A step runs the command at the front of the queue on the queue's rest; on an empty queue the part idles
(log 2, the model's choice). -/
def Obligations.StepRunsFrontCommand : Prop :=
  (∀ (c : Instr) (rest : List Instr) (s : State), s.pending = c :: rest →
    step s = exec c (s.setPending rest))
    ∧ ∀ s : State, s.pending = [] → step s = .next s

/-- Every command completes, whatever the state: none faults and none is refused, and none touches the queue
of waiting commands. That a command with nothing to do answers the same state is the model's choice (log 1), and
the queue is the model's own, kept by POWER_ON_RESET too (logs 7 and 20). -/
def Obligations.EveryCommandCompletes : Prop :=
  ∀ (c : Instr) (s : State), ∃ t : State, exec c s = .next t ∧ t.pending = s.pending

/-- POWER_ON_RESET makes the reset state, whatever the state was. The waiting commands and the level of
system-ready, an input of the part, stay (log 7, the model's choice). The reset state has, block by block, the
values that the spec states for a power-on reset, the defaults of the configuration record and of every table
entry among them (the level of system-ready, the contents of free hold blocks, what is on its way between
blocks, the held tick and the queue are the model's, logs 5, 6, 7 and 14, and are not stated here). -/
def Obligations.PowerOnResetRestores : Prop :=
  (∀ s : State, ∃ t : State, exec .powerOnReset s = .next t
    ∧ t = { State.reset with
            pending := s.pending
            sys := { State.reset.sys with ready := s.sys.ready } })
    ∧ State.reset.modeCtl = ⟨.pass, false, .idle, 0, none, none⟩
    ∧ State.reset.linePort = ⟨false, false⟩
    ∧ State.reset.guardPath.fifo = [] ∧ State.reset.guardPath.parsed = none
    ∧ State.reset.guardPath.listed = [0x333300000001, 0x01005E0000FB, 0x3333000000FB]
    ∧ (∀ e ∈ State.reset.matchTable,
        e = ⟨false, [none, none, none, none], .drop, 0, .drop, 0⟩)
    ∧ (∀ i ∈ State.reset.identities, i = ⟨false, .v4 0, false, false, false, 0, .ready, 0⟩)
    ∧ (∀ e ∈ State.reset.names, e = ⟨false, [], 0, 120, 0⟩)
    ∧ (∀ x ∈ State.reset.sessions,
        x =
          { valid := false, localId := 0, localPort := 0, remote := .v4 0, remotePort := 0, nextHop := 0
            snd := 0, rcv := 0, window := 0, idle := 4800, retry := 160, missLimit := 4, dataCls := 0
            endCls := 0, deadCls := 0, ts := none, state := .empty, miss := 0, lastPeer := 0
            probesSent := 0, acksSent := 0 })
    ∧ State.reset.probes = []
    ∧ (∀ x ∈ State.reset.reply.slots, x.state = .free)
    ∧ State.reset.reply.queue = [] ∧ State.reset.reply.notices = [] ∧ State.reset.reply.ipId = 0
    ∧ State.reset.arb = ⟨none, .system⟩
    ∧ State.reset.bank.tick = 0 ∧ State.reset.bank.elapsed = 0
    ∧ (∀ t ∈ State.reset.bank.timers, t = ⟨.stopped, 0, 1, none, .oneShot, false⟩)
    ∧ (∀ a ∈ State.reset.bank.alarms, a = ⟨false, 960, .oneShot, 1, .idle⟩)
    ∧ State.reset.wake.pressure = 0 ∧ State.reset.wake.pstate = .openState
    ∧ State.reset.wake.quiet = 0 ∧ State.reset.wake.deferred = 0 ∧ State.reset.wake.record = none
    ∧ State.reset.hold.records = [] ∧ State.reset.hold.freeBlocks.length = 64
    ∧ State.reset.hold.serial = 0 ∧ State.reset.hold.leadCount = 0
    ∧ State.reset.hold.leadSerial = none
    ∧ State.reset.sys.rx = [] ∧ State.reset.sys.fwd = [] ∧ State.reset.sys.tx = none
    ∧ State.reset.sys.last = .control
    ∧ State.reset.ctl.response = none
    ∧ State.reset.ctl.cfg =
        { hostMac := 0, vid := 0, pcp := 0, defaultHold := false, baseThreshold := 1, restraint := 5
          limW := 96, limS := 192, limL := 384, limH := 128, weights := [16, 16, 16, 16, 16, 16, 16, 16]
          quietInterval := 960, suppressDrop := false, wakeMode := .level, pulseWidth := 8, retryLimit := 3
          resumeWindow := 480, linkLostCls := 7, ttl := 64, hopLimit := 64, rehearsal := false
          namePort := 5353, group4 := 0xE00000FB, group6 := 0xFF0200000000000000000000000000FB
          extraMacs := [] }
    ∧ State.reset.ctl.counters = List.replicate 35 0
    ∧ Sizes State.reset

/-! ### The control unit -/

/-- SOFT_RESET, in every mode: every block takes the effects of R195, and then the response, status OK, is
placed in the buffer. Requests and notices on their way stay so (log 17, the model's choice), and a held tick
that completes a quiet interval is dropped (log 6, the model's choice). -/
def Obligations.SoftResetEffects : Prop :=
  ∀ (s : State) (f : Frame) (rest : List Frame), Offers s f rest 0x14 0 →
    exec .softReset s = .next
      (State.answered
        { pending := s.pending
          modeCtl := ⟨.pass, false, .idle, 0, none, none⟩
          linePort := s.linePort
          guardPath := ⟨[], none, s.guardPath.listed⟩
          matchTable := s.matchTable
          identities := s.identities.map fun i => { i with state := .ready, conflicts := 0 }
          names := s.names
          sessions := s.sessions.map fun x =>
            { x with
              state := if x.valid then .armed else .empty
              miss := 0
              lastPeer := (x.ts.map TsPart.echo).getD 0
              probesSent := 0
              acksSent := 0 }
          probes := []
          reply := ⟨s.reply.slots.map fun _ => Slot.empty, [], [], s.reply.ipId⟩
          arb := ⟨none, .system⟩
          bank :=
            { s.bank with
              timers := s.bank.timers.map fun t =>
                { t with state := .stopped, staged := none, outstanding := false }
              alarms := s.bank.alarms.map fun a => { a with state := .idle } }
          wake := ⟨0, .openState, 0, false, 0, none, s.wake.requests⟩
          hold := ⟨s.hold.pool, [], s.hold.serial, 0, none, .idle, []⟩
          sys := ⟨s.sys.ready, [], [], none, .control⟩
          ctl := s.ctl }
        f [] .ok [])

/-- IDENTIFY is answered in every mode and state with the sixteen fixed bytes, and nothing else changes but
the frame taken and the response placed. -/
def Obligations.IdentifyDescribesThePart : Prop :=
  ∀ (s : State) (f : Frame) (rest : List Frame), Offers s f rest 0x01 0 →
    exec .identify s = .next
      (s.answered f rest .ok
        [0x0B, 0x5C, 0x22, 0x14, 1, 48, 12, 4, 8, 4, 4, 64, 64, 1, 0, 16])

/-- READ_STATUS reports the state as it stands in the twenty bytes of 11.6, and then clears the link-lost
latch if the link is UP; nothing else changes. -/
def Obligations.ReadStatusReportsAndClearsLatch : Prop :=
  ∀ (s : State) (f : Frame) (rest : List Frame), Offers s f rest 0x02 0 →
    exec .readStatus s = .next
      ({ s with linePort := ⟨s.linePort.up, s.linePort.lost && !s.linePort.up⟩ }.answered f rest .ok
        (toBytes 1 s.modeCtl.mode.code ++ toBytes 1 s.modeCtl.sub.code
          ++ toBytes 1 (boolCode s.linePort.up) ++ toBytes 1 (boolCode s.linePort.lost)
          ++ toBytes 1 (boolCode s.sys.ready) ++ toBytes 1 s.wake.pstate.code
          ++ toBytes 2 s.wake.pressure ++ toBytes 1 s.wake.deferred
          ++ toBytes 1 s.hold.records.length ++ toBytes 1 s.hold.freeBlocks.length
          ++ toBytes 1 (boolCode s.wake.record.isSome) ++ toBytes 4 s.bank.tick.toNat
          ++ toBytes 4 s.bank.elapsed.toNat))

/-- READ_CONFIG returns the stored record. WRITE_CONFIG in PASS or DRAIN replaces the whole record when its
body is admitted, derives the LISTED set again and takes an unlocked pressure state afresh from P; a refused
body answers BAD_VALUE and changes nothing. -/
def Obligations.ConfigurationCommands : Prop :=
  (∀ (s : State) (f : Frame) (rest : List Frame), Offers s f rest 0x04 0 →
    exec .readConfig s = .next (s.answered f rest .ok (configBody s.ctl.cfg)))
    ∧ ∀ (s : State) (f : Frame) (rest : List Frame), Offers s f rest 0x03 87 →
        s.modeCtl.mode = .pass ∨ s.modeCtl.mode = .drain →
        (∀ c, decodeConfig (bodyOf f) = some c →
          exec .writeConfig s = .next
            ({ s with
                ctl := { s.ctl with cfg := c }
                wake :=
                  { s.wake with
                    pstate :=
                      if s.wake.pstate = PressureState.locked then PressureState.locked
                      else if s.wake.pressure < c.limW then PressureState.openState
                      else if s.wake.pressure < c.limS then PressureState.warned
                      else PressureState.restrained }
                guardPath := { s.guardPath with listed := deriveListed s.identities c } }.answered
              f rest .ok []))
          ∧ (decodeConfig (bodyOf f) = none →
              exec .writeConfig s = .next (s.answered f rest .badValue []))

/-- Every record that WRITE_CONFIG admits has each field in the range of R191: the refused fields because
they are checked, the others because they are clamped. -/
def Obligations.AdmittedConfigurationsAreInRange : Prop :=
  ∀ (b : Frame) (c : ConfigRecord), decodeConfig b = some c →
    isGroupMac c.hostMac = false ∧ c.vid ≤ 4095 ∧ c.pcp ≤ 7 ∧ 1 ≤ c.baseThreshold
      ∧ c.baseThreshold ≤ 7 ∧ 1 ≤ c.restraint ∧ c.restraint ≤ 7 ∧ 1 ≤ c.limW ∧ c.limW ≤ c.limS
      ∧ c.limS < c.limL ∧ c.limL ≤ 511 ∧ c.limH < c.limL ∧ c.weights.length = 8
      ∧ (∀ w ∈ c.weights, w ≤ 64) ∧ 16 ≤ c.quietInterval ∧ c.quietInterval ≤ 65535
      ∧ 1 ≤ c.pulseWidth ∧ c.pulseWidth ≤ 255 ∧ c.retryLimit ≤ 7 ∧ 16 ≤ c.resumeWindow
      ∧ c.resumeWindow ≤ 65535 ∧ c.linkLostCls ≤ 7 ∧ 1 ≤ c.ttl ∧ c.ttl ≤ 255 ∧ 1 ≤ c.hopLimit
      ∧ c.hopLimit ≤ 255 ∧ 1 ≤ c.namePort ∧ c.namePort ≤ 65535
      ∧ (224 ≤ c.group4.toNat / 2 ^ 24 ∧ c.group4.toNat / 2 ^ 24 ≤ 239)
      ∧ c.group6.toNat / 2 ^ 120 = 0xFF ∧ c.extraMacs.length ≤ 4
      ∧ ∀ m ∈ c.extraMacs, isGroupMac m = true ∧ m ≠ 0xFFFFFFFFFFFF

/-- A configuration body read back: WRITE_CONFIG of the body that READ_CONFIG gives for a record in range
stores that record again, field for field. -/
def Obligations.ConfigurationBodyReadsBack : Prop :=
  ∀ c : ConfigRecord, c.inRange = true → c.weights.length = 8 → (∀ w ∈ c.weights, w ≤ 64) →
    16 ≤ c.quietInterval ∧ c.quietInterval ≤ 65535 → 1 ≤ c.pulseWidth ∧ c.pulseWidth ≤ 255 →
    c.retryLimit ≤ 7 → 16 ≤ c.resumeWindow ∧ c.resumeWindow ≤ 65535 → 1 ≤ c.ttl ∧ c.ttl ≤ 255 →
    1 ≤ c.hopLimit ∧ c.hopLimit ≤ 255 →
    (configBody c).length = 87 ∧ decodeConfig (configBody c) = some c

/-- The five table reads, in every mode: an index of the table answers with the entry's body and changes
nothing; a greater index answers BAD_INDEX. -/
def Obligations.TableReadsReport : Prop :=
  ∀ (s : State) (f : Frame) (rest : List Frame),
    (Offers s f rest 0x06 1 →
      exec .readMatch s = .next
        (if byteAt (bodyOf f) 0 < 48 then
            s.answered f rest .ok
              (matchReadBody (byteAt (bodyOf f) 0)
                (s.matchTable.getD (byteAt (bodyOf f) 0) MatchEntry.powerOn))
          else s.answered f rest .badIndex []))
      ∧ (Offers s f rest 0x08 1 →
        exec .readIdentity s = .next
          (if byteAt (bodyOf f) 0 < 12 then
            s.answered f rest .ok
              (identityReadBody (byteAt (bodyOf f) 0) (s.identity (byteAt (bodyOf f) 0)))
          else s.answered f rest .badIndex []))
      ∧ (Offers s f rest 0x0A 1 →
        exec .readName s = .next
          (if byteAt (bodyOf f) 0 < 4 then
            s.answered f rest .ok
              (nameReadBody (byteAt (bodyOf f) 0)
                (s.names.getD (byteAt (bodyOf f) 0) NameEntry.powerOn))
          else s.answered f rest .badIndex []))
      ∧ (Offers s f rest 0x0C 1 →
        exec .readSession s = .next
          (if byteAt (bodyOf f) 0 < 8 then
            s.answered f rest .ok
              (sessionReadBody (byteAt (bodyOf f) 0) (s.session (byteAt (bodyOf f) 0)))
          else s.answered f rest .badIndex []))
      ∧ (Offers s f rest 0x0E 1 →
        exec .readAlarm s = .next
          (if byteAt (bodyOf f) 0 < 4 then
            s.answered f rest .ok
              (alarmReadBody (byteAt (bodyOf f) 0) (s.alarm (byteAt (bodyOf f) 0))
                (s.timer (8 + byteAt (bodyOf f) 0)))
          else s.answered f rest .badIndex []))

/-- The five table writes in PASS or DRAIN with an index of the table: an admitted body replaces the entry
(an identity written valid must have an address that no other valid identity holds, and the LISTED set is
derived again), and every other body answers BAD_VALUE and changes nothing. -/
def Obligations.TableWritesStore : Prop :=
  ∀ (s : State) (f : Frame) (rest : List Frame), s.modeCtl.mode = .pass ∨ s.modeCtl.mode = .drain →
    (Offers s f rest 0x05 45 → byteAt (bodyOf f) 0 < 48 →
      (∀ e, decodeMatch (bodyOf f) = some e →
        exec .writeMatch s = .next
          ({ s with matchTable := s.matchTable.set (byteAt (bodyOf f) 0) e }.answered f rest .ok []))
        ∧ (decodeMatch (bodyOf f) = none →
          exec .writeMatch s = .next (s.answered f rest .badValue [])))
      ∧ (Offers s f rest 0x07 21 → byteAt (bodyOf f) 0 < 12 →
        (∀ x, decodeIdentity (bodyOf f) = some x →
          (x.valid = true → ∀ k < s.identities.length, k ≠ byteAt (bodyOf f) 0 →
            (s.identity k).valid = true → (s.identity k).addr ≠ x.addr) →
          exec .writeIdentity s = .next
            ({ s with
                identities := s.identities.set (byteAt (bodyOf f) 0) x
                guardPath :=
                  { s.guardPath with
                    listed :=
                      deriveListed (s.identities.set (byteAt (bodyOf f) 0) x) s.ctl.cfg } }.answered
              f rest .ok []))
          ∧ (∀ x, decodeIdentity (bodyOf f) = some x → x.valid = true →
            ∀ k < s.identities.length, k ≠ byteAt (bodyOf f) 0 → (s.identity k).valid = true →
              (s.identity k).addr = x.addr →
              exec .writeIdentity s = .next (s.answered f rest .badValue []))
          ∧ (decodeIdentity (bodyOf f) = none →
            exec .writeIdentity s = .next (s.answered f rest .badValue [])))
      ∧ (Offers s f rest 0x09 73 → byteAt (bodyOf f) 0 < 4 →
        (∀ e, decodeName (bodyOf f) = some e →
          exec .writeName s = .next
            ({ s with names := s.names.set (byteAt (bodyOf f) 0) e }.answered f rest .ok []))
          ∧ (decodeName (bodyOf f) = none →
            exec .writeName s = .next (s.answered f rest .badValue [])))
      ∧ (Offers s f rest 0x0B 61 → byteAt (bodyOf f) 0 < 8 →
        (∀ x, decodeSession (bodyOf f) = some x →
          exec .writeSession s = .next
            ({ s with sessions := s.sessions.set (byteAt (bodyOf f) 0) x }.answered f rest .ok []))
          ∧ (decodeSession (bodyOf f) = none →
            exec .writeSession s = .next (s.answered f rest .badValue [])))
      ∧ (Offers s f rest 0x0D 8 → byteAt (bodyOf f) 0 < 4 →
        (∀ a, decodeAlarm (bodyOf f) = some a →
          exec .writeAlarm s = .next
            ({ s with
                bank :=
                  { s.bank with
                    alarms := s.bank.alarms.set (byteAt (bodyOf f) 0) a } }.answered f rest .ok []))
          ∧ (decodeAlarm (bodyOf f) = none →
            exec .writeAlarm s = .next (s.answered f rest .badValue [])))

/-- In GUARD and WAKING the six writes and CLEAR_TABLE answer WRONG_MODE and change nothing; in PASS and
DRAIN a write with an index outside its table answers BAD_INDEX and changes nothing. -/
def Obligations.WritesAreRefused : Prop :=
  ∀ (s : State) (f : Frame) (rest : List Frame),
    (s.modeCtl.mode = .guard ∨ s.modeCtl.mode = .waking →
      ∀ c ∈ commandTable,
        c.1 ∈ [.writeConfig, .writeMatch, .writeIdentity, .writeName, .writeSession, .writeAlarm,
          .clearTable] →
        Offers s f rest c.2.1 c.2.2 → exec c.1 s = .next (s.answered f rest .wrongMode []))
      ∧ (s.modeCtl.mode = .pass ∨ s.modeCtl.mode = .drain →
        ∀ c ∈ commandTable, ∀ entries,
          (c.1, entries) ∈ [(Instr.writeMatch, 48), (.writeIdentity, 12), (.writeName, 4),
            (.writeSession, 8), (.writeAlarm, 4)] →
          Offers s f rest c.2.1 c.2.2 → entries ≤ byteAt (bodyOf f) 0 →
          exec c.1 s = .next (s.answered f rest .badIndex []))

/-- CLEAR_TABLE in GUARD and WAKING answers WRONG_MODE. In PASS or DRAIN it makes every entry of the selected
table as after a power-on reset and changes no other table; clearing the identities derives the LISTED set
again; a selector above 4 answers BAD_VALUE. -/
def Obligations.ClearTableClears : Prop :=
  ∀ (s : State) (f : Frame) (rest : List Frame), Sizes s → Offers s f rest 0x0F 1 →
    (s.modeCtl.mode = .guard ∨ s.modeCtl.mode = .waking →
      exec .clearTable s = .next (s.answered f rest .wrongMode []))
    ∧ (s.modeCtl.mode = .pass ∨ s.modeCtl.mode = .drain →
    (byteAt (bodyOf f) 0 = 0 →
      exec .clearTable s = .next
        ({ s with matchTable := State.reset.matchTable }.answered f rest .ok []))
      ∧ (byteAt (bodyOf f) 0 = 1 →
        exec .clearTable s = .next
          ({ s with
              identities := State.reset.identities
              guardPath :=
                { s.guardPath with
                  listed := deriveListed State.reset.identities s.ctl.cfg } }.answered f rest .ok []))
      ∧ (byteAt (bodyOf f) 0 = 2 →
        exec .clearTable s = .next ({ s with names := State.reset.names }.answered f rest .ok []))
      ∧ (byteAt (bodyOf f) 0 = 3 →
        exec .clearTable s = .next
          ({ s with sessions := State.reset.sessions }.answered f rest .ok []))
      ∧ (byteAt (bodyOf f) 0 = 4 →
        exec .clearTable s = .next
          ({ s with bank := { s.bank with alarms := State.reset.bank.alarms } }.answered f rest .ok []))
      ∧ (4 < byteAt (bodyOf f) 0 →
        exec .clearTable s = .next (s.answered f rest .badValue [])))

/-- ENTER_GUARD's checks in their order: the mode, the host MAC, the sessions in ascending index; the first
that fails gives the status, a failing session's index is the body, and nothing changes. With none that fails
the command completes: the mode GUARD, E 0, ARMED sessions ALIVE with their timers started (FROZEN while the
link is DOWN), valid alarms RUNNING with their timers started, identities READY with their counts, the deferred
class 0, the response OK. Notices and answers of the timers that are started are removed, those of other timers
stay (log 16, the model's choice); everything else stays. -/
def Obligations.EnterGuardChecks : Prop :=
  ∀ (s : State) (f : Frame) (rest : List Frame), Offers s f rest 0x10 0 →
    (s.modeCtl.mode ≠ .pass → exec .enterGuard s = .next (s.answered f rest .wrongMode []))
      ∧ (s.modeCtl.mode = .pass → s.ctl.cfg.hostMac = 0 ∨ isGroupMac s.ctl.cfg.hostMac = true →
        exec .enterGuard s = .next (s.answered f rest .badValue []))
      ∧ (s.modeCtl.mode = .pass → s.ctl.cfg.hostMac ≠ 0 → isGroupMac s.ctl.cfg.hostMac = false →
        ∀ i < s.sessions.length, i < 256 → sessionPlaced s.identities (s.session i) = false →
          (∀ k < i, sessionPlaced s.identities (s.session k) = true) →
          exec .enterGuard s = .next (s.answered f rest .badIndex [BitVec.ofNat 8 i]))
      ∧ ∀ started : Nat → Bool, Sizes s →
        s.modeCtl.mode = .pass → s.ctl.cfg.hostMac ≠ 0 → isGroupMac s.ctl.cfg.hostMac = false →
        (∀ x ∈ s.sessions, sessionPlaced s.identities x = true) →
        (∀ i, started i = true ↔
          (i < 8 ∧ (s.session i).valid = true ∧ (s.session i).state = .armed)
            ∨ (8 ≤ i ∧ i < 12 ∧ (s.alarm (i - 8)).valid = true)) →
        ∃ t : State, exec .enterGuard s = .next t
          ∧ t.modeCtl = { s.modeCtl with mode := .guard }
          ∧ t.bank.elapsed = 0 ∧ t.bank.tick = s.bank.tick
          ∧ t.sessions =
              s.sessions.map (fun x =>
                if x.valid = true ∧ x.state = .armed then { x with state := .alive, miss := 0 } else x)
          ∧ t.bank.alarms =
              s.bank.alarms.map (fun a => if a.valid then { a with state := .running } else a)
          ∧ (∀ i < 8,
              t.timer i =
                if started i = true then
                  ⟨if s.linePort.up then .running else .frozen, (s.session i).idle, (s.session i).idle,
                    none, .periodic, false⟩
                else s.timer i)
          ∧ (∀ n < 4,
              t.timer (8 + n) =
                if started (8 + n) = true then
                  ⟨.running, (s.alarm n).count, (s.alarm n).count, none, (s.alarm n).mode, false⟩
                else s.timer (8 + n))
          ∧ t.bank.notices = s.bank.notices.filter (fun x => !started x.timer)
          ∧ t.bank.answers = s.bank.answers.filter (fun i => !started i)
          ∧ t.identities = s.identities.map (fun i => { i with state := .ready })
          ∧ t.wake = { s.wake with deferred := 0 }
          ∧ t.ctl = (s.answered f rest .ok []).ctl
          ∧ t.sys = { s.sys with rx := rest }
          ∧ t.pending = s.pending ∧ t.linePort = s.linePort ∧ t.guardPath = s.guardPath
          ∧ t.matchTable = s.matchTable ∧ t.names = s.names ∧ t.probes = s.probes
          ∧ t.reply = s.reply ∧ t.arb = s.arb ∧ t.hold = s.hold

/-- LEAVE_GUARD: refused with WRONG_MODE in PASS and DRAIN. In GUARD and WAKING the guard-exit actions of
R10; the mode becomes PASS with no record held and no guard-path frame pending, and DRAIN otherwise; the
response reports the session states after the actions and whether the wake record is captured. What counts as
pending is deduced (log 10), and requests, notices and answers on their way stay so (log 17, the model's
choice). -/
def Obligations.LeaveGuardActs : Prop :=
  ∀ (s : State) (f : Frame) (rest : List Frame), Offers s f rest 0x11 0 →
    (s.modeCtl.mode = .pass ∨ s.modeCtl.mode = .drain →
      exec .leaveGuard s = .next (s.answered f rest .wrongMode []))
      ∧ (s.modeCtl.mode = .guard ∨ s.modeCtl.mode = .waking →
        exec .leaveGuard s = .next
          (State.answered
            { s with
              modeCtl :=
                ⟨if s.hold.records = [] ∧ guardPending s = false then .pass else .drain, false, .idle, 0,
                  none, none⟩
              wake := { s.wake with deferred := 0 }
              probes := []
              sessions :=
                s.sessions.map fun x =>
                  if x.state = .alive ∨ x.state = .probing then { x with state := .armed } else x
              bank :=
                { s.bank with
                  timers :=
                    s.bank.timers.map fun t =>
                      { t with state := .stopped, staged := none, outstanding := false }
                  alarms :=
                    s.bank.alarms.map fun a =>
                      if a.state = .running then { a with state := .idle } else a } }
            f rest .ok
            (s.sessions.map (fun x =>
                BitVec.ofNat 8
                  (if x.state = .alive ∨ x.state = .probing then SessionState.armed else x.state).code)
              ++ [if s.wake.record.isSome then 1 else 0])))

/-- READ_WAKE_RECORD reports the record and frees it; READ_COUNTERS reports the thirty-five counters and, with
the clear flag 1, sets each to 0; another flag answers BAD_VALUE. (The serial bytes of a captured record without
a trigger serial are the model's choice, log 23.) -/
def Obligations.RecordAndCountersAreRead : Prop :=
  (∀ (s : State) (f : Frame) (rest : List Frame), Offers s f rest 0x12 0 →
    exec .readWakeRecord s = .next
      ({ s with wake := { s.wake with record := none } }.answered f rest .ok
        (wakeRecordBody s.wake.record)))
    ∧ ∀ (s : State) (f : Frame) (rest : List Frame), Offers s f rest 0x13 1 →
        (byteAt (bodyOf f) 0 = 0 →
          exec .readCounters s = .next (s.answered f rest .ok (countersBody s.ctl.counters)))
          ∧ (byteAt (bodyOf f) 0 = 1 →
            exec .readCounters s = .next
              ({ s with ctl := { s.ctl with counters := s.ctl.counters.map fun _ => 0 } }.answered
                f rest .ok (countersBody s.ctl.counters)))
          ∧ (2 ≤ byteAt (bodyOf f) 0 →
            exec .readCounters s = .next (s.answered f rest .badValue []))

/-- The checks of a control frame, in every mode. A frame of another version or kind is dropped and counted in
SYS_BAD_CONTROL, with no response. A command of none of the twenty codes is answered with UNKNOWN_COMMAND, or
with BAD_LENGTH when its body length exceeds the bytes present. Each of the twenty commands answers
BAD_LENGTH to a body length beyond the bytes present or other than its own, and changes nothing but the frame
taken and the response placed. -/
def Obligations.ControlFramesAreChecked : Prop :=
  ∀ (s : State) (f : Frame) (rest : List Frame), s.sys.rx = f :: rest → s.ctl.response = none →
    isControl f = true →
    ((readControl f).version ≠ 1 ∨ (readControl f).kind ≠ 1 →
      exec .badControlFrame s = .next (bump .sysBadControl { s with sys := { s.sys with rx := rest } }))
      ∧ ((readControl f).version = 1 → (readControl f).kind = 1 →
        ((readControl f).code = 0 ∨ 20 < (readControl f).code →
          exec .unknownCommand s = .next
            (s.answered f rest
              (if (readControl f).present < (readControl f).bodyLength then .badLength
               else .unknownCommand) []))
          ∧ ∀ c ∈ commandTable, (readControl f).code = c.2.1 →
              ((readControl f).present < (readControl f).bodyLength
                ∨ (readControl f).bodyLength ≠ c.2.2) →
              exec c.1 s = .next (s.answered f rest .badLength []))

/-- Match entries, identities and alarms: WRITE of the loaded part of the body that READ gives stores the
entry again, with its runtime fields reset. -/
def Obligations.EntryBodiesReadBack : Prop :=
  (∀ (i : Nat) (e : MatchEntry), e.terms.length = 4 → (∀ t, some t ∈ e.terms → t.admitted = true) →
      e.cls ≤ 7 →
      (matchBody i e).length = 45 ∧ decodeMatch (matchBody i e) = some { e with hits := 0 })
    ∧ (∀ (i : Nat) (x : Identity), isHostAddr x.addr = true → x.cls ≤ 7 →
      (identityBody i x).length = 21
        ∧ decodeIdentity (identityBody i x) = some { x with state := .ready, conflicts := 0 })
    ∧ ∀ (i : Nat) (a : Alarm), 1 ≤ a.cls ∧ a.cls ≤ 7 → 1 ≤ a.count ∧ a.count ≤ 16777215 →
      (alarmBody i a).length = 8 ∧ decodeAlarm (alarmBody i a) = some { a with state := .idle }

/-- Names and sessions: WRITE of the loaded part of the body that READ gives stores the entry again, with its
runtime fields reset. -/
def Obligations.NameAndSessionBodiesReadBack : Prop :=
  (∀ (i : Nat) (e : NameEntry), e.name.length ≤ 64 →
      (e.valid = true → nameWellFormed e.name = true) → 1 ≤ e.ttl ∧ e.ttl ≤ 86400 →
      (nameBody i e).length = 73 ∧ decodeName (nameBody i e) = some { e with answers := 0 })
    ∧ ∀ (i : Nat) (x : Session), x.localId ≤ 11 → x.localPort ≤ 65535 → x.remotePort ≤ 65535 →
      80 ≤ x.idle ∧ x.idle ≤ 16777215 → 16 ≤ x.retry ∧ x.retry ≤ 65535 →
      1 ≤ x.missLimit ∧ x.missLimit ≤ 15 → x.dataCls ≤ 7 → x.endCls ≤ 7 → x.deadCls ≤ 7 →
      (∀ t, x.ts = some t → 1 ≤ t.rate ∧ t.rate ≤ 1000) → (x.valid = true → x.usable = true) →
      (sessionBody i x).length = 61 ∧ decodeSession (sessionBody i x) = some x.resetRuntime


/-! ### The time base, the timers and the alarms -/

/-- A tick acts first on what the tick before has ended: it does what PULSE_END, RESUME_WINDOW_END,
QUIET_INTERVAL_END and then the tick do (log 6, the model's choice). A tick that finds nothing left over
moves the tick count in every mode, E in GUARD and
WAKING, the two countdowns, every RUNNING timer with no expiry outstanding, an expiry notice in ascending
index for each that reaches 0, and the quiet counter, unless the tick completes the quiet interval: it is
then held for QUIET_INTERVAL_END (log 6, the model's choice). Nothing else changes. -/
def Obligations.TickCounts : Prop :=
  (∀ s s1 s2 s3 : State, exec .pulseEnd s = .next s1 → exec .resumeWindowEnd s1 = .next s2 →
    exec .quietIntervalEnd s2 = .next s3 → s3.modeCtl.pulse ≠ some 0 →
    s3.modeCtl.window ≠ some 0 → s3.wake.tickHeld = false →
    exec .tick s = exec .tick s3)
  ∧ ∀ s : State, s.modeCtl.pulse ≠ some 0 → s.modeCtl.window ≠ some 0 → s.wake.tickHeld = false →
    exec .tick s = .next
      { s with
        modeCtl :=
          { s.modeCtl with
            pulse := s.modeCtl.pulse.map (· - 1)
            window := s.modeCtl.window.map (· - 1) }
        bank :=
          { s.bank with
            tick := s.bank.tick + 1
            elapsed :=
              if s.modeCtl.mode = .guard ∨ s.modeCtl.mode = .waking then s.bank.elapsed + 1
              else s.bank.elapsed
            timers :=
              s.bank.timers.map fun t =>
                if t.state = .running ∧ t.outstanding = false then
                  { t with count := t.count - 1, outstanding := decide (t.count - 1 = 0) }
                else t
            notices :=
              s.bank.notices
                ++ ((List.range s.bank.timers.length).filter fun i =>
                      decide ((s.timer i).state = .running) && !(s.timer i).outstanding
                        && decide ((s.timer i).count - 1 = 0)).map
                    fun i => ⟨i, (s.timer i).staged.isSome⟩ }
        wake :=
          if s.ctl.cfg.quietInterval ≤ s.wake.quiet + 1 then { s.wake with tickHeld := true }
          else { s.wake with quiet := s.wake.quiet + 1 } }

/-- A RUNNING timer with a count of n + 1 and no expiry outstanding counts one down at each tick, whatever
else the ticks do, and its expiry falls at the tick n + 1 and not before: only then is the expiry outstanding
and a notice of it, with whether a reload is staged, on its way. -/
def Obligations.TimerExpiresAtItsCount : Prop :=
  ∀ (s : State) (i n : Nat), i < s.bank.timers.length → (s.timer i).state = .running →
    (s.timer i).outstanding = false → (s.timer i).count = n + 1 →
    (∀ k ≤ n,
      (ticked k s).timer i = { s.timer i with count := n + 1 - k }
        ∧ ((ticked k s).bank.notices.filter fun x => x.timer == i)
            = s.bank.notices.filter fun x => x.timer == i)
      ∧ (ticked (n + 1) s).timer i = { s.timer i with count := 0, outstanding := true }
      ∧ ((ticked (n + 1) s).bank.notices.filter fun x => x.timer == i)
          = (s.bank.notices.filter fun x => x.timer == i) ++ [⟨i, (s.timer i).staged.isSome⟩]

/-- EXPIRY_ANSWER: the timer bank takes an answer on its way and finishes the expiry as the table of R147
says; with no answer for the timer on its way nothing happens (log 1, the model's choice). -/
def Obligations.ExpiryAnswerFinishes : Prop :=
  ∀ (s : State) (i : Nat),
    (i ∈ s.bank.answers →
      exec (.expiryAnswer i) s = .next
        { s with
          bank :=
            { s.bank with
              answers := s.bank.answers.erase i
              timers := s.bank.timers.modify i reloaded } })
      ∧ (i ∉ s.bank.answers → exec (.expiryAnswer i) s = .next s)

/-- ALARM_EXPIRY: the oldest notice of the alarm's timer is taken. A RUNNING alarm sends its request; a
ONE_SHOT alarm becomes FIRED; the alarm table answers its own expiry in the same event. An alarm that no
longer runs makes no request. -/
def Obligations.AlarmExpires : Prop :=
  ∀ (s : State) (n : Nat) (x : ExpiryNotice),
    s.bank.notices.find? (fun y => y.timer == 8 + n) = some x →
    ((s.alarm n).state = .running →
      exec (.alarmExpiry n) s = .next
        { s with
          bank :=
            { s.bank with
              notices := s.bank.notices.erase x
              alarms :=
                if (s.alarm n).mode = .oneShot then
                  s.bank.alarms.modify n fun a => { a with state := .fired }
                else s.bank.alarms
              timers := s.bank.timers.modify (8 + n) reloaded }
          wake :=
            { s.wake with
              requests := s.wake.requests ++ [⟨(s.alarm n).cls, .alarm, n, none, false⟩] } })
      ∧ ((s.alarm n).state ≠ .running →
        exec (.alarmExpiry n) s = .next
          { s with bank := { s.bank with notices := s.bank.notices.erase x } })

/-! ### The wake line and the wake controller -/

/-- PULSE_END and RESUME_WINDOW_END in PULSE mode: the end of a pulse gives GAP; the end of the window, in
GAP or at the same tick as the pulse, gives a further pulse below the retry limit and UNANSWERED with
WAKE_UNANSWERED at it. In LEVEL mode the end of the window is counted in RESUME_LATE and leaves the line
active. -/
def Obligations.WakeLineCountdownsEnd : Prop :=
  ∀ s : State,
    (s.ctl.cfg.wakeMode = .pulse → s.modeCtl.sub = .asserted → s.modeCtl.pulse = some 0 →
      (s.modeCtl.window ≠ some 0 →
        exec .pulseEnd s = .next
          { s with modeCtl := { s.modeCtl with active := false, sub := .gap, pulse := none } })
        ∧ (s.modeCtl.window = some 0 → s.modeCtl.retry < s.ctl.cfg.retryLimit →
          exec .pulseEnd s = .next
            { s with
              modeCtl :=
                ⟨s.modeCtl.mode, true, .asserted, s.modeCtl.retry + 1, some s.ctl.cfg.pulseWidth,
                  some (max s.ctl.cfg.resumeWindow s.ctl.cfg.pulseWidth)⟩ })
        ∧ (s.modeCtl.window = some 0 → s.ctl.cfg.retryLimit ≤ s.modeCtl.retry →
          exec .pulseEnd s = .next
            (bump .wakeUnanswered
              { s with
                modeCtl :=
                  ⟨s.modeCtl.mode, false, .unanswered, s.modeCtl.retry, none, none⟩ })))
      ∧ (s.ctl.cfg.wakeMode = .pulse → s.modeCtl.sub = .gap → s.modeCtl.window = some 0 →
        (s.modeCtl.retry < s.ctl.cfg.retryLimit →
          exec .resumeWindowEnd s = .next
            { s with
              modeCtl :=
                ⟨s.modeCtl.mode, true, .asserted, s.modeCtl.retry + 1, some s.ctl.cfg.pulseWidth,
                  some (max s.ctl.cfg.resumeWindow s.ctl.cfg.pulseWidth)⟩ })
          ∧ (s.ctl.cfg.retryLimit ≤ s.modeCtl.retry →
            exec .resumeWindowEnd s = .next
              (bump .wakeUnanswered
                { s with
                  modeCtl :=
                    ⟨s.modeCtl.mode, false, .unanswered, s.modeCtl.retry, none, none⟩ })))
      ∧ (s.ctl.cfg.wakeMode = .level → s.modeCtl.sub = .asserted → s.modeCtl.window = some 0 →
        exec .resumeWindowEnd s = .next
          (bump .resumeLate { s with modeCtl := { s.modeCtl with window := none } }))

/-- SYSTEM_READY_RISE: the level is high; in WAKING under PULSE a pulse, a gap or an unanswered cycle ends in
RESUMED, and RESUMED stays; under LEVEL the open window closes and the line stays active; outside WAKING the
handshake is not touched. SYSTEM_READY_FALL: the level is low and the item being sent is cut; the sub-state
stays. -/
def Obligations.SystemReadyActs : Prop :=
  ∀ s : State,
    (s.sys.ready = false →
      (s.modeCtl.mode ≠ .waking →
        exec .systemReadyRise s = .next { s with sys := { s.sys with ready := true } })
        ∧ (s.modeCtl.mode = .waking → s.ctl.cfg.wakeMode = .pulse →
          (s.modeCtl.sub = .asserted ∨ s.modeCtl.sub = .gap ∨ s.modeCtl.sub = .unanswered →
            exec .systemReadyRise s = .next
              { s with
                sys := { s.sys with ready := true }
                modeCtl := ⟨.waking, false, .resumed, s.modeCtl.retry, none, none⟩ })
            ∧ (s.modeCtl.sub = .resumed →
              exec .systemReadyRise s = .next { s with sys := { s.sys with ready := true } }))
        ∧ (s.modeCtl.mode = .waking → s.ctl.cfg.wakeMode = .level → s.modeCtl.sub = .asserted →
          exec .systemReadyRise s = .next
            { s with
              sys := { s.sys with ready := true }
              modeCtl := { s.modeCtl with window := none } }))
      ∧ (s.sys.ready = true →
        exec .systemReadyFall s = .next { s with sys := { s.sys with ready := false, tx := none } })

/-- WAKE_REQUEST in GUARD with a class at or above both thresholds: the request is asserted, all as one event.
Its frame is appended as TRIGGER (`holdAppend` is the append that the statements about the hold queue
describe). -/
def Obligations.RequestIsAsserted : Prop :=
  ∀ (s : State) (place : Nat) (r : WakeRequest), Sizes s → s.wake.requests[place]? = some r →
    r.rehearsal = false → s.modeCtl.mode = .guard → r.cls ≠ 0 → s.ctl.cfg.baseThreshold ≤ r.cls →
    effectiveThreshold s.ctl.cfg s.wake.pstate ≤ r.cls →
    ∃ t : State, exec (.wakeRequest place) s = .next t
      ∧ t.modeCtl = handshake s.ctl.cfg s.sys.ready s.modeCtl
      ∧ t.wake.requests = s.wake.requests.eraseIdx place
      ∧ t.wake.quiet = 0 ∧ t.wake.deferred = s.wake.deferred ∧ t.wake.tickHeld = s.wake.tickHeld
      ∧ (s.ctl.cfg.limL ≤ min 511 (s.wake.pressure + weightOf s.ctl.cfg r.cls) →
        t.wake.pressure = s.ctl.cfg.limH ∧ t.wake.pstate = .locked)
      ∧ (min 511 (s.wake.pressure + weightOf s.ctl.cfg r.cls) < s.ctl.cfg.limL →
        t.wake.pressure = min 511 (s.wake.pressure + weightOf s.ctl.cfg r.cls)
          ∧ (s.wake.pstate = .locked → t.wake.pstate = .locked)
          ∧ (s.wake.pstate ≠ .locked →
            t.wake.pstate = pressureStateOf s.ctl.cfg t.wake.pressure))
      ∧ (∀ k, s.wake.record = some k → t.wake.record = some k)
      ∧ (s.wake.record = none →
        t.wake.record =
          some ⟨r.cause, r.cls, r.source, s.bank.tick, s.bank.elapsed, s.wake.pressure,
            r.frame.bind fun f => (holdAppend .trigger f s).2, 0⟩)
      ∧ (r.frame = none → t.hold = s.hold)
      ∧ (∀ f, r.frame = some f → t.hold = (holdAppend .trigger f s).1.hold)
      ∧ t.counter .wakes = satBump (s.counter .wakes)
      ∧ (∀ c : Counter, c ∉ [.wakes, .holdEvicted, .holdClipped, .holdLost] →
        t.counter c = s.counter c)
      ∧ t.ctl.cfg = s.ctl.cfg ∧ t.ctl.response = s.ctl.response ∧ t.bank = s.bank ∧ t.sys = s.sys
      ∧ t.pending = s.pending ∧ t.linePort = s.linePort ∧ t.guardPath = s.guardPath
      ∧ t.matchTable = s.matchTable ∧ t.identities = s.identities ∧ t.names = s.names
      ∧ t.sessions = s.sessions ∧ t.probes = s.probes ∧ t.reply = s.reply ∧ t.arb = s.arb

/-- WAKE_REQUEST where nothing is asserted in GUARD: a request below policy is counted in WAKE_BELOW and its
frame discarded; one at or above the base threshold and below the effective one is counted in
WAKE_SUPPRESSED and raises the deferred class, its frame held as SUPPRESSED or dropped as configured. -/
def Obligations.RequestIsNotAsserted : Prop :=
  ∀ (s : State) (place : Nat) (r : WakeRequest), s.wake.requests[place]? = some r →
    r.rehearsal = false → s.modeCtl.mode = .guard →
    (r.cls = 0 ∨ r.cls < s.ctl.cfg.baseThreshold →
      exec (.wakeRequest place) s = .next
        (bump .wakeBelow
          { s with wake := { s.wake with requests := s.wake.requests.eraseIdx place } }))
      ∧ (r.cls ≠ 0 → s.ctl.cfg.baseThreshold ≤ r.cls →
        r.cls < effectiveThreshold s.ctl.cfg s.wake.pstate →
        (r.frame = none ∨ s.ctl.cfg.suppressDrop = true →
          exec (.wakeRequest place) s = .next
            (bump .wakeSuppressed
              { s with
                wake :=
                  { s.wake with
                    requests := s.wake.requests.eraseIdx place
                    deferred := max s.wake.deferred r.cls } }))
          ∧ (∀ f, r.frame = some f → s.ctl.cfg.suppressDrop = false →
            exec (.wakeRequest place) s = .next
              (holdAppend .suppressed f
                (bump .wakeSuppressed
                  { s with
                    wake :=
                      { s.wake with
                        requests := s.wake.requests.eraseIdx place
                        deferred := max s.wake.deferred r.cls } })).1))

/-- WAKE_REQUEST in WAKING: below policy as in GUARD. Any other request is a later cause: counted in a
captured record, its frame appended as FOLLOWER, and at or above the effective threshold a fresh PULSE cycle
from RESUMED or UNANSWERED; pressure, quiet counter and deferred class stay. -/
def Obligations.LaterCausesInWaking : Prop :=
  ∀ (s : State) (place : Nat) (r : WakeRequest), s.wake.requests[place]? = some r →
    r.rehearsal = false → s.modeCtl.mode = .waking →
    (r.cls = 0 ∨ r.cls < s.ctl.cfg.baseThreshold →
      exec (.wakeRequest place) s = .next
        (bump .wakeBelow
          { s with wake := { s.wake with requests := s.wake.requests.eraseIdx place } }))
      ∧ (r.cls ≠ 0 → s.ctl.cfg.baseThreshold ≤ r.cls →
        ∃ t : State, exec (.wakeRequest place) s = .next t
          ∧ t.wake =
              { s.wake with
                requests := s.wake.requests.eraseIdx place
                record := s.wake.record.map fun k => { k with later := satBump k.later } }
          ∧ (effectiveThreshold s.ctl.cfg s.wake.pstate ≤ r.cls → s.ctl.cfg.wakeMode = .pulse →
              s.modeCtl.sub = .resumed ∨ s.modeCtl.sub = .unanswered →
              t.modeCtl = handshake s.ctl.cfg s.sys.ready s.modeCtl)
          ∧ (r.cls < effectiveThreshold s.ctl.cfg s.wake.pstate ∨ s.ctl.cfg.wakeMode = .level
                ∨ s.modeCtl.sub = .asserted ∨ s.modeCtl.sub = .gap →
              t.modeCtl = s.modeCtl)
          ∧ (r.frame = none → t.hold = s.hold ∧ t.ctl = s.ctl)
          ∧ (∀ f, r.frame = some f →
              t.hold = (holdAppend .follower f s).1.hold ∧ t.ctl = (holdAppend .follower f s).1.ctl)
          ∧ t.bank = s.bank ∧ t.sys = s.sys ∧ t.pending = s.pending ∧ t.linePort = s.linePort
          ∧ t.guardPath = s.guardPath ∧ t.matchTable = s.matchTable ∧ t.identities = s.identities
          ∧ t.names = s.names ∧ t.sessions = s.sessions ∧ t.probes = s.probes ∧ t.reply = s.reply
          ∧ t.arb = s.arb)

/-- WAKE_REQUEST outside the guard's judgement: a rehearsal request is counted in REHEARSAL_WAKES in PASS,
GUARD and WAKING and does nothing else; a request taken in PASS is discarded uncounted with its frame; one
taken in DRAIN is not counted and its frame is appended as FOLLOWER. -/
def Obligations.RequestsOutsideGuard : Prop :=
  ∀ (s : State) (place : Nat) (r : WakeRequest), s.wake.requests[place]? = some r →
    (r.rehearsal = true → s.modeCtl.mode ≠ .drain →
      exec (.wakeRequest place) s = .next
        (bump .rehearsalWakes
          { s with wake := { s.wake with requests := s.wake.requests.eraseIdx place } }))
      ∧ (r.rehearsal = false → s.modeCtl.mode = .pass →
        exec (.wakeRequest place) s = .next
          { s with wake := { s.wake with requests := s.wake.requests.eraseIdx place } })
      ∧ (∀ f, r.rehearsal = false → s.modeCtl.mode = .drain → r.frame = some f →
        ∃ t : State, exec (.wakeRequest place) s = .next t
          ∧ t.wake = { s.wake with requests := s.wake.requests.eraseIdx place }
          ∧ t.hold = (holdAppend .follower f s).1.hold
          ∧ t.ctl = (holdAppend .follower f s).1.ctl
          ∧ (t.modeCtl.mode = .drain ∨ t.modeCtl.mode = .pass ∧ t.hold.records = []))

/-- QUIET_INTERVAL_END with a tick held, the model's own field (log 6, the model's choice): below the interval
the counter moves (a case that only the model has, log 6). At it the counter becomes 0,
P falls by 1, the lock opens when P is 0, and an unlocked state is taken afresh; and where the effective
threshold falls in GUARD to the deferred class or below, a wake of cause DEFERRED is asserted in the same
event and the deferred class becomes 0. -/
def Obligations.QuietIntervalEnds : Prop :=
  ∀ s : State, s.wake.tickHeld = true →
    (s.wake.quiet + 1 < s.ctl.cfg.quietInterval →
      exec .quietIntervalEnd s = .next
        { s with wake := { s.wake with tickHeld := false, quiet := s.wake.quiet + 1 } })
      ∧ (s.ctl.cfg.quietInterval ≤ s.wake.quiet + 1 →
        ∀ ps : PressureState,
          ps =
              (if s.wake.pstate = .locked then
                if s.wake.pressure - 1 = 0 then PressureState.openState else PressureState.locked
              else pressureStateOf s.ctl.cfg (s.wake.pressure - 1)) →
          (¬(effectiveThreshold s.ctl.cfg ps < effectiveThreshold s.ctl.cfg s.wake.pstate
                ∧ s.modeCtl.mode = .guard
                ∧ effectiveThreshold s.ctl.cfg ps ≤ s.wake.deferred) →
            exec .quietIntervalEnd s = .next
              { s with
                wake :=
                  { s.wake with
                    tickHeld := false, quiet := 0, pressure := s.wake.pressure - 1
                    pstate := ps } })
            ∧ (effectiveThreshold s.ctl.cfg ps < effectiveThreshold s.ctl.cfg s.wake.pstate →
                s.modeCtl.mode = .guard →
                effectiveThreshold s.ctl.cfg ps ≤ s.wake.deferred →
                ∃ t : State, exec .quietIntervalEnd s = .next t
                  ∧ t.modeCtl = handshake s.ctl.cfg s.sys.ready s.modeCtl
                  ∧ t.wake.tickHeld = false ∧ t.wake.quiet = 0 ∧ t.wake.deferred = 0
                  ∧ t.wake.requests = s.wake.requests
                  ∧ t.wake.pressure =
                      (if s.ctl.cfg.limL
                          ≤ min 511 (s.wake.pressure - 1 + weightOf s.ctl.cfg s.wake.deferred) then
                        s.ctl.cfg.limH
                      else min 511 (s.wake.pressure - 1 + weightOf s.ctl.cfg s.wake.deferred))
                  ∧ t.wake.record =
                      some
                        (s.wake.record.getD
                          ⟨.deferred, s.wake.deferred, 0, s.bank.tick, s.bank.elapsed,
                            s.wake.pressure - 1, none, 0⟩)
                  ∧ t.hold = s.hold ∧ t.bank = s.bank ∧ t.sys = s.sys
                  ∧ t.ctl = (bump .wakes s).ctl))


/-! ### Sessions -/

/-- SESSION_TIMER_EXPIRY: the oldest notice of the session's timer is taken and an answer is on its way. A
session that is not running, or that is ALIVE with a reload staged as the notice reported it, is not changed;
nor is one that is ALIVE with the idle interval staged since, by a liveness segment taken first (R107; how R147
fits it is deduced, log 8). ALIVE with nothing staged it becomes PROBING, stages the retry interval and has a
probe due. PROBING it counts a miss: below the limit a further probe is due, at it the session is DEAD with its
request. A due probe is built into the lowest FREE slot, or the session joins the pending-probe list once. -/
def Obligations.SessionTimerExpires : Prop :=
  ∀ (s s1 : State) (i : Nat) (x : ExpiryNotice), i < 8 →
    s.bank.notices.find? (fun y => y.timer == i) = some x →
    s1 =
        { s with
          bank :=
            { s.bank with
              notices := s.bank.notices.erase x
              answers := s.bank.answers ++ [i] } } →
    ((s.session i).running = false → exec (.sessionTimerExpiry i) s = .next s1)
      ∧ ((s.session i).state = .alive → x.staged = true →
        exec (.sessionTimerExpiry i) s = .next s1)
      ∧ ((s.session i).state = .alive → x.staged = false → (s.timer i).staged.isSome = true →
        exec (.sessionTimerExpiry i) s = .next s1)
      ∧ ((s.session i).state = .alive → x.staged = false → (s.timer i).staged = none →
        ∀ s2 : State,
          s2 =
              { s1 with
                sessions := s.sessions.modify i fun y => { y with state := .probing }
                bank :=
                  { s1.bank with
                    timers :=
                      s.bank.timers.modify i fun t =>
                        if t.state = .stopped then t
                        else { t with staged := some (s.session i).retry } } } →
          (i ∈ s.probes → exec (.sessionTimerExpiry i) s = .next s2)
            ∧ (∀ k, i ∉ s.probes → freeSlot s = some k →
              exec (.sessionTimerExpiry i) s = .next (s2.probeBuilt k i))
            ∧ (i ∉ s.probes → freeSlot s = none →
              exec (.sessionTimerExpiry i) s = .next { s2 with probes := s.probes ++ [i] }))
      ∧ ((s.session i).state = .probing → (s.session i).miss + 1 < (s.session i).missLimit →
        ∀ s2 : State,
          s2 = { s1 with sessions := s.sessions.modify i fun y => { y with miss := y.miss + 1 } } →
          (i ∈ s.probes → exec (.sessionTimerExpiry i) s = .next s2)
            ∧ (∀ k, i ∉ s.probes → freeSlot s = some k →
              exec (.sessionTimerExpiry i) s = .next (s2.probeBuilt k i))
            ∧ (i ∉ s.probes → freeSlot s = none →
              exec (.sessionTimerExpiry i) s = .next { s2 with probes := s.probes ++ [i] }))
      ∧ ((s.session i).state = .probing → (s.session i).missLimit ≤ (s.session i).miss + 1 →
        exec (.sessionTimerExpiry i) s = .next
          ((State.left
              { s1 with sessions := s.sessions.modify i fun y => { y with miss := y.miss + 1 } }
              i .dead).requested
            ⟨(s.session i).deadCls, .sessionDead, i, none, false⟩))

/-- The judgement of a TCP segment of a running session with a good checksum, by the first of the eight cases
that applies: SYN; RST, exact or not; FIN at RCV; new data; an old retransmission or the peer's probe, heard
and answered with an ACK if a slot is FREE; an acknowledgement at RCV; anything else. (The offsets of the
sequence and acknowledgement numbers are the standard ones, log 4, presumed; OUT_OF_WINDOW for an empty FIN
beyond RCV is deduced, log 19; which timestamp option counts is the model's choice, log 22.) -/
def Obligations.SegmentsAreJudged : Prop :=
  ∀ (s : State) (p : ParsedFrame) (k i flags len : Nat) (e : MatchEntry) (seq ack : BitVec 32)
    (ts : Option (BitVec 32)),
    Decides s p k e → p.path = .guardPath → e.action = .answerSession →
    s.modeCtl.mode = .guard ∨ s.modeCtl.mode = .waking →
    p.fv.pstatus = .ok → p.fv.proto = 6 → p.fv.frag = .whole → p.fv.session = i → i < 8 →
    (s.session i).running = true → transportGood p (segmentLength p) 6 = true →
    p.fv.tcpflags = flags → p.fv.l4len = len → v4At p.bytes (p.pos.l4 + 4) = seq →
    v4At p.bytes (p.pos.l4 + 8) = ack → segmentTsval (s.session i) p = ts →
    (flags.testBit 1 = true →
      exec .classifyFrame s = .next
        (((s.hit k).left i .ended).requested
          ⟨(s.session i).endCls, .sessionEnd, i, some ⟨p.bytes, p.arrival⟩, false⟩))
      ∧ (flags.testBit 1 = false → flags.testBit 2 = true →
        (seq = (s.session i).rcv →
          exec .classifyFrame s = .next
            (((s.hit k).left i .ended).requested
              ⟨(s.session i).endCls, .sessionEnd, i, some ⟨p.bytes, p.arrival⟩, false⟩))
          ∧ (seq ≠ (s.session i).rcv →
            exec .classifyFrame s = .next (bump .rstIgnored (s.hit k))))
      ∧ (flags.testBit 1 = false → flags.testBit 2 = false →
        (flags.testBit 0 = true → seq = (s.session i).rcv →
          exec .classifyFrame s = .next
            (((s.hit k).left i .ended).requested
              ⟨(s.session i).endCls, .sessionEnd, i, some ⟨p.bytes, p.arrival⟩, false⟩))
          ∧ (flags.testBit 0 = false ∨ seq ≠ (s.session i).rcv →
            (1 ≤ len →
              1 ≤ (seq + BitVec.ofNat 32 len - (s.session i).rcv).toNat →
              (seq + BitVec.ofNat 32 len - (s.session i).rcv).toNat ≤ 2 ^ 31 - 1 →
              exec .classifyFrame s = .next
                (((s.hit k).left i .handed).requested
                  ⟨(s.session i).dataCls, .sessionData, i, some ⟨p.bytes, p.arrival⟩, false⟩))
              ∧ ((1 ≤ len
                    ∧ ((seq + BitVec.ofNat 32 len - (s.session i).rcv).toNat = 0
                      ∨ 2 ^ 31 ≤ (seq + BitVec.ofNat 32 len - (s.session i).rcv).toNat))
                    ∨ (len = 0 ∧ seq = (s.session i).rcv - 1) →
                ∀ t : State, t = (s.hit k).heard i ts →
                  (freeSlot s = none →
                    exec .classifyFrame s = .next (bump .replySkipped t))
                    ∧ ∀ slot, freeSlot s = some slot →
                      exec .classifyFrame s = .next
                        (bump .acksSent
                          { t.queued slot .ack (some i)
                              (isV4 (s.identity (s.session i).localId).addr)
                              (ackFrame s.ctl.cfg s.reply.ipId (macAt p.bytes 6) (t.session i)
                                (s.identity (s.session i).localId).addr s.bank.elapsed) with
                            sessions :=
                              t.sessions.modify i fun x =>
                                { x with acksSent := satBump x.acksSent } }))
              ∧ (len = 0 → seq = (s.session i).rcv → flags.testBit 4 = true →
                (1 ≤ (ack - (s.session i).snd).toNat → (ack - (s.session i).snd).toNat ≤ 2 ^ 31 - 1 →
                  exec .classifyFrame s = .next (bump .ackInvalid (s.hit k)))
                  ∧ ((ack - (s.session i).snd).toNat = 0 ∨ 2 ^ 31 ≤ (ack - (s.session i).snd).toNat →
                    exec .classifyFrame s = .next ((s.hit k).heard i ts)))
              ∧ (len = 0 → seq ≠ (s.session i).rcv - 1 →
                seq ≠ (s.session i).rcv ∨ flags.testBit 4 = false →
                exec .classifyFrame s = .next (bump .outOfWindow (s.hit k)))))

/-- In GUARD and WAKING a data frame that leaves the receive FIFO for the line, at its grant (alone, or with a
reply waiting that was served last) or at its discard while the link is DOWN, is inspected: every running
session whose tuple a well-formed TCP segment has in the outbound direction becomes DETACHED, its timer is
stopped and it leaves the pending-probe list; every other session stays; no request is made. A discarded frame
is counted in LINE_TX_DROPPED. In PASS and DRAIN no session changes. (The layouts are the standard ones, log 4,
presumed.) -/
def Obligations.OutboundSegmentsDetach : Prop :=
  ∀ (s : State) (c : Instr) (f : Frame) (rest : List Frame) (q : Parsed), s.sys.rx = f :: rest →
    isControl f = false → parseFrame (s.parseContext false) f = q →
    (c = .lineTxGrant ∧ s.linePort.up = true ∧ s.arb.tx = none
        ∧ (s.reply.queue = [] ∨ s.arb.last = .reply))
      ∨ (c = .systemFrameDiscard ∧ s.linePort.up = false) →
    ∃ t : State, exec c s = .next t
      ∧ t.sys = { s.sys with rx := rest }
      ∧ (c = .lineTxGrant → t.arb = ⟨some (.system f), .system⟩ ∧ t.ctl = s.ctl)
      ∧ (c = .systemFrameDiscard → t.arb = s.arb ∧ t.ctl = (bump .lineTxDropped s).ctl)
      ∧ t.wake = s.wake ∧ t.reply = s.reply ∧ t.hold = s.hold ∧ t.modeCtl = s.modeCtl
      ∧ t.linePort = s.linePort
      ∧ t.sessions.length = s.sessions.length
      ∧ ∀ i < s.sessions.length,
          ((s.modeCtl.mode = .guard ∨ s.modeCtl.mode = .waking) ∧ q.fv.pstatus = .ok
                ∧ q.fv.frag ≠ .later ∧ q.fv.proto = 6
                ∧ (q.fv.l3kind = .ipv4 ∨ q.fv.l3kind = .ipv6) ∧ (s.session i).running = true
                ∧ sameFamily (s.session i).remote (sourceOf q.fv.l3kind f q.pos.l3) = true
                ∧ (s.identity (s.session i).localId).addr = sourceOf q.fv.l3kind f q.pos.l3
                ∧ (s.session i).localPort = q.fv.sport
                ∧ (s.session i).remote = destOf q.fv.l3kind f q.pos.l3
                ∧ (s.session i).remotePort = q.fv.dport →
            t.session i = { s.session i with state := .detached }
              ∧ (i < s.bank.timers.length → (t.timer i).state = .stopped
                ∧ (t.timer i).outstanding = false)
              ∧ i ∉ t.probes)
          ∧ (¬((s.modeCtl.mode = .guard ∨ s.modeCtl.mode = .waking) ∧ q.fv.pstatus = .ok
                ∧ q.fv.frag ≠ .later ∧ q.fv.proto = 6
                ∧ (q.fv.l3kind = .ipv4 ∨ q.fv.l3kind = .ipv6) ∧ (s.session i).running = true
                ∧ sameFamily (s.session i).remote (sourceOf q.fv.l3kind f q.pos.l3) = true
                ∧ (s.identity (s.session i).localId).addr = sourceOf q.fv.l3kind f q.pos.l3
                ∧ (s.session i).localPort = q.fv.sport
                ∧ (s.session i).remote = destOf q.fv.l3kind f q.pos.l3
                ∧ (s.session i).remotePort = q.fv.dport) →
            t.session i = s.session i ∧ t.timer i = s.timer i ∧ (i ∈ t.probes ↔ i ∈ s.probes))

/-! ### The line -/

/-- LINK_UP on a DOWN link: the state is UP, every FROZEN timer runs again with its count, and nothing else
changes, the latch included. LINK_DOWN on an UP link: the state is DOWN and the latch set; the transmission is
cut; every slot for the line is discarded and counted, and the freed slots are handed on, one after the other in
ascending index (log 9, the model's choice), each to the session at the head of the pending-probe list, whose
probe is then QUEUED in it and counted in PROBES_SENT and in the session; every RUNNING
session timer freezes; in GUARD and WAKING a request of a link-lost class other than 0 is sent. An input that changes nothing is no transition (log 1). -/
def Obligations.LinkTransitions : Prop :=
  (∀ s : State, s.linePort.up = false →
    exec .linkUp s = .next
      { s with
        linePort := ⟨true, s.linePort.lost⟩
        bank :=
          { s.bank with
            timers :=
              s.bank.timers.map fun t =>
                if t.state = .frozen then { t with state := .running } else t } })
    ∧ (∀ (s u : State) (freed : List Nat), Sizes s → s.linePort.up = true →
      freed = (List.range 4).filter (fun i => (s.slot i).onLine) →
      u =
        freed.foldl State.handedOn
          { s with
            reply :=
              { s.reply with
                slots := s.reply.slots.map fun x => if x.onLine then Slot.empty else x
                queue := [] } } →
      ∃ t : State, exec (.linkDown none) s = .next t
        ∧ t.linePort = ⟨false, true⟩ ∧ t.arb = ⟨none, s.arb.last⟩
        ∧ t.reply = u.reply ∧ t.sessions = u.sessions ∧ t.probes = u.probes
        ∧ t.counter .probesSent = u.counter .probesSent
        ∧ t.probes = s.probes.drop freed.length
        ∧ (s.probes = [] →
          t.reply =
              { s.reply with
                slots := s.reply.slots.map fun x => if x.onLine then Slot.empty else x
                queue := [] }
            ∧ t.sessions = s.sessions)
        ∧ (t.counter .replyDiscarded).toNat =
            min ((s.counter .replyDiscarded).toNat + freed.length) (2 ^ 32 - 1)
        ∧ (∀ f, s.arb.tx = some (.system f) →
          t.counter .lineTxDropped = satBump (s.counter .lineTxDropped))
        ∧ ((∀ f, s.arb.tx ≠ some (.system f)) → t.counter .lineTxDropped = s.counter .lineTxDropped)
        ∧ (∀ c : Counter, c ∉ [.replyDiscarded, .lineTxDropped, .probesSent] →
          t.counter c = s.counter c)
        ∧ t.ctl.cfg = s.ctl.cfg ∧ t.ctl.response = s.ctl.response
        ∧ (∀ i < 12,
          t.timer i =
            if i < 8 ∧ (s.timer i).state = .running then { s.timer i with state := .frozen }
            else s.timer i)
        ∧ t.wake =
            { s.wake with
              requests :=
                s.wake.requests
                  ++ (if (s.modeCtl.mode = .guard ∨ s.modeCtl.mode = .waking)
                        ∧ s.ctl.cfg.linkLostCls ≠ 0 then
                      [⟨s.ctl.cfg.linkLostCls, .linkLost, 0, none, false⟩]
                    else []) }
        ∧ t.modeCtl = s.modeCtl ∧ t.hold = s.hold ∧ t.sys = s.sys ∧ t.guardPath = s.guardPath
        ∧ t.identities = s.identities ∧ t.matchTable = s.matchTable ∧ t.names = s.names)
    ∧ (∀ (s : State) (n : Nat), s.linePort.up = true →
      exec (.linkDown (some n)) s = exec (.linkDown none) (bump (if 64 ≤ n then .rxFcs else .rxRunt) s))
    ∧ ∀ (s : State) (r : Option Nat),
        (s.linePort.up = true → exec .linkUp s = .next s)
          ∧ (s.linePort.up = false → exec (.linkDown r) s = .next s)

/-- LINE_FRAME_RECEIVED of a frame that fails a receive check, taken in their order: it is dropped and the
counter of the first failing check moves. A frame cut off by the loss of link is counted in RX_FCS from 64
bytes and in RX_RUNT below. While the link is DOWN no other frame is received. -/
def Obligations.BadLineFramesAreCounted : Prop :=
  ∀ (s : State) (rx : LineReception),
    (rx.cut = true →
      exec (.lineFrameReceived rx) s = .next
        (bump (if 64 ≤ rx.bytes.length then .rxFcs else .rxRunt) s))
      ∧ (rx.cut = false → s.linePort.up = false → exec (.lineFrameReceived rx) s = .next s)
      ∧ (rx.cut = false → s.linePort.up = true →
        (rx.bytes.length < 64 → exec (.lineFrameReceived rx) s = .next (bump .rxRunt s))
          ∧ ((isTagged rx.bytes = false ∧ 1518 < rx.bytes.length)
              ∨ (isTagged rx.bytes = true ∧ 1522 < rx.bytes.length) →
            exec (.lineFrameReceived rx) s = .next (bump .rxLong s))
          ∧ (64 ≤ rx.bytes.length →
            rx.bytes.length ≤ (if isTagged rx.bytes then 1522 else 1518) →
            (rx.fcsGood = false ∨ rx.phyError = true →
              exec (.lineFrameReceived rx) s = .next (bump .rxFcs s))
              ∧ (rx.fcsGood = true → rx.phyError = false → s.modeCtl.mode ≠ .pass →
                (s.ctl.cfg.vid = 0 ∧ isTagged rx.bytes = true ∧ vidOf rx.bytes ≠ 0)
                    ∨ (s.ctl.cfg.vid ≠ 0
                      ∧ (isTagged rx.bytes = false ∨ vidOf rx.bytes ≠ s.ctl.cfg.vid)) →
                exec (.lineFrameReceived rx) s = .next (bump .rxVlanForeign s))))

/-- LINE_FRAME_RECEIVED of a good frame, without its FCS. GUARD and WAKING: to the input FIFO, or counted in
PARSE_OVERRUN when it is full. PASS: to the forward FIFO, or counted in FWD_DROPPED; with rehearsal on a copy
the VLAN filter admits takes a place of the input FIFO if there is one. DRAIN: to the input FIFO behind a
pending frame, or else to the hold queue as DRAINED, behind the DRAIN frames that waited in the FIFO
(log 10). -/
def Obligations.GoodLineFramesAreHandedOn : Prop :=
  ∀ (s : State) (b : Frame) (admitted : Prop), s.linePort.up = true → 64 ≤ b.length →
    b.length ≤ (if isTagged b then 1522 else 1518) →
    (admitted ↔
      (s.ctl.cfg.vid = 0 ∧ (isTagged b = false ∨ vidOf b = 0))
        ∨ (s.ctl.cfg.vid ≠ 0 ∧ isTagged b = true ∧ vidOf b = s.ctl.cfg.vid)) →
    (s.modeCtl.mode = .guard ∨ s.modeCtl.mode = .waking → admitted →
      (s.guardPath.fifo.length < 16 →
        exec (.lineFrameReceived ⟨b, true, false, false⟩) s = .next
          (bump .rxGood
            { s with
              guardPath :=
                { s.guardPath with
                  fifo :=
                    s.guardPath.fifo ++ [⟨b.take (b.length - 4), s.bank.tick, .guardPath⟩] } }))
        ∧ (16 ≤ s.guardPath.fifo.length →
          exec (.lineFrameReceived ⟨b, true, false, false⟩) s = .next
            (bump .parseOverrun (bump .rxGood s))))
      ∧ (s.modeCtl.mode = .pass →
        ∀ t : State,
          t =
              (if s.sys.ready = true ∧ s.sys.fwd.length < 2 then
                bump .rxGood
                  { s with sys := { s.sys with fwd := s.sys.fwd ++ [b.take (b.length - 4)] } }
              else bump .fwdDropped (bump .rxGood s)) →
          (s.ctl.cfg.rehearsal = true → admitted → s.guardPath.fifo.length < 16 →
            exec (.lineFrameReceived ⟨b, true, false, false⟩) s = .next
              { t with
                guardPath :=
                  { s.guardPath with
                    fifo := s.guardPath.fifo ++ [⟨b.take (b.length - 4), s.bank.tick, .copy⟩] } })
            ∧ (s.ctl.cfg.rehearsal = false ∨ ¬admitted ∨ 16 ≤ s.guardPath.fifo.length →
              exec (.lineFrameReceived ⟨b, true, false, false⟩) s = .next t))
      ∧ (s.modeCtl.mode = .drain → admitted →
        (guardPending s = true → s.guardPath.fifo.length < 16 →
          exec (.lineFrameReceived ⟨b, true, false, false⟩) s = .next
            (bump .rxGood
              { s with
                guardPath :=
                  { s.guardPath with
                    fifo :=
                      s.guardPath.fifo ++ [⟨b.take (b.length - 4), s.bank.tick, .drained⟩] } }))
          ∧ (guardPending s = true → 16 ≤ s.guardPath.fifo.length →
            exec (.lineFrameReceived ⟨b, true, false, false⟩) s = .next
              (bump .parseOverrun (bump .rxGood s)))
          ∧ (guardPending s = false →
            exec (.lineFrameReceived ⟨b, true, false, false⟩) s = .next
              (bump .rxGood
                { s with
                  guardPath :=
                    { s.guardPath with
                      fifo := s.guardPath.fifo.filter fun g => g.path != .drained }
                  hold :=
                    { s.hold with
                      appends :=
                        s.hold.appends
                          ++ ((s.guardPath.fifo.filter fun g => g.path == .drained).map fun g =>
                            ⟨⟨g.bytes, g.arrival⟩, .drained⟩)
                          ++ [⟨⟨b.take (b.length - 4), s.bank.tick⟩, .drained⟩] } })))

/-- The line transmitter. LINE_TX_GRANT on an UP link and an idle transmitter grants the reply queue's oldest
slot or the data frame at the head, the one not served last when both wait. LINE_TX_DONE frees and hands on a
reply's slot, or ends a data frame. SYSTEM_FRAME_DISCARD on a DOWN link takes a data frame and counts it.
(Data frames are granted and discarded here in PASS and DRAIN; the inspection in guard is another
statement.) -/
def Obligations.LineTransmitter : Prop :=
  ∀ s : State,
    (∀ (i : Nat) (q : List Nat), s.linePort.up = true → s.arb.tx = none → s.reply.queue = i :: q →
      s.arb.last = .system ∨ dataHead s = none →
      exec .lineTxGrant s = .next
        { s with
          arb := ⟨some (.reply i), .reply⟩
          reply :=
            { s.reply with
              slots := s.reply.slots.modify i fun x => { x with state := .sending }
              queue := q } })
      ∧ (∀ (f : Frame) (rest : List Frame), s.linePort.up = true → s.arb.tx = none →
        s.sys.rx = f :: rest → isControl f = false → s.arb.last = .reply ∨ s.reply.queue = [] →
        s.modeCtl.mode = .pass ∨ s.modeCtl.mode = .drain →
        exec .lineTxGrant s = .next
          { s with
            arb := ⟨some (.system f), .system⟩
            sys := { s.sys with rx := rest } })
      ∧ (s.linePort.up = false ∨ s.arb.tx ≠ none → exec .lineTxGrant s = .next s)
      ∧ (∀ i, s.arb.tx = some (.reply i) →
        exec .lineTxDone s = .next
          (State.handedOn { s with arb := { s.arb with tx := none } } i))
      ∧ (∀ f, s.arb.tx = some (.system f) →
        exec .lineTxDone s = .next { s with arb := { s.arb with tx := none } })
      ∧ ∀ (f : Frame) (rest : List Frame), s.linePort.up = false → s.sys.rx = f :: rest →
          isControl f = false → s.modeCtl.mode = .pass ∨ s.modeCtl.mode = .drain →
          exec .systemFrameDiscard s = .next
            (bump .lineTxDropped { s with sys := { s.sys with rx := rest } })


/-! ### The parser and the classifier -/

/-- PARSE_FRAME. A guard-path frame is parsed in every mode, handed to the classifier and counted by its
PSTATUS; a rehearsal copy is parsed and not counted (stated outside DRAIN, which it could end). A DRAIN frame
is not parsed: it goes to the hold queue, once nothing is pending ahead of it. With the classifier's place
taken the parser waits (log 10). -/
def Obligations.FramesAreParsed : Prop :=
  ∀ (s : State) (g : GuardItem) (rest : List GuardItem) (q : Parsed), s.guardPath.fifo = g :: rest →
    parseFrame (s.parseContext true) g.bytes = q →
    (s.guardPath.parsed = none → g.path = .guardPath →
      exec .parseFrame s = .next
        ((match q.fv.pstatus with
          | .short => bump .parseShort
          | .badLen => bump .parseShort
          | .badHdrSum => bump .parseBadsum
          | _ => id)
          { s with
            guardPath :=
              { s.guardPath with
                fifo := rest
                parsed := some ⟨g.bytes, g.arrival, .guardPath, q.fv, q.pos⟩ } }))
      ∧ (s.guardPath.parsed = none → g.path = .copy → s.modeCtl.mode ≠ .drain →
        exec .parseFrame s = .next
          { s with
            guardPath :=
              { s.guardPath with
                fifo := rest
                parsed := some ⟨g.bytes, g.arrival, .copy, q.fv, q.pos⟩ } })
      ∧ (g.path ≠ .drained → s.guardPath.parsed ≠ none → exec .parseFrame s = .next s)
      ∧ (g.path = .drained → guardPending s = false →
        exec .parseFrame s = .next
          { s with
            guardPath := { s.guardPath with fifo := rest }
            hold := { s.hold with appends := s.hold.appends ++ [⟨⟨g.bytes, g.arrival⟩, .drained⟩] } })
      ∧ (g.path = .drained → guardPending s = true → exec .parseFrame s = .next s)

/-- The Ethernet header of every frame: DCLASS by the five cases of R32 in their order, ETYPE after the tag if
there is one, L3KIND from ETYPE; for L3KIND NONE and OTHER the parser stops, with PSTATUS OTHER for a second
tag and OK otherwise, and every later field keeps its none value. -/
def Obligations.EthernetHeaderIsParsed : Prop :=
  ∀ (s : State) (b : Frame) (d et : Nat) (v : FieldVector),
    (parseFrame (s.parseContext true) b).fv = v → beNat b 0 6 = d →
    et = (if beNat b 12 2 = 0x8100 then beNat b 16 2 else beNat b 12 2) →
    (s.ctl.cfg.hostMac ≠ 0 ∧ BitVec.ofNat 48 d = s.ctl.cfg.hostMac → v.dclass = .own)
      ∧ (¬(s.ctl.cfg.hostMac ≠ 0 ∧ BitVec.ofNat 48 d = s.ctl.cfg.hostMac) →
        (d = 0xFFFFFFFFFFFF → v.dclass = .broadcast)
          ∧ (d ≠ 0xFFFFFFFFFFFF → d / 2 ^ 40 % 2 = 1 →
            (BitVec.ofNat 48 d ∈ s.guardPath.listed → v.dclass = .listed)
              ∧ (BitVec.ofNat 48 d ∉ s.guardPath.listed → v.dclass = .other))
          ∧ (d / 2 ^ 40 % 2 = 0 → v.dclass = .foreign))
      ∧ v.etype = et
      ∧ (et = 0x0806 → v.l3kind = .arp) ∧ (et = 0x0800 → v.l3kind = .ipv4)
      ∧ (et = 0x86DD → v.l3kind = .ipv6) ∧ (et < 0x0600 → v.l3kind = .none)
      ∧ (0x0600 ≤ et → et ≠ 0x0806 → et ≠ 0x0800 → et ≠ 0x86DD → v.l3kind = .other)
      ∧ (v.l3kind = .none ∨ v.l3kind = .other →
        v =
          ⟨v.dclass, et, v.l3kind, 15, 0, 0, 0, 0, 0, 0, 15, 0, 0, .whole,
            if beNat b 12 2 = 0x8100 ∧ et = 0x8100 then .other else .ok, 0⟩)

/-- Whatever the frame, each of the sixteen fields is in the width that a match term compares, and in a frame
of at least 18 bytes the header positions are in order and the bytes that L4LEN counts lie in the frame. (For a
layer that the parser does not reach, the position is the model's choice, log 21.) -/
def Obligations.FieldsAreInRange : Prop :=
  ∀ (s : State) (b : Frame) (q : Parsed), s.identities.length = 12 → s.sessions.length = 8 →
    parseFrame (s.parseContext true) b = q →
    (∀ id ≤ 15, q.fv.get id < 2 ^ fieldWidth id)
      ∧ (18 ≤ b.length →
        q.pos.l3 ≤ q.pos.l4 ∧ q.pos.l4 ≤ q.pos.pay ∧ q.pos.pay + q.fv.l4len ≤ b.length)

/-- CLASSIFY_FRAME, whatever the verdict and its outcome: the lowest valid entry of whose present terms each
agrees with the frame in the bits of its mask is the one whose hit count moves, and no other entry changes;
when there is none MATCH_NONE moves and no entry changes. While the last verdict is not carried out the
classifier waits (log 10, the model's choice). -/
def Obligations.LowestMatchDecides : Prop :=
  ∀ (s : State) (p : ParsedFrame) (hits : MatchEntry → Prop), Sizes s →
    s.guardPath.parsed = some p →
    (∀ e, hits e ↔
      e.valid = true ∧
        ∀ x, some x ∈ e.terms →
          BitVec.ofNat 32 (p.fv.get x.field) &&& x.mask = x.value &&& x.mask) →
    (classifierFree s = false → exec .classifyFrame s = .next s)
      ∧ (classifierFree s = true →
        ∃ t : State, exec .classifyFrame s = .next t ∧ t.guardPath.parsed = none
          ∧ (∀ k e, s.matchTable[k]? = some e → hits e →
              (∀ j, j < k → ∀ e', s.matchTable[j]? = some e' → ¬hits e') →
              t.matchTable = s.matchTable.set k { e with hits := satBump e.hits }
                ∧ t.counter .matchNone = s.counter .matchNone)
          ∧ ((∀ e ∈ s.matchTable, ¬hits e) →
              t.matchTable = s.matchTable
                ∧ t.counter .matchNone = satBump (s.counter .matchNone)))

/-- The verdicts that need no responder, for a guard-path frame. DROP discards it. HOLD hands it to the hold
queue, HELD in GUARD and FOLLOWER in WAKING and after LEAVE_GUARD. WAKE sends the entry's request in GUARD and
WAKING and appends the frame as FOLLOWER after LEAVE_GUARD. A frame without an entry takes the default. Whatever
the responder, a frame with a PSTATUS other than OK is declined, and the entry's fallback disposes of it: DROP,
HOLD, or a request of cause FALLBACK; after LEAVE_GUARD both HOLD and WAKE append it as FOLLOWER. -/
def Obligations.VerdictsAreCarriedOut : Prop :=
  ∀ (s : State) (p : ParsedFrame), p.path = .guardPath →
    (∀ k e, Decides s p k e →
      (e.action = .drop → s.modeCtl.mode ≠ .drain → exec .classifyFrame s = .next (s.hit k))
        ∧ (e.action = .hold →
          exec .classifyFrame s = .next
            { s.hit k with
              hold :=
                { s.hold with
                  appends :=
                    s.hold.appends
                      ++ [⟨⟨p.bytes, p.arrival⟩,
                        if s.modeCtl.mode = .guard then .held else .follower⟩] } })
        ∧ (e.action = .wake → s.modeCtl.mode = .guard ∨ s.modeCtl.mode = .waking →
          exec .classifyFrame s = .next
            ((s.hit k).requested
              ⟨e.cls, .frameMatch, k, some ⟨p.bytes, p.arrival⟩, false⟩))
        ∧ (e.action = .wake → s.modeCtl.mode = .drain →
          exec .classifyFrame s = .next
            { s.hit k with
              hold :=
                { s.hold with
                  appends := s.hold.appends ++ [⟨⟨p.bytes, p.arrival⟩, .follower⟩] } })
        ∧ (e.action ∈ [.answerAddress, .answerEcho, .answerName, .answerSession] →
          p.fv.pstatus ≠ .ok →
          (s.modeCtl.mode = .guard ∨ s.modeCtl.mode = .waking →
            exec .classifyFrame s = .next ((s.hit k).disposed k e p))
            ∧ (s.modeCtl.mode = .drain → e.fallback ≠ .drop →
              exec .classifyFrame s = .next
                { s.hit k with
                  hold :=
                    { s.hold with
                      appends := s.hold.appends ++ [⟨⟨p.bytes, p.arrival⟩, .follower⟩] } })))
      ∧ (s.guardPath.parsed = some p → classifierFree s = true →
        firstMatch s.matchTable p.fv = none →
        (s.ctl.cfg.defaultHold = false → s.modeCtl.mode ≠ .drain →
          exec .classifyFrame s = .next
            (bump .matchNone { s with guardPath := { s.guardPath with parsed := none } }))
          ∧ (s.ctl.cfg.defaultHold = true →
            exec .classifyFrame s = .next
              (bump .matchNone
                { s with
                  guardPath := { s.guardPath with parsed := none }
                  hold :=
                    { s.hold with
                      appends :=
                        s.hold.appends
                          ++ [⟨⟨p.bytes, p.arrival⟩,
                            if s.modeCtl.mode = .guard then .held else .follower⟩] } })))

/-- An ARP request in guard for a READY V4 identity with answer-resolution, from a station that is not the
host and claims no identity: with a FREE slot the lowest is QUEUED for the line with the ARP reply of R69,
byte for byte (tag as configured, padding to 60 bytes), and ANSWER_ARP moves; with none the answer is skipped
and counted. The ARP layout is the standard one (log 4, presumed). -/
def Obligations.ArpRequestIsAnswered : Prop :=
  ∀ (s : State) (p : ParsedFrame) (k i : Nat) (e : MatchEntry) (x : Identity) (ip : BitVec 32)
    (mac : Mac) (sender : BitVec 32),
    Decides s p k e → p.path = .guardPath → e.action = .answerAddress →
    s.modeCtl.mode = .guard ∨ s.modeCtl.mode = .waking →
    p.fv.pstatus = .ok → p.fv.l3kind = .arp → beNat p.bytes (p.pos.l3 + 6) 2 = 1 →
    macAt p.bytes (p.pos.l3 + 8) = mac → mac ≠ s.ctl.cfg.hostMac →
    v4At p.bytes (p.pos.l3 + 14) = sender → sender ≠ 0 →
    (∀ y ∈ s.identities, y.valid = true → y.addr ≠ .v4 sender) →
    p.fv.dstid = i → s.identities[i]? = some x → x.valid = true → x.addr = .v4 ip →
    x.state = .ready → x.answerResolution = true →
    (∀ slot, freeSlot s = some slot →
      exec .classifyFrame s = .next
        (bump .answerArp
          ((s.hit k).queued slot .answer none false
            (macBytes mac ++ macBytes s.ctl.cfg.hostMac
              ++ (if s.ctl.cfg.vid = 0 then []
                else toBytes 2 0x8100 ++ toBytes 2 (s.ctl.cfg.pcp * 2 ^ 13 + s.ctl.cfg.vid))
              ++ [0x08, 0x06, 0, 1, 0x08, 0x00, 6, 4, 0, 2] ++ macBytes s.ctl.cfg.hostMac
              ++ toBytes 4 ip.toNat ++ macBytes mac ++ toBytes 4 sender.toNat
              ++ List.replicate 18 0))))
      ∧ (freeSlot s = none →
        exec .classifyFrame s = .next (bump .replySkipped (s.hit k)))

/-- A foreign claim on an identity, in each of the four forms of R71: an ARP frame whose sender address is the
identity's, an ARP probe for it, a duplicate-address probe for it, an advertisement of it, each from another
station. The identity READY, in GUARD, WAKING or carried through after LEAVE_GUARD: it becomes CONFLICTED and its
count and CONFLICTS move; the running sessions on it are DETACHED, their timers stopped, off the pending-probe
list; its conflict class is requested with the frame, or after LEAVE_GUARD the frame is appended as FOLLOWER and
no request is made; with the defend flag and a FREE slot the defence of the form is QUEUED, and without a slot it
is skipped and counted. The identity CONFLICTED already: only the two counts move, and the entry's fallback
disposes of the frame. (The layouts are the standard ones, log 4, presumed.) -/
def Obligations.ForeignClaimsAreHandled : Prop :=
  ∀ (s : State) (p : ParsedFrame) (k i : Nat) (e : MatchEntry) (x : Identity) (defence : Frame)
    (on : Nat → Bool),
    Sizes s → Decides s p k e → p.path = .guardPath → e.action = .answerAddress →
    p.fv.pstatus = .ok → s.identities[i]? = some x → x.valid = true →
    (∀ j, on j = true ↔ (s.session j).running = true ∧ (s.session j).localId = i) →
    ((∃ mac ip, p.fv.l3kind = .arp ∧ macAt p.bytes (p.pos.l3 + 8) = mac ∧ mac ≠ s.ctl.cfg.hostMac
          ∧ x.addr = .v4 ip
          ∧ ((v4At p.bytes (p.pos.l3 + 14) = ip ∧ identityOf s.identities (.v4 ip) = some i
              ∧ defence = arpFrame s.ctl.cfg Config.broadcastMac 1 ip 0 ip)
            ∨ (v4At p.bytes (p.pos.l3 + 14) = 0 ∧ identityOf s.identities (.v4 0) = none
              ∧ beNat p.bytes (p.pos.l3 + 6) 2 = 1 ∧ p.fv.dstid = i
              ∧ defence = arpFrame s.ctl.cfg mac 2 ip mac 0)))
      ∨ (∃ ip, p.fv.l3kind = .ipv6 ∧ p.fv.proto = 58 ∧ AcceptedNd p
          ∧ macAt p.bytes 6 ≠ s.ctl.cfg.hostMac ∧ p.fv.dstid = i ∧ x.addr = .v6 ip
          ∧ (p.fv.icmptype = 136
            ∨ (p.fv.icmptype = 135 ∧ sourceOf .ipv6 p.bytes p.pos.l3 = .v6 0))
          ∧ defence =
              advertisementFrame s.ctl.cfg Config.allNodesMac ip Config.allNodesV6 0x20)) →
    (x.state = .ready → s.modeCtl.mode ≠ .pass →
      ∃ t : State, exec .classifyFrame s = .next t
        ∧ t.identities =
            s.identities.set i { x with state := .conflicted, conflicts := satBump x.conflicts }
        ∧ t.counter .conflicts = satBump (s.counter .conflicts)
        ∧ (∀ c : Counter, c ∉ [.conflicts, .replySkipped] → t.counter c = s.counter c)
        ∧ (s.modeCtl.mode = .guard ∨ s.modeCtl.mode = .waking →
          t.wake =
              { s.wake with
                requests :=
                  s.wake.requests
                    ++ [⟨x.cls, .addressConflict, i, some ⟨p.bytes, p.arrival⟩, false⟩] }
            ∧ t.hold = s.hold)
        ∧ (s.modeCtl.mode = .drain →
          t.wake = s.wake
            ∧ t.hold =
                { s.hold with
                  appends := s.hold.appends ++ [⟨⟨p.bytes, p.arrival⟩, .follower⟩] })
        ∧ t.sessions =
            s.sessions.map (fun y =>
              if y.running = true ∧ y.localId = i then { y with state := .detached } else y)
        ∧ (∀ j < 12,
          t.timer j =
            if on j = true then
              { s.timer j with state := .stopped, staged := none, outstanding := false }
            else s.timer j)
        ∧ { t.bank with timers := s.bank.timers } = s.bank
        ∧ t.probes = s.probes.filter (fun j => !on j)
        ∧ (x.defend = false →
          t.reply = s.reply ∧ t.counter .replySkipped = s.counter .replySkipped)
        ∧ (x.defend = true → freeSlot s = none →
          t.reply = s.reply ∧ t.counter .replySkipped = satBump (s.counter .replySkipped))
        ∧ (∀ slot, x.defend = true → freeSlot s = some slot →
          t.reply =
              { s.reply with
                slots := s.reply.slots.set slot ⟨.queued, .line, .defence, none, defence⟩
                queue := s.reply.queue ++ [slot] }
            ∧ t.counter .replySkipped = s.counter .replySkipped)
        ∧ t.modeCtl = s.modeCtl ∧ t.sys = s.sys ∧ t.names = s.names
        ∧ t.linePort = s.linePort ∧ t.arb = s.arb)
      ∧ (x.state = .conflicted →
        ∀ u : State,
          u =
              bump .conflicts
                { s.hit k with
                  identities := s.identities.set i { x with conflicts := satBump x.conflicts } } →
          (s.modeCtl.mode = .guard ∨ s.modeCtl.mode = .waking →
            exec .classifyFrame s = .next (u.disposed k e p))
            ∧ (s.modeCtl.mode = .drain → e.fallback ≠ .drop →
              exec .classifyFrame s = .next
                { u with
                  hold :=
                    { s.hold with
                      appends := s.hold.appends ++ [⟨⟨p.bytes, p.arrival⟩, .follower⟩] } }))

/-- Echo requests and neighbour solicitations in guard. A bad checksum drops the request, counted in L4_BADSUM. An
echo request that meets R81 and fits a slot (R82), and a solicitation that meets R67 and R70, is answered: with a
FREE slot the lowest is QUEUED for the line with the reply of R83, R84 or R70, and ANSWER_ECHO or ANSWER_ND moves;
with none the answer is skipped and counted. Any other is declined, and the entry's fallback disposes of it. (A
solicitation that shows a conflict is the subject of another statement; the layouts are the standard ones, log 4,
presumed.) -/
def Obligations.IcmpRequestsAreAnswered : Prop :=
  ∀ (s : State) (p : ParsedFrame) (k len : Nat) (e : MatchEntry) (x : Identity) (src dst : Addr)
    (m : Frame) (from' : Mac) (good : Bool),
    Decides s p k e → p.path = .guardPath → s.modeCtl.mode = .guard ∨ s.modeCtl.mode = .waking →
    p.fv.pstatus = .ok → p.fv.frag = .whole → s.identity p.fv.dstid = x →
    sourceOf p.fv.l3kind p.bytes p.pos.l3 = src → destOf p.fv.l3kind p.bytes p.pos.l3 = dst →
    p.fv.l4len + 8 = len → slice p.bytes p.pos.l4 len = m → macAt p.bytes 6 = from' →
    good =
        (if p.fv.l3kind = .ipv4 then sumGood m else sumGood (pseudoHeader src dst len 58 ++ m)) →
    (∀ meets : Prop, e.action = .answerEcho →
      (p.fv.l3kind = .ipv4 ∧ p.fv.proto = 1 ∧ p.fv.icmptype = 8)
        ∨ (p.fv.l3kind = .ipv6 ∧ p.fv.proto = 58 ∧ p.fv.icmptype = 128) →
      (meets ↔
        p.fv.dclass = .own ∧ x.valid = true ∧ (isV4 x.addr = true ↔ p.fv.l3kind = .ipv4)
          ∧ x.state = .ready ∧ x.answerEcho = true ∧ canReceive src = true ∧ isGroupMac from' = false
          ∧ (if s.ctl.cfg.vid = 0 then 14 else 18) + (if p.fv.l3kind = .ipv4 then 20 else 40) + len
              ≤ 384) →
      (byteAt p.bytes (p.pos.l4 + 1) ≠ 0 → exec .classifyFrame s = .next ((s.hit k).disposed k e p))
        ∧ (byteAt p.bytes (p.pos.l4 + 1) = 0 → good = false →
          exec .classifyFrame s = .next (bump .l4Badsum (s.hit k)))
        ∧ (byteAt p.bytes (p.pos.l4 + 1) = 0 → good = true → ¬meets →
          exec .classifyFrame s = .next ((s.hit k).disposed k e p))
        ∧ (byteAt p.bytes (p.pos.l4 + 1) = 0 → good = true → meets →
          (∀ slot, freeSlot s = some slot →
            exec .classifyFrame s = .next
              (bump .answerEcho
                ((s.hit k).queued slot .answer none (isV4 x.addr)
                  (ipFrame s.ctl.cfg s.reply.ipId from' s.ctl.cfg.hopLimit
                    (if p.fv.l3kind = .ipv4 then 1 else 58) x.addr src (echoMessage x.addr m)))))
            ∧ (freeSlot s = none →
              exec .classifyFrame s = .next (bump .replySkipped (s.hit k)))))
      ∧ (∀ answers conflict : Prop, e.action = .answerAddress → p.fv.l3kind = .ipv6 →
        p.fv.proto = 58 → p.fv.icmptype = 135 →
        (answers ↔
          AcceptedNd p ∧ canReceive src = true ∧ x.valid = true ∧ isV4 x.addr = false
            ∧ x.state = .ready ∧ x.answerResolution = true) →
        (conflict ↔
          AcceptedNd p ∧ src = .v6 0 ∧ from' ≠ s.ctl.cfg.hostMac ∧ x.valid = true
            ∧ isV4 x.addr = false) →
        (24 ≤ len → good = false → exec .classifyFrame s = .next (bump .l4Badsum (s.hit k)))
          ∧ (len < 24 ∨ good = true → ¬answers → ¬conflict →
            exec .classifyFrame s = .next ((s.hit k).disposed k e p))
          ∧ (∀ ip sender, answers → x.addr = .v6 ip → src = .v6 sender →
            (∀ slot, freeSlot s = some slot →
              exec .classifyFrame s = .next
                (bump .answerNd
                  ((s.hit k).queued slot .answer none false
                    (ipFrame s.ctl.cfg 0 from' 255 58 (.v6 ip) (.v6 sender)
                      (withChecksum (pseudoHeader (.v6 ip) (.v6 sender) 32 58) [136, 0]
                        ([0x60, 0, 0, 0] ++ toBytes 16 ip.toNat ++ [2, 1]
                          ++ macBytes s.ctl.cfg.hostMac) fun n => n)))))
              ∧ (freeSlot s = none →
                exec .classifyFrame s = .next (bump .replySkipped (s.hit k)))))

/-- A name query in guard, sent to a READY identity or to the family's name group on the name port, with a good
UDP checksum: a query of one question, of type A, AAAA or ANY, for the name of an entry that the table's lowest
matching entry gives at least one record, is answered with up to four records in ascending index, to the querier
on the unicast-reply bit or another source port and to the group otherwise; with a FREE slot the lowest is QUEUED
for the line with the answer of R94 and R95, and ANSWER_NAME and the entry's answer count move; with none the
answer is skipped and counted. A query without a matching entry, without a record, or that R95 gives no source or
no receiver is declined, and the entry's fallback disposes of it; a bad checksum drops the query, counted in
L4_BADSUM. (The layouts are the standard ones, log 4, presumed.) -/
def Obligations.NameQueriesAreAnswered : Prop :=
  ∀ (s : State) (p : ParsedFrame) (k id f0 f1 extra qtype qclass : Nat) (e : MatchEntry)
    (v4 direct good : Bool) (src : Addr) (name tail : Frame) (records : NameEntry → List Addr),
    Sizes s → Decides s p k e → p.path = .guardPath → e.action = .answerName →
    s.modeCtl.mode = .guard ∨ s.modeCtl.mode = .waking →
    p.fv.pstatus = .ok → p.fv.l3kind = .ipv4 ∨ p.fv.l3kind = .ipv6 → p.fv.proto = 17 →
    p.fv.frag = .whole → p.fv.dport = s.ctl.cfg.namePort →
    v4 = decide (p.fv.l3kind = .ipv4) → sourceOf p.fv.l3kind p.bytes p.pos.l3 = src →
    direct =
        ((s.identity p.fv.dstid).valid && (isV4 (s.identity p.fv.dstid).addr == v4)
          && (s.identity p.fv.dstid).state == .ready) →
    direct = true ∨ destOf p.fv.l3kind p.bytes p.pos.l3 = groupOf s.ctl.cfg v4 →
    good =
        (if beNat p.bytes (p.pos.l4 + 6) 2 = 0 then v4 else transportGood p (p.fv.l4len + 8) 17) →
    slice p.bytes p.pos.pay p.fv.l4len =
        toBytes 2 id ++ toBytes 1 f0 ++ toBytes 1 f1 ++ toBytes 2 1 ++ toBytes 2 0 ++ toBytes 2 0
          ++ toBytes 2 extra ++ name ++ toBytes 2 qtype ++ toBytes 2 qclass ++ tail →
    id < 2 ^ 16 → f0 < 8 → nameWellFormed name = true → qtype ∈ [1, 28, 255] →
    qclass = 1 ∨ qclass = 0x8001 →
    (∀ n, records n =
      (((List.range 12).filter fun i =>
          n.idset.getLsbD i && (s.identity i).valid && (s.identity i).state == .ready
            && if isV4 (s.identity i).addr then qtype != 28 else qtype != 1).map
        fun i => (s.identity i).addr).take 4) →
    (good = false → exec .classifyFrame s = .next (bump .l4Badsum (s.hit k)))
      ∧ (good = true → matchingName s.names name = none →
        exec .classifyFrame s = .next ((s.hit k).disposed k e p))
      ∧ ∀ j n, good = true → matchingName s.names name = some j → s.names[j]? = some n →
        (records n = [] → exec .classifyFrame s = .next ((s.hit k).disposed k e p))
          ∧ ((qclass = 0x8001 ∨ p.fv.sport ≠ s.ctl.cfg.namePort) →
            canReceive src = false ∨ isGroupMac (macAt p.bytes 6) = true →
            exec .classifyFrame s = .next ((s.hit k).disposed k e p))
          ∧ (direct = false →
            (∀ x ∈ s.identities, x.valid = true → x.state = .ready → isV4 x.addr ≠ v4) →
            exec .classifyFrame s = .next ((s.hit k).disposed k e p))
          ∧ ∀ (mac : Mac) (ip source : Addr) (port : Nat), records n ≠ [] →
            ((qclass = 0x8001 ∨ p.fv.sport ≠ s.ctl.cfg.namePort) ∧ canReceive src = true
                ∧ isGroupMac (macAt p.bytes 6) = false ∧ mac = macAt p.bytes 6 ∧ ip = src
                ∧ port = p.fv.sport)
              ∨ (qclass = 1 ∧ p.fv.sport = s.ctl.cfg.namePort ∧ mac = groupMac (groupOf s.ctl.cfg v4)
                ∧ ip = groupOf s.ctl.cfg v4 ∧ port = s.ctl.cfg.namePort) →
            (direct = true ∧ source = (s.identity p.fv.dstid).addr)
              ∨ (direct = false
                ∧ ∃ i, (s.identity i).valid = true ∧ (s.identity i).state = .ready
                  ∧ isV4 (s.identity i).addr = v4 ∧ source = (s.identity i).addr
                  ∧ ∀ h < i, (s.identity h).valid = true → (s.identity h).state = .ready →
                    isV4 (s.identity h).addr ≠ v4) →
            (∀ slot, freeSlot s = some slot →
              exec .classifyFrame s = .next
                (bump .answerName
                  { (s.hit k).queued slot .answer none v4
                      (ipFrame s.ctl.cfg s.reply.ipId mac s.ctl.cfg.hopLimit 17 source ip
                        (udpDatagram source ip s.ctl.cfg.namePort port
                          (nameMessage id name n.ttl (records n)))) with
                    names := s.names.set j { n with answers := satBump n.answers } }))
              ∧ (freeSlot s = none →
                exec .classifyFrame s = .next (bump .replySkipped (s.hit k)))

/-- A rehearsal copy, parsed or classified, leaves alone what R20 lists: identity states and conflict counts,
session states and runtime fields, pressure, quiet counter, deferred class and wake record, the hold queue, the
IPv4 identification counter, and every counter but MATCH_NONE; the only requests it sends are rehearsal
requests, and the only replies it builds are notices. That the keepalive unit declines a copy, and that a copy
stays one outside PASS, is deduced (log 11). -/
def Obligations.CopiesLeaveTheStateAlone : Prop :=
  ∀ (s t : State) (c : Instr),
    (c = .parseFrame ∧ s.guardPath.fifo.head?.map GuardItem.path = some .copy)
      ∨ (c = .classifyFrame ∧ s.guardPath.parsed.map ParsedFrame.path = some .copy) →
    exec c s = .next t →
    t.identities = s.identities ∧ t.sessions = s.sessions ∧ t.probes = s.probes ∧ t.bank = s.bank
      ∧ t.hold = s.hold ∧ t.names = s.names ∧ t.reply.ipId = s.reply.ipId
      ∧ t.reply.queue = s.reply.queue
      ∧ (∀ k : Counter, k ≠ .matchNone → t.counter k = s.counter k)
      ∧ (∃ rs, t.wake = { s.wake with requests := s.wake.requests ++ rs }
        ∧ ∀ r ∈ rs, r.rehearsal = true)
      ∧ (∀ i, (t.slot i) = (s.slot i)
        ∨ ((s.slot i).state = .free ∧ (t.slot i).state = .queued ∧ (t.slot i).dest = .notice))
      ∧ (t.modeCtl = s.modeCtl ∨ s.modeCtl.mode = .drain)

/-! ### The hold queue and the system port -/

/-- HOLD_APPEND outside PASS of a frame that needs n blocks (n the bytes over 256, rounded up). With n blocks
and a record free it is stored whole at the tail in the lowest free blocks; a HELD frame, or any frame with no
HELD record to evict, is clipped to the blocks that are free, or lost and counted on the newest record when
there is none. A frame of another origin evicts the oldest HELD record that is not in delivery first, whose
loss is carried to the record before it or to the lead loss. -/
def Obligations.FramesAreAppended : Prop :=
  ∀ (s : State) (a : HoldHandover) (rest : List HoldHandover) (n m : Nat) (taken : State),
    s.hold.appends = a :: rest → s.modeCtl.mode ≠ .pass → s.hold.records.length ≤ 64 →
    n = (a.frame.bytes.length + 255) / 256 → m = s.hold.freeBlocks.length →
    taken = { s with hold := { s.hold with appends := rest } } →
    (n ≤ m → 1 ≤ m → s.hold.records.length < 64 →
      exec .holdAppend s = .next
        { taken with
          hold :=
            { taken.hold with
              pool := fillBlocks (s.hold.freeBlocks.take n) a.frame.bytes s.hold.pool
              serial := s.hold.serial + 1
              records :=
                s.hold.records
                  ++ [⟨s.hold.serial, a.origin, a.frame.arrival, a.frame.bytes.length,
                    a.frame.bytes.length, 0, s.hold.freeBlocks.take n⟩] } })
      ∧ (a.origin = .held ∨ s.hold.oldestHeld = none →
        (m < n → 1 ≤ m → s.hold.records.length < 64 →
          exec .holdAppend s = .next
            (bump .holdClipped
              { taken with
                hold :=
                  { taken.hold with
                    pool := fillBlocks s.hold.freeBlocks a.frame.bytes s.hold.pool
                    serial := s.hold.serial + 1
                    records :=
                      s.hold.records
                        ++ [⟨s.hold.serial, a.origin, a.frame.arrival, a.frame.bytes.length, m * 256,
                          0, s.hold.freeBlocks⟩] } }))
          ∧ (∀ old r, s.hold.records = old ++ [r] → m = 0 ∨ s.hold.records.length = 64 →
            exec .holdAppend s = .next
              (bump .holdLost
                { taken with
                  hold :=
                    { taken.hold with
                      records := old ++ [{ r with lossAfter := satBump r.lossAfter }] } })))
      ∧ (∀ k r, a.origin ≠ .held → m < n ∨ s.hold.records.length = 64 →
        s.hold.records[k]? = some r → r.origin = .held → (k = 0 → s.hold.stage = .idle) →
        (∀ j < k, ∀ r', s.hold.records[j]? = some r' → r'.origin = .held →
          j = 0 ∧ s.hold.stage ≠ .idle) →
        (r.lossAfter = 0 →
          exec .holdAppend s =
            exec .holdAppend
              (bump .holdEvicted
                { s with hold := { s.hold with records := s.hold.records.eraseIdx k } }))
          ∧ (r.lossAfter ≠ 0 → k = 0 ∨ (k = 1 ∧ s.hold.stage = .loss) →
            exec .holdAppend s =
              exec .holdAppend
                (bump .holdEvicted
                  { s with
                    hold :=
                      { s.hold with
                        records := s.hold.records.eraseIdx k
                        leadCount := satPlus s.hold.leadCount r.lossAfter
                        leadSerial := some (s.hold.leadSerial.getD r.serial) } }))
          ∧ (r.lossAfter ≠ 0 → 1 ≤ k → ¬(k = 1 ∧ s.hold.stage = .loss) →
            exec .holdAppend s =
              exec .holdAppend
                (bump .holdEvicted
                  { s with
                    hold :=
                      { s.hold with
                        records :=
                          (s.hold.records.modify (k - 1) fun q =>
                            { q with lossAfter := satPlus q.lossAfter r.lossAfter }).eraseIdx
                            k } })))

/-- Whatever HOLD_APPEND does with a frame, every record that stays keeps the bytes it holds, and a record
that is added holds the frame's first bytes, as many as its stored length says. -/
def Obligations.StoredBytesReadBack : Prop :=
  ∀ (s t : State) (a : HoldHandover) (rest : List HoldHandover), HoldSound s →
    s.hold.pool.length = 64 → s.hold.appends = a :: rest → exec .holdAppend s = .next t →
    ∀ r ∈ t.hold.records,
      (∃ q ∈ s.hold.records, r = { q with lossAfter := r.lossAfter }
        ∧ t.hold.storedBytes r = s.hold.storedBytes q)
        ∨ (r.serial = s.hold.serial ∧ r.origin = a.origin ∧ r.arrival = a.frame.arrival
          ∧ r.original = a.frame.bytes.length ∧ r.stored ≤ r.original
          ∧ t.hold.storedBytes r = a.frame.bytes.take r.stored)

/-- SYS_FRAME_RECEIVED: a frame with a good FCS and no error, of 64 to 1,518 bytes (1,522 tagged), that finds
one of the two places of the receive FIFO free takes it without its FCS; a data frame in transmission still
holds its place. Any other is dropped and counted in SYS_RX_DROPPED. A frame met by a soft reset is dropped
uncounted (log 3). -/
def Obligations.SystemFramesAreReceived : Prop :=
  ∀ (s : State) (rx : SystemReception) (taken : Nat),
    taken =
        s.sys.rx.length
          + (match s.arb.tx with
            | some (.system _) => 1
            | _ => 0) →
    (rx.resetDuring = true → exec (.sysFrameReceived rx) s = .next s)
      ∧ (rx.resetDuring = false →
        (rx.fcsGood = true → rx.macError = false → 64 ≤ rx.bytes.length →
          rx.bytes.length ≤ (if isTagged rx.bytes then 1522 else 1518) → taken < 2 →
          exec (.sysFrameReceived rx) s = .next
            { s with
              sys :=
                { s.sys with rx := s.sys.rx ++ [rx.bytes.take (rx.bytes.length - 4)] } })
          ∧ (rx.fcsGood = false ∨ rx.macError = true ∨ rx.bytes.length < 64
                ∨ (if isTagged rx.bytes then 1522 else 1518) < rx.bytes.length ∨ 2 ≤ taken →
            exec (.sysFrameReceived rx) s = .next (bump .sysRxDropped s)))

/-- SYS_EGRESS_GRANT with system-ready high and the link to the laptop idle. The data stream offers the oldest
forward frame in any mode, and in DRAIN otherwise the hold queue's item: the lead loss, the head's notice, its
frame or CLIPPED_FRAME notice, its loss. The control stream offers the response, otherwise the oldest
rehearsal notice. One stream that waits alone goes, whichever was served last; with both waiting the one not
served last goes. With neither waiting, with system-ready low or the link in use there is no grant. (A notice's
destination is read from the configuration at its grant: deduced, log 12.) -/
def Obligations.EgressIsGranted : Prop :=
  ∀ (s : State) (control noData : Prop),
    (control ↔ s.ctl.response ≠ none ∨ s.reply.notices ≠ []) →
    (noData ↔
      s.sys.fwd = []
        ∧ (s.modeCtl.mode ≠ .drain
          ∨ (s.hold.records = [] ∧ s.hold.leadCount = 0 ∧ s.hold.stage ≠ .lead))) →
    (s.sys.ready = false ∨ s.sys.tx ≠ none → exec .sysEgressGrant s = .next s)
      ∧ (s.sys.ready = true → s.sys.tx = none →
        (noData → ¬control → exec .sysEgressGrant s = .next s)
          ∧ (∀ f rest, s.sys.fwd = f :: rest → s.sys.last = .control ∨ ¬control →
          exec .sysEgressGrant s = .next
            { s with sys := { s.sys with tx := some ⟨.forward, f⟩, last := .data } })
          ∧ (∀ f, s.ctl.response = some f →
            s.sys.last = .data ∨ noData →
            exec .sysEgressGrant s = .next
              { s with sys := { s.sys with tx := some ⟨.response, f⟩, last := .control } })
          ∧ (∀ i rest, s.ctl.response = none → s.reply.notices = i :: rest →
            s.sys.last = .data ∨ noData →
            exec .sysEgressGrant s = .next
              { s with
                sys :=
                  { s.sys with
                    tx := some ⟨.rehearsal i, rehearsalNotice s.ctl.cfg (s.slot i)⟩
                    last := .control } })
          ∧ (∀ (r : HoldRecord) (rs : List HoldRecord), s.modeCtl.mode = .drain → s.sys.fwd = [] →
            s.sys.last = .control ∨ ¬control → s.hold.records = r :: rs →
            (s.hold.stage = .lead ∨ (s.hold.stage = .idle ∧ s.hold.leadCount ≠ 0) →
              exec .sysEgressGrant s = .next
                { s with
                  sys :=
                    { s.sys with
                      tx :=
                        some
                          ⟨.holdLead,
                            lostFramesNotice s.ctl.cfg (s.hold.leadSerial.getD 0)
                              s.hold.leadCount⟩
                      last := .data }
                  hold := { s.hold with stage := .lead } })
              ∧ (s.hold.stage = .notice ∨ (s.hold.stage = .idle ∧ s.hold.leadCount = 0) →
                exec .sysEgressGrant s = .next
                  { s with
                    sys :=
                      { s.sys with
                        tx := some ⟨.holdNotice, heldRecordNotice s.ctl.cfg r⟩
                        last := .data }
                    hold := { s.hold with stage := .notice } })
              ∧ (s.hold.stage = .frame →
                exec .sysEgressGrant s = .next
                  { s with
                    sys :=
                      { s.sys with
                        tx :=
                          some
                            ⟨.holdFrame,
                              if r.stored < r.original then
                                clippedFrameNotice s.ctl.cfg r (s.hold.storedBytes r)
                              else s.hold.storedBytes r⟩
                        last := .data } })
              ∧ (s.hold.stage = .loss →
                exec .sysEgressGrant s = .next
                  { s with
                    sys :=
                      { s.sys with
                        tx := some ⟨.holdLoss, lostFramesNotice s.ctl.cfg r.serial r.lossAfter⟩
                        last := .data } })))

/-- SYS_DELIVERY_DONE: the owner of the item in sending is told. A forward frame frees its place, a response
the buffer, a rehearsal notice its slot, which is handed on; the lead loss is cleared; the head's notice is
followed by its frame, the frame by its loss if it has one; the head is removed with its last item, and DRAIN
ends when that leaves no record and nothing waits. -/
def Obligations.DeliveriesComplete : Prop :=
  ∀ (s idle : State) (b : Frame), idle = { s with sys := { s.sys with tx := none } } →
    (s.sys.tx = some ⟨.forward, b⟩ →
      exec .sysDeliveryDone s = .next
        { s with sys := { s.sys with tx := none, fwd := s.sys.fwd.tail } })
      ∧ (s.sys.tx = some ⟨.response, b⟩ →
        exec .sysDeliveryDone s = .next { idle with ctl := { s.ctl with response := none } })
      ∧ (∀ i, s.sys.tx = some ⟨.rehearsal i, b⟩ →
        exec .sysDeliveryDone s = .next
          (State.handedOn
            { idle with
              reply := { s.reply with notices := s.reply.notices.filter fun j => j != i } }
            i))
      ∧ (∀ (r : HoldRecord) (rs : List HoldRecord), s.hold.records = r :: rs →
        (s.sys.tx = some ⟨.holdLead, b⟩ →
          exec .sysDeliveryDone s = .next
            { idle with
              hold := { s.hold with leadCount := 0, leadSerial := none, stage := .notice } })
          ∧ (s.sys.tx = some ⟨.holdNotice, b⟩ →
            exec .sysDeliveryDone s = .next { idle with hold := { s.hold with stage := .frame } })
          ∧ (s.sys.tx = some ⟨.holdFrame, b⟩ → r.lossAfter ≠ 0 →
            exec .sysDeliveryDone s = .next { idle with hold := { s.hold with stage := .loss } })
          ∧ ((s.sys.tx = some ⟨.holdFrame, b⟩ ∧ r.lossAfter = 0)
              ∨ s.sys.tx = some ⟨.holdLoss, b⟩ →
            exec .sysDeliveryDone s = .next
              { idle with
                hold := { s.hold with records := rs, stage := .idle }
                modeCtl :=
                  { s.modeCtl with
                    mode :=
                      if s.modeCtl.mode = .drain ∧ rs = [] ∧ guardPending s = false
                          ∧ drainedWaiting s = false then .pass
                      else s.modeCtl.mode } }))

/-! ### Checksums -/

/-- A checksum that `withChecksum` computes in full makes the ones'-complement sum over pseudo-header and run
good, the UDP one is never 0x0000, and the one-word update of an echo request with a good sum is good: over the
message alone in IPv4, over the pseudo-header with the addresses in swapped places in IPv6. -/
def Obligations.ChecksumsAreGood : Prop :=
  (∀ pseudo before after : Frame, pseudo.length % 2 = 0 → before.length % 2 = 0 →
    sumGood (pseudo ++ withChecksum pseudo before after fun n => n) = true
      ∧ sumGood (pseudo ++ withChecksum pseudo before after udpZeroRule) = true
      ∧ beNat (withChecksum pseudo before after udpZeroRule) before.length 2 ≠ 0)
    ∧ (∀ (a : BitVec 32) (m : Frame), 8 ≤ m.length → beNat m 0 2 = 0x0800 → sumGood m = true →
      sumGood (echoMessage (.v4 a) m) = true ∧ beNat (echoMessage (.v4 a) m) 0 2 = 0
        ∧ (echoMessage (.v4 a) m).drop 4 = m.drop 4)
    ∧ ∀ (a b : BitVec 128) (m : Frame), 8 ≤ m.length → beNat m 0 2 = 0x8000 →
        sumGood (pseudoHeader (.v6 a) (.v6 b) m.length 58 ++ m) = true →
        sumGood
            (pseudoHeader (.v6 b) (.v6 a) m.length 58 ++ echoMessage (.v6 b) m) = true
          ∧ beNat (echoMessage (.v6 b) m) 0 2 = 0x8100
          ∧ (echoMessage (.v6 b) m).drop 4 = m.drop 4

/-! ### What every step keeps -/

/-- Every command and every step keep the wake line at rest outside WAKING, and every timer stopped and no
session, alarm or waiting probe running outside guard. -/
def Obligations.OutsideGuardIsQuiet : Prop :=
  ∀ (c : Instr) (s t : State), exec c s = .next t ∨ step s = .next t →
    WakeLineRests s → QuietOutsideGuard s → WakeLineRests t ∧ QuietOutsideGuard t

/-- Every command and every step keep the sizes of the tables, the LISTED set as R33 derives it, the
configuration in range with P at most 511 and the pressure state as R155 takes it, and the bounds of the
FIFOs. -/
def Obligations.TablesStaySound : Prop :=
  ∀ (c : Instr) (s t : State), exec c s = .next t ∨ step s = .next t →
    Sizes s → ListedDerived s → PressureSound s → FifoBounds s →
    Sizes t ∧ ListedDerived t ∧ PressureSound t ∧ FifoBounds t

/-- Every command and every step keep the hold queue sound: at most 64 records, no block held twice, no
record in PASS, and so the free blocks and the held ones always number 64. -/
def Obligations.HoldQueueStaysSound : Prop :=
  ∀ (c : Instr) (s t : State), exec c s = .next t ∨ step s = .next t →
    HoldSound s → PassHoldsNothing s →
    HoldSound t ∧ PassHoldsNothing t ∧ t.hold.freeBlocks.length + t.hold.held.length = 64

/-- Every command and every step keep the reply slots in order: each order lists its QUEUED slots once, a
SENDING slot is the one in transmission, and no slot is FREE while a session waits to probe. -/
def Obligations.SlotsStayInOrder : Prop :=
  ∀ (c : Instr) (s t : State), exec c s = .next t ∨ step s = .next t →
    Sizes s → SlotOrders s → ProbesWait s → SlotOrders t ∧ ProbesWait t

/-- The reset state has every property that the steps keep. -/
def Obligations.ResetIsSound : Prop :=
  WakeLineRests State.reset ∧ QuietOutsideGuard State.reset ∧ Sizes State.reset
    ∧ ListedDerived State.reset ∧ PressureSound State.reset ∧ FifoBounds State.reset
    ∧ HoldSound State.reset ∧ PassHoldsNothing State.reset ∧ SlotOrders State.reset
    ∧ ProbesWait State.reset

/-! ### Rules over all commands -/

/-- The device mode changes on the events of R1 and on no others: into GUARD from PASS at ENTER_GUARD; into
WAKING from GUARD where the wake controller asserts a wake (a request it takes, or the end of a quiet
interval, which the next tick may settle, log 6); out of GUARD and WAKING to DRAIN or PASS at LEAVE_GUARD;
from DRAIN to PASS with no record held, nothing pending and no line frame waiting; to PASS at a reset. -/
def Obligations.ModeChangesOnlyAsNamed : Prop :=
  ∀ (c : Instr) (s t : State), exec c s = .next t → t.modeCtl.mode ≠ s.modeCtl.mode →
    (s.modeCtl.mode = .pass ∧ t.modeCtl.mode = .guard ∧ c = .enterGuard)
      ∨ (s.modeCtl.mode = .guard ∧ t.modeCtl.mode = .waking
        ∧ (c = .quietIntervalEnd ∨ c = .tick ∨ ∃ place, c = .wakeRequest place))
      ∨ ((s.modeCtl.mode = .guard ∨ s.modeCtl.mode = .waking) ∧ c = .leaveGuard
        ∧ (t.modeCtl.mode = .drain ∨ t.modeCtl.mode = .pass))
      ∨ (s.modeCtl.mode = .drain ∧ t.modeCtl.mode = .pass ∧ t.hold.records = []
        ∧ guardPending t = false ∧ drainedWaiting t = false)
      ∨ (t.modeCtl.mode = .pass ∧ (c = .softReset ∨ c = .powerOnReset))

/-- In GUARD and WAKING no command but a power-on reset changes the configuration record or a loaded field of
any table; and in every mode no command but ENTER_GUARD makes a session that is not running ALIVE or
PROBING. -/
def Obligations.TablesAreFixedInGuard : Prop :=
  ∀ (c : Instr) (s t : State), exec c s = .next t →
    (s.modeCtl.mode = .guard ∨ s.modeCtl.mode = .waking → c ≠ .powerOnReset →
      t.ctl.cfg = s.ctl.cfg
        ∧ t.matchTable.map (fun e => { e with hits := 0 })
            = s.matchTable.map (fun e => { e with hits := 0 })
        ∧ t.identities.map (fun i => { i with state := .ready, conflicts := 0 })
            = s.identities.map (fun i => { i with state := .ready, conflicts := 0 })
        ∧ t.names.map (fun e => { e with answers := 0 }) = s.names.map (fun e => { e with answers := 0 })
        ∧ t.sessions.map Session.resetRuntime = s.sessions.map Session.resetRuntime
        ∧ t.bank.alarms.map (fun a => { a with state := .idle })
            = s.bank.alarms.map (fun a => { a with state := .idle }))
      ∧ (c ≠ .enterGuard → ∀ i, (t.session i).running = true → (s.session i).running = true)
end

