-- ==== Sys2Proof/Laws/State.lean ====
section
/-! SUPPORT. What each update of State leaves in each field: one lemma for each field and update, so that no
proof unfolds a record update. -/

namespace Sys2Proof.Machine

@[simp] theorem State.setPending_pending (s : State) (x : List Instr) : (s.setPending x).pending = x := rfl
@[simp] theorem State.setPending_modeCtl (s : State) (x : List Instr) : (s.setPending x).modeCtl = s.modeCtl := rfl
@[simp] theorem State.setPending_linePort (s : State) (x : List Instr) : (s.setPending x).linePort = s.linePort := rfl
@[simp] theorem State.setPending_guardPath (s : State) (x : List Instr) : (s.setPending x).guardPath = s.guardPath := rfl
@[simp] theorem State.setPending_matchTable (s : State) (x : List Instr) : (s.setPending x).matchTable = s.matchTable := rfl
@[simp] theorem State.setPending_identities (s : State) (x : List Instr) : (s.setPending x).identities = s.identities := rfl
@[simp] theorem State.setPending_names (s : State) (x : List Instr) : (s.setPending x).names = s.names := rfl
@[simp] theorem State.setPending_sessions (s : State) (x : List Instr) : (s.setPending x).sessions = s.sessions := rfl
@[simp] theorem State.setPending_probes (s : State) (x : List Instr) : (s.setPending x).probes = s.probes := rfl
@[simp] theorem State.setPending_reply (s : State) (x : List Instr) : (s.setPending x).reply = s.reply := rfl
@[simp] theorem State.setPending_arb (s : State) (x : List Instr) : (s.setPending x).arb = s.arb := rfl
@[simp] theorem State.setPending_bank (s : State) (x : List Instr) : (s.setPending x).bank = s.bank := rfl
@[simp] theorem State.setPending_wake (s : State) (x : List Instr) : (s.setPending x).wake = s.wake := rfl
@[simp] theorem State.setPending_hold (s : State) (x : List Instr) : (s.setPending x).hold = s.hold := rfl
@[simp] theorem State.setPending_sys (s : State) (x : List Instr) : (s.setPending x).sys = s.sys := rfl
@[simp] theorem State.setPending_ctl (s : State) (x : List Instr) : (s.setPending x).ctl = s.ctl := rfl
@[simp] theorem State.setPending_setPending (s : State) (x y : List Instr) : (s.setPending x).setPending y = s.setPending y := rfl
@[simp] theorem State.setPending_self (s : State) : s.setPending s.pending = s := rfl

@[simp] theorem State.setModeCtl_pending (s : State) (x : ModeCtl) : (s.setModeCtl x).pending = s.pending := rfl
@[simp] theorem State.setModeCtl_modeCtl (s : State) (x : ModeCtl) : (s.setModeCtl x).modeCtl = x := rfl
@[simp] theorem State.setModeCtl_linePort (s : State) (x : ModeCtl) : (s.setModeCtl x).linePort = s.linePort := rfl
@[simp] theorem State.setModeCtl_guardPath (s : State) (x : ModeCtl) : (s.setModeCtl x).guardPath = s.guardPath := rfl
@[simp] theorem State.setModeCtl_matchTable (s : State) (x : ModeCtl) : (s.setModeCtl x).matchTable = s.matchTable := rfl
@[simp] theorem State.setModeCtl_identities (s : State) (x : ModeCtl) : (s.setModeCtl x).identities = s.identities := rfl
@[simp] theorem State.setModeCtl_names (s : State) (x : ModeCtl) : (s.setModeCtl x).names = s.names := rfl
@[simp] theorem State.setModeCtl_sessions (s : State) (x : ModeCtl) : (s.setModeCtl x).sessions = s.sessions := rfl
@[simp] theorem State.setModeCtl_probes (s : State) (x : ModeCtl) : (s.setModeCtl x).probes = s.probes := rfl
@[simp] theorem State.setModeCtl_reply (s : State) (x : ModeCtl) : (s.setModeCtl x).reply = s.reply := rfl
@[simp] theorem State.setModeCtl_arb (s : State) (x : ModeCtl) : (s.setModeCtl x).arb = s.arb := rfl
@[simp] theorem State.setModeCtl_bank (s : State) (x : ModeCtl) : (s.setModeCtl x).bank = s.bank := rfl
@[simp] theorem State.setModeCtl_wake (s : State) (x : ModeCtl) : (s.setModeCtl x).wake = s.wake := rfl
@[simp] theorem State.setModeCtl_hold (s : State) (x : ModeCtl) : (s.setModeCtl x).hold = s.hold := rfl
@[simp] theorem State.setModeCtl_sys (s : State) (x : ModeCtl) : (s.setModeCtl x).sys = s.sys := rfl
@[simp] theorem State.setModeCtl_ctl (s : State) (x : ModeCtl) : (s.setModeCtl x).ctl = s.ctl := rfl
@[simp] theorem State.setModeCtl_setModeCtl (s : State) (x y : ModeCtl) : (s.setModeCtl x).setModeCtl y = s.setModeCtl y := rfl
@[simp] theorem State.setModeCtl_self (s : State) : s.setModeCtl s.modeCtl = s := rfl

@[simp] theorem State.setLinePort_pending (s : State) (x : LinePort) : (s.setLinePort x).pending = s.pending := rfl
@[simp] theorem State.setLinePort_modeCtl (s : State) (x : LinePort) : (s.setLinePort x).modeCtl = s.modeCtl := rfl
@[simp] theorem State.setLinePort_linePort (s : State) (x : LinePort) : (s.setLinePort x).linePort = x := rfl
@[simp] theorem State.setLinePort_guardPath (s : State) (x : LinePort) : (s.setLinePort x).guardPath = s.guardPath := rfl
@[simp] theorem State.setLinePort_matchTable (s : State) (x : LinePort) : (s.setLinePort x).matchTable = s.matchTable := rfl
@[simp] theorem State.setLinePort_identities (s : State) (x : LinePort) : (s.setLinePort x).identities = s.identities := rfl
@[simp] theorem State.setLinePort_names (s : State) (x : LinePort) : (s.setLinePort x).names = s.names := rfl
@[simp] theorem State.setLinePort_sessions (s : State) (x : LinePort) : (s.setLinePort x).sessions = s.sessions := rfl
@[simp] theorem State.setLinePort_probes (s : State) (x : LinePort) : (s.setLinePort x).probes = s.probes := rfl
@[simp] theorem State.setLinePort_reply (s : State) (x : LinePort) : (s.setLinePort x).reply = s.reply := rfl
@[simp] theorem State.setLinePort_arb (s : State) (x : LinePort) : (s.setLinePort x).arb = s.arb := rfl
@[simp] theorem State.setLinePort_bank (s : State) (x : LinePort) : (s.setLinePort x).bank = s.bank := rfl
@[simp] theorem State.setLinePort_wake (s : State) (x : LinePort) : (s.setLinePort x).wake = s.wake := rfl
@[simp] theorem State.setLinePort_hold (s : State) (x : LinePort) : (s.setLinePort x).hold = s.hold := rfl
@[simp] theorem State.setLinePort_sys (s : State) (x : LinePort) : (s.setLinePort x).sys = s.sys := rfl
@[simp] theorem State.setLinePort_ctl (s : State) (x : LinePort) : (s.setLinePort x).ctl = s.ctl := rfl
@[simp] theorem State.setLinePort_setLinePort (s : State) (x y : LinePort) : (s.setLinePort x).setLinePort y = s.setLinePort y := rfl
@[simp] theorem State.setLinePort_self (s : State) : s.setLinePort s.linePort = s := rfl

@[simp] theorem State.setGuardPath_pending (s : State) (x : GuardPath) : (s.setGuardPath x).pending = s.pending := rfl
@[simp] theorem State.setGuardPath_modeCtl (s : State) (x : GuardPath) : (s.setGuardPath x).modeCtl = s.modeCtl := rfl
@[simp] theorem State.setGuardPath_linePort (s : State) (x : GuardPath) : (s.setGuardPath x).linePort = s.linePort := rfl
@[simp] theorem State.setGuardPath_guardPath (s : State) (x : GuardPath) : (s.setGuardPath x).guardPath = x := rfl
@[simp] theorem State.setGuardPath_matchTable (s : State) (x : GuardPath) : (s.setGuardPath x).matchTable = s.matchTable := rfl
@[simp] theorem State.setGuardPath_identities (s : State) (x : GuardPath) : (s.setGuardPath x).identities = s.identities := rfl
@[simp] theorem State.setGuardPath_names (s : State) (x : GuardPath) : (s.setGuardPath x).names = s.names := rfl
@[simp] theorem State.setGuardPath_sessions (s : State) (x : GuardPath) : (s.setGuardPath x).sessions = s.sessions := rfl
@[simp] theorem State.setGuardPath_probes (s : State) (x : GuardPath) : (s.setGuardPath x).probes = s.probes := rfl
@[simp] theorem State.setGuardPath_reply (s : State) (x : GuardPath) : (s.setGuardPath x).reply = s.reply := rfl
@[simp] theorem State.setGuardPath_arb (s : State) (x : GuardPath) : (s.setGuardPath x).arb = s.arb := rfl
@[simp] theorem State.setGuardPath_bank (s : State) (x : GuardPath) : (s.setGuardPath x).bank = s.bank := rfl
@[simp] theorem State.setGuardPath_wake (s : State) (x : GuardPath) : (s.setGuardPath x).wake = s.wake := rfl
@[simp] theorem State.setGuardPath_hold (s : State) (x : GuardPath) : (s.setGuardPath x).hold = s.hold := rfl
@[simp] theorem State.setGuardPath_sys (s : State) (x : GuardPath) : (s.setGuardPath x).sys = s.sys := rfl
@[simp] theorem State.setGuardPath_ctl (s : State) (x : GuardPath) : (s.setGuardPath x).ctl = s.ctl := rfl
@[simp] theorem State.setGuardPath_setGuardPath (s : State) (x y : GuardPath) : (s.setGuardPath x).setGuardPath y = s.setGuardPath y := rfl
@[simp] theorem State.setGuardPath_self (s : State) : s.setGuardPath s.guardPath = s := rfl

@[simp] theorem State.setMatchTable_pending (s : State) (x : List MatchEntry) : (s.setMatchTable x).pending = s.pending := rfl
@[simp] theorem State.setMatchTable_modeCtl (s : State) (x : List MatchEntry) : (s.setMatchTable x).modeCtl = s.modeCtl := rfl
@[simp] theorem State.setMatchTable_linePort (s : State) (x : List MatchEntry) : (s.setMatchTable x).linePort = s.linePort := rfl
@[simp] theorem State.setMatchTable_guardPath (s : State) (x : List MatchEntry) : (s.setMatchTable x).guardPath = s.guardPath := rfl
@[simp] theorem State.setMatchTable_matchTable (s : State) (x : List MatchEntry) : (s.setMatchTable x).matchTable = x := rfl
@[simp] theorem State.setMatchTable_identities (s : State) (x : List MatchEntry) : (s.setMatchTable x).identities = s.identities := rfl
@[simp] theorem State.setMatchTable_names (s : State) (x : List MatchEntry) : (s.setMatchTable x).names = s.names := rfl
@[simp] theorem State.setMatchTable_sessions (s : State) (x : List MatchEntry) : (s.setMatchTable x).sessions = s.sessions := rfl
@[simp] theorem State.setMatchTable_probes (s : State) (x : List MatchEntry) : (s.setMatchTable x).probes = s.probes := rfl
@[simp] theorem State.setMatchTable_reply (s : State) (x : List MatchEntry) : (s.setMatchTable x).reply = s.reply := rfl
@[simp] theorem State.setMatchTable_arb (s : State) (x : List MatchEntry) : (s.setMatchTable x).arb = s.arb := rfl
@[simp] theorem State.setMatchTable_bank (s : State) (x : List MatchEntry) : (s.setMatchTable x).bank = s.bank := rfl
@[simp] theorem State.setMatchTable_wake (s : State) (x : List MatchEntry) : (s.setMatchTable x).wake = s.wake := rfl
@[simp] theorem State.setMatchTable_hold (s : State) (x : List MatchEntry) : (s.setMatchTable x).hold = s.hold := rfl
@[simp] theorem State.setMatchTable_sys (s : State) (x : List MatchEntry) : (s.setMatchTable x).sys = s.sys := rfl
@[simp] theorem State.setMatchTable_ctl (s : State) (x : List MatchEntry) : (s.setMatchTable x).ctl = s.ctl := rfl
@[simp] theorem State.setMatchTable_setMatchTable (s : State) (x y : List MatchEntry) : (s.setMatchTable x).setMatchTable y = s.setMatchTable y := rfl
@[simp] theorem State.setMatchTable_self (s : State) : s.setMatchTable s.matchTable = s := rfl

@[simp] theorem State.setIdentities_pending (s : State) (x : List Identity) : (s.setIdentities x).pending = s.pending := rfl
@[simp] theorem State.setIdentities_modeCtl (s : State) (x : List Identity) : (s.setIdentities x).modeCtl = s.modeCtl := rfl
@[simp] theorem State.setIdentities_linePort (s : State) (x : List Identity) : (s.setIdentities x).linePort = s.linePort := rfl
@[simp] theorem State.setIdentities_guardPath (s : State) (x : List Identity) : (s.setIdentities x).guardPath = s.guardPath := rfl
@[simp] theorem State.setIdentities_matchTable (s : State) (x : List Identity) : (s.setIdentities x).matchTable = s.matchTable := rfl
@[simp] theorem State.setIdentities_identities (s : State) (x : List Identity) : (s.setIdentities x).identities = x := rfl
@[simp] theorem State.setIdentities_names (s : State) (x : List Identity) : (s.setIdentities x).names = s.names := rfl
@[simp] theorem State.setIdentities_sessions (s : State) (x : List Identity) : (s.setIdentities x).sessions = s.sessions := rfl
@[simp] theorem State.setIdentities_probes (s : State) (x : List Identity) : (s.setIdentities x).probes = s.probes := rfl
@[simp] theorem State.setIdentities_reply (s : State) (x : List Identity) : (s.setIdentities x).reply = s.reply := rfl
@[simp] theorem State.setIdentities_arb (s : State) (x : List Identity) : (s.setIdentities x).arb = s.arb := rfl
@[simp] theorem State.setIdentities_bank (s : State) (x : List Identity) : (s.setIdentities x).bank = s.bank := rfl
@[simp] theorem State.setIdentities_wake (s : State) (x : List Identity) : (s.setIdentities x).wake = s.wake := rfl
@[simp] theorem State.setIdentities_hold (s : State) (x : List Identity) : (s.setIdentities x).hold = s.hold := rfl
@[simp] theorem State.setIdentities_sys (s : State) (x : List Identity) : (s.setIdentities x).sys = s.sys := rfl
@[simp] theorem State.setIdentities_ctl (s : State) (x : List Identity) : (s.setIdentities x).ctl = s.ctl := rfl
@[simp] theorem State.setIdentities_setIdentities (s : State) (x y : List Identity) : (s.setIdentities x).setIdentities y = s.setIdentities y := rfl
@[simp] theorem State.setIdentities_self (s : State) : s.setIdentities s.identities = s := rfl

@[simp] theorem State.setNames_pending (s : State) (x : List NameEntry) : (s.setNames x).pending = s.pending := rfl
@[simp] theorem State.setNames_modeCtl (s : State) (x : List NameEntry) : (s.setNames x).modeCtl = s.modeCtl := rfl
@[simp] theorem State.setNames_linePort (s : State) (x : List NameEntry) : (s.setNames x).linePort = s.linePort := rfl
@[simp] theorem State.setNames_guardPath (s : State) (x : List NameEntry) : (s.setNames x).guardPath = s.guardPath := rfl
@[simp] theorem State.setNames_matchTable (s : State) (x : List NameEntry) : (s.setNames x).matchTable = s.matchTable := rfl
@[simp] theorem State.setNames_identities (s : State) (x : List NameEntry) : (s.setNames x).identities = s.identities := rfl
@[simp] theorem State.setNames_names (s : State) (x : List NameEntry) : (s.setNames x).names = x := rfl
@[simp] theorem State.setNames_sessions (s : State) (x : List NameEntry) : (s.setNames x).sessions = s.sessions := rfl
@[simp] theorem State.setNames_probes (s : State) (x : List NameEntry) : (s.setNames x).probes = s.probes := rfl
@[simp] theorem State.setNames_reply (s : State) (x : List NameEntry) : (s.setNames x).reply = s.reply := rfl
@[simp] theorem State.setNames_arb (s : State) (x : List NameEntry) : (s.setNames x).arb = s.arb := rfl
@[simp] theorem State.setNames_bank (s : State) (x : List NameEntry) : (s.setNames x).bank = s.bank := rfl
@[simp] theorem State.setNames_wake (s : State) (x : List NameEntry) : (s.setNames x).wake = s.wake := rfl
@[simp] theorem State.setNames_hold (s : State) (x : List NameEntry) : (s.setNames x).hold = s.hold := rfl
@[simp] theorem State.setNames_sys (s : State) (x : List NameEntry) : (s.setNames x).sys = s.sys := rfl
@[simp] theorem State.setNames_ctl (s : State) (x : List NameEntry) : (s.setNames x).ctl = s.ctl := rfl
@[simp] theorem State.setNames_setNames (s : State) (x y : List NameEntry) : (s.setNames x).setNames y = s.setNames y := rfl
@[simp] theorem State.setNames_self (s : State) : s.setNames s.names = s := rfl

@[simp] theorem State.setSessions_pending (s : State) (x : List Session) : (s.setSessions x).pending = s.pending := rfl
@[simp] theorem State.setSessions_modeCtl (s : State) (x : List Session) : (s.setSessions x).modeCtl = s.modeCtl := rfl
@[simp] theorem State.setSessions_linePort (s : State) (x : List Session) : (s.setSessions x).linePort = s.linePort := rfl
@[simp] theorem State.setSessions_guardPath (s : State) (x : List Session) : (s.setSessions x).guardPath = s.guardPath := rfl
@[simp] theorem State.setSessions_matchTable (s : State) (x : List Session) : (s.setSessions x).matchTable = s.matchTable := rfl
@[simp] theorem State.setSessions_identities (s : State) (x : List Session) : (s.setSessions x).identities = s.identities := rfl
@[simp] theorem State.setSessions_names (s : State) (x : List Session) : (s.setSessions x).names = s.names := rfl
@[simp] theorem State.setSessions_sessions (s : State) (x : List Session) : (s.setSessions x).sessions = x := rfl
@[simp] theorem State.setSessions_probes (s : State) (x : List Session) : (s.setSessions x).probes = s.probes := rfl
@[simp] theorem State.setSessions_reply (s : State) (x : List Session) : (s.setSessions x).reply = s.reply := rfl
@[simp] theorem State.setSessions_arb (s : State) (x : List Session) : (s.setSessions x).arb = s.arb := rfl
@[simp] theorem State.setSessions_bank (s : State) (x : List Session) : (s.setSessions x).bank = s.bank := rfl
@[simp] theorem State.setSessions_wake (s : State) (x : List Session) : (s.setSessions x).wake = s.wake := rfl
@[simp] theorem State.setSessions_hold (s : State) (x : List Session) : (s.setSessions x).hold = s.hold := rfl
@[simp] theorem State.setSessions_sys (s : State) (x : List Session) : (s.setSessions x).sys = s.sys := rfl
@[simp] theorem State.setSessions_ctl (s : State) (x : List Session) : (s.setSessions x).ctl = s.ctl := rfl
@[simp] theorem State.setSessions_setSessions (s : State) (x y : List Session) : (s.setSessions x).setSessions y = s.setSessions y := rfl
@[simp] theorem State.setSessions_self (s : State) : s.setSessions s.sessions = s := rfl

@[simp] theorem State.setProbes_pending (s : State) (x : List Nat) : (s.setProbes x).pending = s.pending := rfl
@[simp] theorem State.setProbes_modeCtl (s : State) (x : List Nat) : (s.setProbes x).modeCtl = s.modeCtl := rfl
@[simp] theorem State.setProbes_linePort (s : State) (x : List Nat) : (s.setProbes x).linePort = s.linePort := rfl
@[simp] theorem State.setProbes_guardPath (s : State) (x : List Nat) : (s.setProbes x).guardPath = s.guardPath := rfl
@[simp] theorem State.setProbes_matchTable (s : State) (x : List Nat) : (s.setProbes x).matchTable = s.matchTable := rfl
@[simp] theorem State.setProbes_identities (s : State) (x : List Nat) : (s.setProbes x).identities = s.identities := rfl
@[simp] theorem State.setProbes_names (s : State) (x : List Nat) : (s.setProbes x).names = s.names := rfl
@[simp] theorem State.setProbes_sessions (s : State) (x : List Nat) : (s.setProbes x).sessions = s.sessions := rfl
@[simp] theorem State.setProbes_probes (s : State) (x : List Nat) : (s.setProbes x).probes = x := rfl
@[simp] theorem State.setProbes_reply (s : State) (x : List Nat) : (s.setProbes x).reply = s.reply := rfl
@[simp] theorem State.setProbes_arb (s : State) (x : List Nat) : (s.setProbes x).arb = s.arb := rfl
@[simp] theorem State.setProbes_bank (s : State) (x : List Nat) : (s.setProbes x).bank = s.bank := rfl
@[simp] theorem State.setProbes_wake (s : State) (x : List Nat) : (s.setProbes x).wake = s.wake := rfl
@[simp] theorem State.setProbes_hold (s : State) (x : List Nat) : (s.setProbes x).hold = s.hold := rfl
@[simp] theorem State.setProbes_sys (s : State) (x : List Nat) : (s.setProbes x).sys = s.sys := rfl
@[simp] theorem State.setProbes_ctl (s : State) (x : List Nat) : (s.setProbes x).ctl = s.ctl := rfl
@[simp] theorem State.setProbes_setProbes (s : State) (x y : List Nat) : (s.setProbes x).setProbes y = s.setProbes y := rfl
@[simp] theorem State.setProbes_self (s : State) : s.setProbes s.probes = s := rfl

@[simp] theorem State.setReply_pending (s : State) (x : ReplyBuilder) : (s.setReply x).pending = s.pending := rfl
@[simp] theorem State.setReply_modeCtl (s : State) (x : ReplyBuilder) : (s.setReply x).modeCtl = s.modeCtl := rfl
@[simp] theorem State.setReply_linePort (s : State) (x : ReplyBuilder) : (s.setReply x).linePort = s.linePort := rfl
@[simp] theorem State.setReply_guardPath (s : State) (x : ReplyBuilder) : (s.setReply x).guardPath = s.guardPath := rfl
@[simp] theorem State.setReply_matchTable (s : State) (x : ReplyBuilder) : (s.setReply x).matchTable = s.matchTable := rfl
@[simp] theorem State.setReply_identities (s : State) (x : ReplyBuilder) : (s.setReply x).identities = s.identities := rfl
@[simp] theorem State.setReply_names (s : State) (x : ReplyBuilder) : (s.setReply x).names = s.names := rfl
@[simp] theorem State.setReply_sessions (s : State) (x : ReplyBuilder) : (s.setReply x).sessions = s.sessions := rfl
@[simp] theorem State.setReply_probes (s : State) (x : ReplyBuilder) : (s.setReply x).probes = s.probes := rfl
@[simp] theorem State.setReply_reply (s : State) (x : ReplyBuilder) : (s.setReply x).reply = x := rfl
@[simp] theorem State.setReply_arb (s : State) (x : ReplyBuilder) : (s.setReply x).arb = s.arb := rfl
@[simp] theorem State.setReply_bank (s : State) (x : ReplyBuilder) : (s.setReply x).bank = s.bank := rfl
@[simp] theorem State.setReply_wake (s : State) (x : ReplyBuilder) : (s.setReply x).wake = s.wake := rfl
@[simp] theorem State.setReply_hold (s : State) (x : ReplyBuilder) : (s.setReply x).hold = s.hold := rfl
@[simp] theorem State.setReply_sys (s : State) (x : ReplyBuilder) : (s.setReply x).sys = s.sys := rfl
@[simp] theorem State.setReply_ctl (s : State) (x : ReplyBuilder) : (s.setReply x).ctl = s.ctl := rfl
@[simp] theorem State.setReply_setReply (s : State) (x y : ReplyBuilder) : (s.setReply x).setReply y = s.setReply y := rfl
@[simp] theorem State.setReply_self (s : State) : s.setReply s.reply = s := rfl

@[simp] theorem State.setArb_pending (s : State) (x : LineArb) : (s.setArb x).pending = s.pending := rfl
@[simp] theorem State.setArb_modeCtl (s : State) (x : LineArb) : (s.setArb x).modeCtl = s.modeCtl := rfl
@[simp] theorem State.setArb_linePort (s : State) (x : LineArb) : (s.setArb x).linePort = s.linePort := rfl
@[simp] theorem State.setArb_guardPath (s : State) (x : LineArb) : (s.setArb x).guardPath = s.guardPath := rfl
@[simp] theorem State.setArb_matchTable (s : State) (x : LineArb) : (s.setArb x).matchTable = s.matchTable := rfl
@[simp] theorem State.setArb_identities (s : State) (x : LineArb) : (s.setArb x).identities = s.identities := rfl
@[simp] theorem State.setArb_names (s : State) (x : LineArb) : (s.setArb x).names = s.names := rfl
@[simp] theorem State.setArb_sessions (s : State) (x : LineArb) : (s.setArb x).sessions = s.sessions := rfl
@[simp] theorem State.setArb_probes (s : State) (x : LineArb) : (s.setArb x).probes = s.probes := rfl
@[simp] theorem State.setArb_reply (s : State) (x : LineArb) : (s.setArb x).reply = s.reply := rfl
@[simp] theorem State.setArb_arb (s : State) (x : LineArb) : (s.setArb x).arb = x := rfl
@[simp] theorem State.setArb_bank (s : State) (x : LineArb) : (s.setArb x).bank = s.bank := rfl
@[simp] theorem State.setArb_wake (s : State) (x : LineArb) : (s.setArb x).wake = s.wake := rfl
@[simp] theorem State.setArb_hold (s : State) (x : LineArb) : (s.setArb x).hold = s.hold := rfl
@[simp] theorem State.setArb_sys (s : State) (x : LineArb) : (s.setArb x).sys = s.sys := rfl
@[simp] theorem State.setArb_ctl (s : State) (x : LineArb) : (s.setArb x).ctl = s.ctl := rfl
@[simp] theorem State.setArb_setArb (s : State) (x y : LineArb) : (s.setArb x).setArb y = s.setArb y := rfl
@[simp] theorem State.setArb_self (s : State) : s.setArb s.arb = s := rfl

@[simp] theorem State.setBank_pending (s : State) (x : TimerBank) : (s.setBank x).pending = s.pending := rfl
@[simp] theorem State.setBank_modeCtl (s : State) (x : TimerBank) : (s.setBank x).modeCtl = s.modeCtl := rfl
@[simp] theorem State.setBank_linePort (s : State) (x : TimerBank) : (s.setBank x).linePort = s.linePort := rfl
@[simp] theorem State.setBank_guardPath (s : State) (x : TimerBank) : (s.setBank x).guardPath = s.guardPath := rfl
@[simp] theorem State.setBank_matchTable (s : State) (x : TimerBank) : (s.setBank x).matchTable = s.matchTable := rfl
@[simp] theorem State.setBank_identities (s : State) (x : TimerBank) : (s.setBank x).identities = s.identities := rfl
@[simp] theorem State.setBank_names (s : State) (x : TimerBank) : (s.setBank x).names = s.names := rfl
@[simp] theorem State.setBank_sessions (s : State) (x : TimerBank) : (s.setBank x).sessions = s.sessions := rfl
@[simp] theorem State.setBank_probes (s : State) (x : TimerBank) : (s.setBank x).probes = s.probes := rfl
@[simp] theorem State.setBank_reply (s : State) (x : TimerBank) : (s.setBank x).reply = s.reply := rfl
@[simp] theorem State.setBank_arb (s : State) (x : TimerBank) : (s.setBank x).arb = s.arb := rfl
@[simp] theorem State.setBank_bank (s : State) (x : TimerBank) : (s.setBank x).bank = x := rfl
@[simp] theorem State.setBank_wake (s : State) (x : TimerBank) : (s.setBank x).wake = s.wake := rfl
@[simp] theorem State.setBank_hold (s : State) (x : TimerBank) : (s.setBank x).hold = s.hold := rfl
@[simp] theorem State.setBank_sys (s : State) (x : TimerBank) : (s.setBank x).sys = s.sys := rfl
@[simp] theorem State.setBank_ctl (s : State) (x : TimerBank) : (s.setBank x).ctl = s.ctl := rfl
@[simp] theorem State.setBank_setBank (s : State) (x y : TimerBank) : (s.setBank x).setBank y = s.setBank y := rfl
@[simp] theorem State.setBank_self (s : State) : s.setBank s.bank = s := rfl

@[simp] theorem State.setWake_pending (s : State) (x : WakeCtl) : (s.setWake x).pending = s.pending := rfl
@[simp] theorem State.setWake_modeCtl (s : State) (x : WakeCtl) : (s.setWake x).modeCtl = s.modeCtl := rfl
@[simp] theorem State.setWake_linePort (s : State) (x : WakeCtl) : (s.setWake x).linePort = s.linePort := rfl
@[simp] theorem State.setWake_guardPath (s : State) (x : WakeCtl) : (s.setWake x).guardPath = s.guardPath := rfl
@[simp] theorem State.setWake_matchTable (s : State) (x : WakeCtl) : (s.setWake x).matchTable = s.matchTable := rfl
@[simp] theorem State.setWake_identities (s : State) (x : WakeCtl) : (s.setWake x).identities = s.identities := rfl
@[simp] theorem State.setWake_names (s : State) (x : WakeCtl) : (s.setWake x).names = s.names := rfl
@[simp] theorem State.setWake_sessions (s : State) (x : WakeCtl) : (s.setWake x).sessions = s.sessions := rfl
@[simp] theorem State.setWake_probes (s : State) (x : WakeCtl) : (s.setWake x).probes = s.probes := rfl
@[simp] theorem State.setWake_reply (s : State) (x : WakeCtl) : (s.setWake x).reply = s.reply := rfl
@[simp] theorem State.setWake_arb (s : State) (x : WakeCtl) : (s.setWake x).arb = s.arb := rfl
@[simp] theorem State.setWake_bank (s : State) (x : WakeCtl) : (s.setWake x).bank = s.bank := rfl
@[simp] theorem State.setWake_wake (s : State) (x : WakeCtl) : (s.setWake x).wake = x := rfl
@[simp] theorem State.setWake_hold (s : State) (x : WakeCtl) : (s.setWake x).hold = s.hold := rfl
@[simp] theorem State.setWake_sys (s : State) (x : WakeCtl) : (s.setWake x).sys = s.sys := rfl
@[simp] theorem State.setWake_ctl (s : State) (x : WakeCtl) : (s.setWake x).ctl = s.ctl := rfl
@[simp] theorem State.setWake_setWake (s : State) (x y : WakeCtl) : (s.setWake x).setWake y = s.setWake y := rfl
@[simp] theorem State.setWake_self (s : State) : s.setWake s.wake = s := rfl

@[simp] theorem State.setHold_pending (s : State) (x : HoldQueue) : (s.setHold x).pending = s.pending := rfl
@[simp] theorem State.setHold_modeCtl (s : State) (x : HoldQueue) : (s.setHold x).modeCtl = s.modeCtl := rfl
@[simp] theorem State.setHold_linePort (s : State) (x : HoldQueue) : (s.setHold x).linePort = s.linePort := rfl
@[simp] theorem State.setHold_guardPath (s : State) (x : HoldQueue) : (s.setHold x).guardPath = s.guardPath := rfl
@[simp] theorem State.setHold_matchTable (s : State) (x : HoldQueue) : (s.setHold x).matchTable = s.matchTable := rfl
@[simp] theorem State.setHold_identities (s : State) (x : HoldQueue) : (s.setHold x).identities = s.identities := rfl
@[simp] theorem State.setHold_names (s : State) (x : HoldQueue) : (s.setHold x).names = s.names := rfl
@[simp] theorem State.setHold_sessions (s : State) (x : HoldQueue) : (s.setHold x).sessions = s.sessions := rfl
@[simp] theorem State.setHold_probes (s : State) (x : HoldQueue) : (s.setHold x).probes = s.probes := rfl
@[simp] theorem State.setHold_reply (s : State) (x : HoldQueue) : (s.setHold x).reply = s.reply := rfl
@[simp] theorem State.setHold_arb (s : State) (x : HoldQueue) : (s.setHold x).arb = s.arb := rfl
@[simp] theorem State.setHold_bank (s : State) (x : HoldQueue) : (s.setHold x).bank = s.bank := rfl
@[simp] theorem State.setHold_wake (s : State) (x : HoldQueue) : (s.setHold x).wake = s.wake := rfl
@[simp] theorem State.setHold_hold (s : State) (x : HoldQueue) : (s.setHold x).hold = x := rfl
@[simp] theorem State.setHold_sys (s : State) (x : HoldQueue) : (s.setHold x).sys = s.sys := rfl
@[simp] theorem State.setHold_ctl (s : State) (x : HoldQueue) : (s.setHold x).ctl = s.ctl := rfl
@[simp] theorem State.setHold_setHold (s : State) (x y : HoldQueue) : (s.setHold x).setHold y = s.setHold y := rfl
@[simp] theorem State.setHold_self (s : State) : s.setHold s.hold = s := rfl

@[simp] theorem State.setSys_pending (s : State) (x : SysPort) : (s.setSys x).pending = s.pending := rfl
@[simp] theorem State.setSys_modeCtl (s : State) (x : SysPort) : (s.setSys x).modeCtl = s.modeCtl := rfl
@[simp] theorem State.setSys_linePort (s : State) (x : SysPort) : (s.setSys x).linePort = s.linePort := rfl
@[simp] theorem State.setSys_guardPath (s : State) (x : SysPort) : (s.setSys x).guardPath = s.guardPath := rfl
@[simp] theorem State.setSys_matchTable (s : State) (x : SysPort) : (s.setSys x).matchTable = s.matchTable := rfl
@[simp] theorem State.setSys_identities (s : State) (x : SysPort) : (s.setSys x).identities = s.identities := rfl
@[simp] theorem State.setSys_names (s : State) (x : SysPort) : (s.setSys x).names = s.names := rfl
@[simp] theorem State.setSys_sessions (s : State) (x : SysPort) : (s.setSys x).sessions = s.sessions := rfl
@[simp] theorem State.setSys_probes (s : State) (x : SysPort) : (s.setSys x).probes = s.probes := rfl
@[simp] theorem State.setSys_reply (s : State) (x : SysPort) : (s.setSys x).reply = s.reply := rfl
@[simp] theorem State.setSys_arb (s : State) (x : SysPort) : (s.setSys x).arb = s.arb := rfl
@[simp] theorem State.setSys_bank (s : State) (x : SysPort) : (s.setSys x).bank = s.bank := rfl
@[simp] theorem State.setSys_wake (s : State) (x : SysPort) : (s.setSys x).wake = s.wake := rfl
@[simp] theorem State.setSys_hold (s : State) (x : SysPort) : (s.setSys x).hold = s.hold := rfl
@[simp] theorem State.setSys_sys (s : State) (x : SysPort) : (s.setSys x).sys = x := rfl
@[simp] theorem State.setSys_ctl (s : State) (x : SysPort) : (s.setSys x).ctl = s.ctl := rfl
@[simp] theorem State.setSys_setSys (s : State) (x y : SysPort) : (s.setSys x).setSys y = s.setSys y := rfl
@[simp] theorem State.setSys_self (s : State) : s.setSys s.sys = s := rfl

@[simp] theorem State.setCtl_pending (s : State) (x : ControlUnit) : (s.setCtl x).pending = s.pending := rfl
@[simp] theorem State.setCtl_modeCtl (s : State) (x : ControlUnit) : (s.setCtl x).modeCtl = s.modeCtl := rfl
@[simp] theorem State.setCtl_linePort (s : State) (x : ControlUnit) : (s.setCtl x).linePort = s.linePort := rfl
@[simp] theorem State.setCtl_guardPath (s : State) (x : ControlUnit) : (s.setCtl x).guardPath = s.guardPath := rfl
@[simp] theorem State.setCtl_matchTable (s : State) (x : ControlUnit) : (s.setCtl x).matchTable = s.matchTable := rfl
@[simp] theorem State.setCtl_identities (s : State) (x : ControlUnit) : (s.setCtl x).identities = s.identities := rfl
@[simp] theorem State.setCtl_names (s : State) (x : ControlUnit) : (s.setCtl x).names = s.names := rfl
@[simp] theorem State.setCtl_sessions (s : State) (x : ControlUnit) : (s.setCtl x).sessions = s.sessions := rfl
@[simp] theorem State.setCtl_probes (s : State) (x : ControlUnit) : (s.setCtl x).probes = s.probes := rfl
@[simp] theorem State.setCtl_reply (s : State) (x : ControlUnit) : (s.setCtl x).reply = s.reply := rfl
@[simp] theorem State.setCtl_arb (s : State) (x : ControlUnit) : (s.setCtl x).arb = s.arb := rfl
@[simp] theorem State.setCtl_bank (s : State) (x : ControlUnit) : (s.setCtl x).bank = s.bank := rfl
@[simp] theorem State.setCtl_wake (s : State) (x : ControlUnit) : (s.setCtl x).wake = s.wake := rfl
@[simp] theorem State.setCtl_hold (s : State) (x : ControlUnit) : (s.setCtl x).hold = s.hold := rfl
@[simp] theorem State.setCtl_sys (s : State) (x : ControlUnit) : (s.setCtl x).sys = s.sys := rfl
@[simp] theorem State.setCtl_ctl (s : State) (x : ControlUnit) : (s.setCtl x).ctl = x := rfl
@[simp] theorem State.setCtl_setCtl (s : State) (x y : ControlUnit) : (s.setCtl x).setCtl y = s.setCtl y := rfl
@[simp] theorem State.setCtl_self (s : State) : s.setCtl s.ctl = s := rfl

end Sys2Proof.Machine
end

