-- ==== Sys2Proof/Laws/Frames.lean ====
section
/-! SUPPORT. Frames of the shared operations: for each operation, the blocks of State that it leaves as they
are. A block without a lemma is one that the operation may change. -/

namespace Sys2Proof.Machine

/-- A reply is built only into a FREE slot, at once (R125). -/
theorem buildReply_some {p : Path} {k : ReplyKind} {n : Option Nat} {t : Bool} {fr : BitVec 16 → Frame}
    {s s' : State} (h : buildReply p k n t fr s = some s') :
    ∃ i, freeSlot s = some i ∧ s' = fillSlot i (destOfPath p) k n t (fr s.reply.ipId) s := by
  simp only [buildReply, Option.map_eq_some_iff] at h
  obtain ⟨i, hi, rfl⟩ := h
  exact ⟨i, hi, rfl⟩

@[simp] theorem setMode_pending (m : Mode) (s : State) : (setMode m s).pending = s.pending := by simp [setMode]
@[simp] theorem setMode_linePort (m : Mode) (s : State) : (setMode m s).linePort = s.linePort := by simp [setMode]
@[simp] theorem setMode_guardPath (m : Mode) (s : State) : (setMode m s).guardPath = s.guardPath := by simp [setMode]
@[simp] theorem setMode_matchTable (m : Mode) (s : State) : (setMode m s).matchTable = s.matchTable := by simp [setMode]
@[simp] theorem setMode_identities (m : Mode) (s : State) : (setMode m s).identities = s.identities := by simp [setMode]
@[simp] theorem setMode_names (m : Mode) (s : State) : (setMode m s).names = s.names := by simp [setMode]
@[simp] theorem setMode_sessions (m : Mode) (s : State) : (setMode m s).sessions = s.sessions := by simp [setMode]
@[simp] theorem setMode_probes (m : Mode) (s : State) : (setMode m s).probes = s.probes := by simp [setMode]
@[simp] theorem setMode_reply (m : Mode) (s : State) : (setMode m s).reply = s.reply := by simp [setMode]
@[simp] theorem setMode_arb (m : Mode) (s : State) : (setMode m s).arb = s.arb := by simp [setMode]
@[simp] theorem setMode_bank (m : Mode) (s : State) : (setMode m s).bank = s.bank := by simp [setMode]
@[simp] theorem setMode_wake (m : Mode) (s : State) : (setMode m s).wake = s.wake := by simp [setMode]
@[simp] theorem setMode_hold (m : Mode) (s : State) : (setMode m s).hold = s.hold := by simp [setMode]
@[simp] theorem setMode_sys (m : Mode) (s : State) : (setMode m s).sys = s.sys := by simp [setMode]
@[simp] theorem setMode_ctl (m : Mode) (s : State) : (setMode m s).ctl = s.ctl := by simp [setMode]
@[simp] theorem bump_pending (c : Counter) (s : State) : (bump c s).pending = s.pending := by simp [bump]
@[simp] theorem bump_modeCtl (c : Counter) (s : State) : (bump c s).modeCtl = s.modeCtl := by simp [bump]
@[simp] theorem bump_linePort (c : Counter) (s : State) : (bump c s).linePort = s.linePort := by simp [bump]
@[simp] theorem bump_guardPath (c : Counter) (s : State) : (bump c s).guardPath = s.guardPath := by simp [bump]
@[simp] theorem bump_matchTable (c : Counter) (s : State) : (bump c s).matchTable = s.matchTable := by simp [bump]
@[simp] theorem bump_identities (c : Counter) (s : State) : (bump c s).identities = s.identities := by simp [bump]
@[simp] theorem bump_names (c : Counter) (s : State) : (bump c s).names = s.names := by simp [bump]
@[simp] theorem bump_sessions (c : Counter) (s : State) : (bump c s).sessions = s.sessions := by simp [bump]
@[simp] theorem bump_probes (c : Counter) (s : State) : (bump c s).probes = s.probes := by simp [bump]
@[simp] theorem bump_reply (c : Counter) (s : State) : (bump c s).reply = s.reply := by simp [bump]
@[simp] theorem bump_arb (c : Counter) (s : State) : (bump c s).arb = s.arb := by simp [bump]
@[simp] theorem bump_bank (c : Counter) (s : State) : (bump c s).bank = s.bank := by simp [bump]
@[simp] theorem bump_wake (c : Counter) (s : State) : (bump c s).wake = s.wake := by simp [bump]
@[simp] theorem bump_hold (c : Counter) (s : State) : (bump c s).hold = s.hold := by simp [bump]
@[simp] theorem bump_sys (c : Counter) (s : State) : (bump c s).sys = s.sys := by simp [bump]
@[simp] theorem bumpIf_pending (p : Bool) (c : Counter) (s : State) : (bumpIf p c s).pending = s.pending := by
  simp only [bumpIf]
  repeat' split
  all_goals simp
@[simp] theorem bumpIf_modeCtl (p : Bool) (c : Counter) (s : State) : (bumpIf p c s).modeCtl = s.modeCtl := by
  simp only [bumpIf]
  repeat' split
  all_goals simp
@[simp] theorem bumpIf_linePort (p : Bool) (c : Counter) (s : State) : (bumpIf p c s).linePort = s.linePort := by
  simp only [bumpIf]
  repeat' split
  all_goals simp
@[simp] theorem bumpIf_guardPath (p : Bool) (c : Counter) (s : State) : (bumpIf p c s).guardPath = s.guardPath := by
  simp only [bumpIf]
  repeat' split
  all_goals simp
@[simp] theorem bumpIf_matchTable (p : Bool) (c : Counter) (s : State) : (bumpIf p c s).matchTable = s.matchTable := by
  simp only [bumpIf]
  repeat' split
  all_goals simp
@[simp] theorem bumpIf_identities (p : Bool) (c : Counter) (s : State) : (bumpIf p c s).identities = s.identities := by
  simp only [bumpIf]
  repeat' split
  all_goals simp
@[simp] theorem bumpIf_names (p : Bool) (c : Counter) (s : State) : (bumpIf p c s).names = s.names := by
  simp only [bumpIf]
  repeat' split
  all_goals simp
@[simp] theorem bumpIf_sessions (p : Bool) (c : Counter) (s : State) : (bumpIf p c s).sessions = s.sessions := by
  simp only [bumpIf]
  repeat' split
  all_goals simp
@[simp] theorem bumpIf_probes (p : Bool) (c : Counter) (s : State) : (bumpIf p c s).probes = s.probes := by
  simp only [bumpIf]
  repeat' split
  all_goals simp
@[simp] theorem bumpIf_reply (p : Bool) (c : Counter) (s : State) : (bumpIf p c s).reply = s.reply := by
  simp only [bumpIf]
  repeat' split
  all_goals simp
@[simp] theorem bumpIf_arb (p : Bool) (c : Counter) (s : State) : (bumpIf p c s).arb = s.arb := by
  simp only [bumpIf]
  repeat' split
  all_goals simp
@[simp] theorem bumpIf_bank (p : Bool) (c : Counter) (s : State) : (bumpIf p c s).bank = s.bank := by
  simp only [bumpIf]
  repeat' split
  all_goals simp
@[simp] theorem bumpIf_wake (p : Bool) (c : Counter) (s : State) : (bumpIf p c s).wake = s.wake := by
  simp only [bumpIf]
  repeat' split
  all_goals simp
@[simp] theorem bumpIf_hold (p : Bool) (c : Counter) (s : State) : (bumpIf p c s).hold = s.hold := by
  simp only [bumpIf]
  repeat' split
  all_goals simp
@[simp] theorem bumpIf_sys (p : Bool) (c : Counter) (s : State) : (bumpIf p c s).sys = s.sys := by
  simp only [bumpIf]
  repeat' split
  all_goals simp
@[simp] theorem modifyIdentity_pending (i : Nat) (f : Identity → Identity) (s : State) : (modifyIdentity i f s).pending = s.pending := by simp [modifyIdentity]
@[simp] theorem modifyIdentity_modeCtl (i : Nat) (f : Identity → Identity) (s : State) : (modifyIdentity i f s).modeCtl = s.modeCtl := by simp [modifyIdentity]
@[simp] theorem modifyIdentity_linePort (i : Nat) (f : Identity → Identity) (s : State) : (modifyIdentity i f s).linePort = s.linePort := by simp [modifyIdentity]
@[simp] theorem modifyIdentity_guardPath (i : Nat) (f : Identity → Identity) (s : State) : (modifyIdentity i f s).guardPath = s.guardPath := by simp [modifyIdentity]
@[simp] theorem modifyIdentity_matchTable (i : Nat) (f : Identity → Identity) (s : State) : (modifyIdentity i f s).matchTable = s.matchTable := by simp [modifyIdentity]
@[simp] theorem modifyIdentity_names (i : Nat) (f : Identity → Identity) (s : State) : (modifyIdentity i f s).names = s.names := by simp [modifyIdentity]
@[simp] theorem modifyIdentity_sessions (i : Nat) (f : Identity → Identity) (s : State) : (modifyIdentity i f s).sessions = s.sessions := by simp [modifyIdentity]
@[simp] theorem modifyIdentity_probes (i : Nat) (f : Identity → Identity) (s : State) : (modifyIdentity i f s).probes = s.probes := by simp [modifyIdentity]
@[simp] theorem modifyIdentity_reply (i : Nat) (f : Identity → Identity) (s : State) : (modifyIdentity i f s).reply = s.reply := by simp [modifyIdentity]
@[simp] theorem modifyIdentity_arb (i : Nat) (f : Identity → Identity) (s : State) : (modifyIdentity i f s).arb = s.arb := by simp [modifyIdentity]
@[simp] theorem modifyIdentity_bank (i : Nat) (f : Identity → Identity) (s : State) : (modifyIdentity i f s).bank = s.bank := by simp [modifyIdentity]
@[simp] theorem modifyIdentity_wake (i : Nat) (f : Identity → Identity) (s : State) : (modifyIdentity i f s).wake = s.wake := by simp [modifyIdentity]
@[simp] theorem modifyIdentity_hold (i : Nat) (f : Identity → Identity) (s : State) : (modifyIdentity i f s).hold = s.hold := by simp [modifyIdentity]
@[simp] theorem modifyIdentity_sys (i : Nat) (f : Identity → Identity) (s : State) : (modifyIdentity i f s).sys = s.sys := by simp [modifyIdentity]
@[simp] theorem modifyIdentity_ctl (i : Nat) (f : Identity → Identity) (s : State) : (modifyIdentity i f s).ctl = s.ctl := by simp [modifyIdentity]
@[simp] theorem modifySession_pending (i : Nat) (f : Session → Session) (s : State) : (modifySession i f s).pending = s.pending := by simp [modifySession]
@[simp] theorem modifySession_modeCtl (i : Nat) (f : Session → Session) (s : State) : (modifySession i f s).modeCtl = s.modeCtl := by simp [modifySession]
@[simp] theorem modifySession_linePort (i : Nat) (f : Session → Session) (s : State) : (modifySession i f s).linePort = s.linePort := by simp [modifySession]
@[simp] theorem modifySession_guardPath (i : Nat) (f : Session → Session) (s : State) : (modifySession i f s).guardPath = s.guardPath := by simp [modifySession]
@[simp] theorem modifySession_matchTable (i : Nat) (f : Session → Session) (s : State) : (modifySession i f s).matchTable = s.matchTable := by simp [modifySession]
@[simp] theorem modifySession_identities (i : Nat) (f : Session → Session) (s : State) : (modifySession i f s).identities = s.identities := by simp [modifySession]
@[simp] theorem modifySession_names (i : Nat) (f : Session → Session) (s : State) : (modifySession i f s).names = s.names := by simp [modifySession]
@[simp] theorem modifySession_probes (i : Nat) (f : Session → Session) (s : State) : (modifySession i f s).probes = s.probes := by simp [modifySession]
@[simp] theorem modifySession_reply (i : Nat) (f : Session → Session) (s : State) : (modifySession i f s).reply = s.reply := by simp [modifySession]
@[simp] theorem modifySession_arb (i : Nat) (f : Session → Session) (s : State) : (modifySession i f s).arb = s.arb := by simp [modifySession]
@[simp] theorem modifySession_bank (i : Nat) (f : Session → Session) (s : State) : (modifySession i f s).bank = s.bank := by simp [modifySession]
@[simp] theorem modifySession_wake (i : Nat) (f : Session → Session) (s : State) : (modifySession i f s).wake = s.wake := by simp [modifySession]
@[simp] theorem modifySession_hold (i : Nat) (f : Session → Session) (s : State) : (modifySession i f s).hold = s.hold := by simp [modifySession]
@[simp] theorem modifySession_sys (i : Nat) (f : Session → Session) (s : State) : (modifySession i f s).sys = s.sys := by simp [modifySession]
@[simp] theorem modifySession_ctl (i : Nat) (f : Session → Session) (s : State) : (modifySession i f s).ctl = s.ctl := by simp [modifySession]
@[simp] theorem modifyTimer_pending (i : Nat) (f : Timer → Timer) (s : State) : (modifyTimer i f s).pending = s.pending := by simp [modifyTimer]
@[simp] theorem modifyTimer_modeCtl (i : Nat) (f : Timer → Timer) (s : State) : (modifyTimer i f s).modeCtl = s.modeCtl := by simp [modifyTimer]
@[simp] theorem modifyTimer_linePort (i : Nat) (f : Timer → Timer) (s : State) : (modifyTimer i f s).linePort = s.linePort := by simp [modifyTimer]
@[simp] theorem modifyTimer_guardPath (i : Nat) (f : Timer → Timer) (s : State) : (modifyTimer i f s).guardPath = s.guardPath := by simp [modifyTimer]
@[simp] theorem modifyTimer_matchTable (i : Nat) (f : Timer → Timer) (s : State) : (modifyTimer i f s).matchTable = s.matchTable := by simp [modifyTimer]
@[simp] theorem modifyTimer_identities (i : Nat) (f : Timer → Timer) (s : State) : (modifyTimer i f s).identities = s.identities := by simp [modifyTimer]
@[simp] theorem modifyTimer_names (i : Nat) (f : Timer → Timer) (s : State) : (modifyTimer i f s).names = s.names := by simp [modifyTimer]
@[simp] theorem modifyTimer_sessions (i : Nat) (f : Timer → Timer) (s : State) : (modifyTimer i f s).sessions = s.sessions := by simp [modifyTimer]
@[simp] theorem modifyTimer_probes (i : Nat) (f : Timer → Timer) (s : State) : (modifyTimer i f s).probes = s.probes := by simp [modifyTimer]
@[simp] theorem modifyTimer_reply (i : Nat) (f : Timer → Timer) (s : State) : (modifyTimer i f s).reply = s.reply := by simp [modifyTimer]
@[simp] theorem modifyTimer_arb (i : Nat) (f : Timer → Timer) (s : State) : (modifyTimer i f s).arb = s.arb := by simp [modifyTimer]
@[simp] theorem modifyTimer_wake (i : Nat) (f : Timer → Timer) (s : State) : (modifyTimer i f s).wake = s.wake := by simp [modifyTimer]
@[simp] theorem modifyTimer_hold (i : Nat) (f : Timer → Timer) (s : State) : (modifyTimer i f s).hold = s.hold := by simp [modifyTimer]
@[simp] theorem modifyTimer_sys (i : Nat) (f : Timer → Timer) (s : State) : (modifyTimer i f s).sys = s.sys := by simp [modifyTimer]
@[simp] theorem modifyTimer_ctl (i : Nat) (f : Timer → Timer) (s : State) : (modifyTimer i f s).ctl = s.ctl := by simp [modifyTimer]
@[simp] theorem modifyAlarm_pending (i : Nat) (f : Alarm → Alarm) (s : State) : (modifyAlarm i f s).pending = s.pending := by simp [modifyAlarm]
@[simp] theorem modifyAlarm_modeCtl (i : Nat) (f : Alarm → Alarm) (s : State) : (modifyAlarm i f s).modeCtl = s.modeCtl := by simp [modifyAlarm]
@[simp] theorem modifyAlarm_linePort (i : Nat) (f : Alarm → Alarm) (s : State) : (modifyAlarm i f s).linePort = s.linePort := by simp [modifyAlarm]
@[simp] theorem modifyAlarm_guardPath (i : Nat) (f : Alarm → Alarm) (s : State) : (modifyAlarm i f s).guardPath = s.guardPath := by simp [modifyAlarm]
@[simp] theorem modifyAlarm_matchTable (i : Nat) (f : Alarm → Alarm) (s : State) : (modifyAlarm i f s).matchTable = s.matchTable := by simp [modifyAlarm]
@[simp] theorem modifyAlarm_identities (i : Nat) (f : Alarm → Alarm) (s : State) : (modifyAlarm i f s).identities = s.identities := by simp [modifyAlarm]
@[simp] theorem modifyAlarm_names (i : Nat) (f : Alarm → Alarm) (s : State) : (modifyAlarm i f s).names = s.names := by simp [modifyAlarm]
@[simp] theorem modifyAlarm_sessions (i : Nat) (f : Alarm → Alarm) (s : State) : (modifyAlarm i f s).sessions = s.sessions := by simp [modifyAlarm]
@[simp] theorem modifyAlarm_probes (i : Nat) (f : Alarm → Alarm) (s : State) : (modifyAlarm i f s).probes = s.probes := by simp [modifyAlarm]
@[simp] theorem modifyAlarm_reply (i : Nat) (f : Alarm → Alarm) (s : State) : (modifyAlarm i f s).reply = s.reply := by simp [modifyAlarm]
@[simp] theorem modifyAlarm_arb (i : Nat) (f : Alarm → Alarm) (s : State) : (modifyAlarm i f s).arb = s.arb := by simp [modifyAlarm]
@[simp] theorem modifyAlarm_wake (i : Nat) (f : Alarm → Alarm) (s : State) : (modifyAlarm i f s).wake = s.wake := by simp [modifyAlarm]
@[simp] theorem modifyAlarm_hold (i : Nat) (f : Alarm → Alarm) (s : State) : (modifyAlarm i f s).hold = s.hold := by simp [modifyAlarm]
@[simp] theorem modifyAlarm_sys (i : Nat) (f : Alarm → Alarm) (s : State) : (modifyAlarm i f s).sys = s.sys := by simp [modifyAlarm]
@[simp] theorem modifyAlarm_ctl (i : Nat) (f : Alarm → Alarm) (s : State) : (modifyAlarm i f s).ctl = s.ctl := by simp [modifyAlarm]
@[simp] theorem startTimer_pending (i count reload : Nat) (m : TimerMode) (s : State) : (startTimer i count reload m s).pending = s.pending := by simp [startTimer]
@[simp] theorem startTimer_modeCtl (i count reload : Nat) (m : TimerMode) (s : State) : (startTimer i count reload m s).modeCtl = s.modeCtl := by simp [startTimer]
@[simp] theorem startTimer_linePort (i count reload : Nat) (m : TimerMode) (s : State) : (startTimer i count reload m s).linePort = s.linePort := by simp [startTimer]
@[simp] theorem startTimer_guardPath (i count reload : Nat) (m : TimerMode) (s : State) : (startTimer i count reload m s).guardPath = s.guardPath := by simp [startTimer]
@[simp] theorem startTimer_matchTable (i count reload : Nat) (m : TimerMode) (s : State) : (startTimer i count reload m s).matchTable = s.matchTable := by simp [startTimer]
@[simp] theorem startTimer_identities (i count reload : Nat) (m : TimerMode) (s : State) : (startTimer i count reload m s).identities = s.identities := by simp [startTimer]
@[simp] theorem startTimer_names (i count reload : Nat) (m : TimerMode) (s : State) : (startTimer i count reload m s).names = s.names := by simp [startTimer]
@[simp] theorem startTimer_sessions (i count reload : Nat) (m : TimerMode) (s : State) : (startTimer i count reload m s).sessions = s.sessions := by simp [startTimer]
@[simp] theorem startTimer_probes (i count reload : Nat) (m : TimerMode) (s : State) : (startTimer i count reload m s).probes = s.probes := by simp [startTimer]
@[simp] theorem startTimer_reply (i count reload : Nat) (m : TimerMode) (s : State) : (startTimer i count reload m s).reply = s.reply := by simp [startTimer]
@[simp] theorem startTimer_arb (i count reload : Nat) (m : TimerMode) (s : State) : (startTimer i count reload m s).arb = s.arb := by simp [startTimer]
@[simp] theorem startTimer_wake (i count reload : Nat) (m : TimerMode) (s : State) : (startTimer i count reload m s).wake = s.wake := by simp [startTimer]
@[simp] theorem startTimer_hold (i count reload : Nat) (m : TimerMode) (s : State) : (startTimer i count reload m s).hold = s.hold := by simp [startTimer]
@[simp] theorem startTimer_sys (i count reload : Nat) (m : TimerMode) (s : State) : (startTimer i count reload m s).sys = s.sys := by simp [startTimer]
@[simp] theorem startTimer_ctl (i count reload : Nat) (m : TimerMode) (s : State) : (startTimer i count reload m s).ctl = s.ctl := by simp [startTimer]
@[simp] theorem stageTimer_pending (i v : Nat) (s : State) : (stageTimer i v s).pending = s.pending := by simp [stageTimer]
@[simp] theorem stageTimer_modeCtl (i v : Nat) (s : State) : (stageTimer i v s).modeCtl = s.modeCtl := by simp [stageTimer]
@[simp] theorem stageTimer_linePort (i v : Nat) (s : State) : (stageTimer i v s).linePort = s.linePort := by simp [stageTimer]
@[simp] theorem stageTimer_guardPath (i v : Nat) (s : State) : (stageTimer i v s).guardPath = s.guardPath := by simp [stageTimer]
@[simp] theorem stageTimer_matchTable (i v : Nat) (s : State) : (stageTimer i v s).matchTable = s.matchTable := by simp [stageTimer]
@[simp] theorem stageTimer_identities (i v : Nat) (s : State) : (stageTimer i v s).identities = s.identities := by simp [stageTimer]
@[simp] theorem stageTimer_names (i v : Nat) (s : State) : (stageTimer i v s).names = s.names := by simp [stageTimer]
@[simp] theorem stageTimer_sessions (i v : Nat) (s : State) : (stageTimer i v s).sessions = s.sessions := by simp [stageTimer]
@[simp] theorem stageTimer_probes (i v : Nat) (s : State) : (stageTimer i v s).probes = s.probes := by simp [stageTimer]
@[simp] theorem stageTimer_reply (i v : Nat) (s : State) : (stageTimer i v s).reply = s.reply := by simp [stageTimer]
@[simp] theorem stageTimer_arb (i v : Nat) (s : State) : (stageTimer i v s).arb = s.arb := by simp [stageTimer]
@[simp] theorem stageTimer_wake (i v : Nat) (s : State) : (stageTimer i v s).wake = s.wake := by simp [stageTimer]
@[simp] theorem stageTimer_hold (i v : Nat) (s : State) : (stageTimer i v s).hold = s.hold := by simp [stageTimer]
@[simp] theorem stageTimer_sys (i v : Nat) (s : State) : (stageTimer i v s).sys = s.sys := by simp [stageTimer]
@[simp] theorem stageTimer_ctl (i v : Nat) (s : State) : (stageTimer i v s).ctl = s.ctl := by simp [stageTimer]
@[simp] theorem stopTimer_pending (i : Nat) (s : State) : (stopTimer i s).pending = s.pending := by simp [stopTimer]
@[simp] theorem stopTimer_modeCtl (i : Nat) (s : State) : (stopTimer i s).modeCtl = s.modeCtl := by simp [stopTimer]
@[simp] theorem stopTimer_linePort (i : Nat) (s : State) : (stopTimer i s).linePort = s.linePort := by simp [stopTimer]
@[simp] theorem stopTimer_guardPath (i : Nat) (s : State) : (stopTimer i s).guardPath = s.guardPath := by simp [stopTimer]
@[simp] theorem stopTimer_matchTable (i : Nat) (s : State) : (stopTimer i s).matchTable = s.matchTable := by simp [stopTimer]
@[simp] theorem stopTimer_identities (i : Nat) (s : State) : (stopTimer i s).identities = s.identities := by simp [stopTimer]
@[simp] theorem stopTimer_names (i : Nat) (s : State) : (stopTimer i s).names = s.names := by simp [stopTimer]
@[simp] theorem stopTimer_sessions (i : Nat) (s : State) : (stopTimer i s).sessions = s.sessions := by simp [stopTimer]
@[simp] theorem stopTimer_probes (i : Nat) (s : State) : (stopTimer i s).probes = s.probes := by simp [stopTimer]
@[simp] theorem stopTimer_reply (i : Nat) (s : State) : (stopTimer i s).reply = s.reply := by simp [stopTimer]
@[simp] theorem stopTimer_arb (i : Nat) (s : State) : (stopTimer i s).arb = s.arb := by simp [stopTimer]
@[simp] theorem stopTimer_wake (i : Nat) (s : State) : (stopTimer i s).wake = s.wake := by simp [stopTimer]
@[simp] theorem stopTimer_hold (i : Nat) (s : State) : (stopTimer i s).hold = s.hold := by simp [stopTimer]
@[simp] theorem stopTimer_sys (i : Nat) (s : State) : (stopTimer i s).sys = s.sys := by simp [stopTimer]
@[simp] theorem stopTimer_ctl (i : Nat) (s : State) : (stopTimer i s).ctl = s.ctl := by simp [stopTimer]
@[simp] theorem stopAllTimers_pending (s : State) : (stopAllTimers s).pending = s.pending := by simp [stopAllTimers]
@[simp] theorem stopAllTimers_modeCtl (s : State) : (stopAllTimers s).modeCtl = s.modeCtl := by simp [stopAllTimers]
@[simp] theorem stopAllTimers_linePort (s : State) : (stopAllTimers s).linePort = s.linePort := by simp [stopAllTimers]
@[simp] theorem stopAllTimers_guardPath (s : State) : (stopAllTimers s).guardPath = s.guardPath := by simp [stopAllTimers]
@[simp] theorem stopAllTimers_matchTable (s : State) : (stopAllTimers s).matchTable = s.matchTable := by simp [stopAllTimers]
@[simp] theorem stopAllTimers_identities (s : State) : (stopAllTimers s).identities = s.identities := by simp [stopAllTimers]
@[simp] theorem stopAllTimers_names (s : State) : (stopAllTimers s).names = s.names := by simp [stopAllTimers]
@[simp] theorem stopAllTimers_sessions (s : State) : (stopAllTimers s).sessions = s.sessions := by simp [stopAllTimers]
@[simp] theorem stopAllTimers_probes (s : State) : (stopAllTimers s).probes = s.probes := by simp [stopAllTimers]
@[simp] theorem stopAllTimers_reply (s : State) : (stopAllTimers s).reply = s.reply := by simp [stopAllTimers]
@[simp] theorem stopAllTimers_arb (s : State) : (stopAllTimers s).arb = s.arb := by simp [stopAllTimers]
@[simp] theorem stopAllTimers_wake (s : State) : (stopAllTimers s).wake = s.wake := by simp [stopAllTimers]
@[simp] theorem stopAllTimers_hold (s : State) : (stopAllTimers s).hold = s.hold := by simp [stopAllTimers]
@[simp] theorem stopAllTimers_sys (s : State) : (stopAllTimers s).sys = s.sys := by simp [stopAllTimers]
@[simp] theorem stopAllTimers_ctl (s : State) : (stopAllTimers s).ctl = s.ctl := by simp [stopAllTimers]
@[simp] theorem sendRequest_pending (r : WakeRequest) (s : State) : (sendRequest r s).pending = s.pending := by simp [sendRequest]
@[simp] theorem sendRequest_modeCtl (r : WakeRequest) (s : State) : (sendRequest r s).modeCtl = s.modeCtl := by simp [sendRequest]
@[simp] theorem sendRequest_linePort (r : WakeRequest) (s : State) : (sendRequest r s).linePort = s.linePort := by simp [sendRequest]
@[simp] theorem sendRequest_guardPath (r : WakeRequest) (s : State) : (sendRequest r s).guardPath = s.guardPath := by simp [sendRequest]
@[simp] theorem sendRequest_matchTable (r : WakeRequest) (s : State) : (sendRequest r s).matchTable = s.matchTable := by simp [sendRequest]
@[simp] theorem sendRequest_identities (r : WakeRequest) (s : State) : (sendRequest r s).identities = s.identities := by simp [sendRequest]
@[simp] theorem sendRequest_names (r : WakeRequest) (s : State) : (sendRequest r s).names = s.names := by simp [sendRequest]
@[simp] theorem sendRequest_sessions (r : WakeRequest) (s : State) : (sendRequest r s).sessions = s.sessions := by simp [sendRequest]
@[simp] theorem sendRequest_probes (r : WakeRequest) (s : State) : (sendRequest r s).probes = s.probes := by simp [sendRequest]
@[simp] theorem sendRequest_reply (r : WakeRequest) (s : State) : (sendRequest r s).reply = s.reply := by simp [sendRequest]
@[simp] theorem sendRequest_arb (r : WakeRequest) (s : State) : (sendRequest r s).arb = s.arb := by simp [sendRequest]
@[simp] theorem sendRequest_bank (r : WakeRequest) (s : State) : (sendRequest r s).bank = s.bank := by simp [sendRequest]
@[simp] theorem sendRequest_hold (r : WakeRequest) (s : State) : (sendRequest r s).hold = s.hold := by simp [sendRequest]
@[simp] theorem sendRequest_sys (r : WakeRequest) (s : State) : (sendRequest r s).sys = s.sys := by simp [sendRequest]
@[simp] theorem sendRequest_ctl (r : WakeRequest) (s : State) : (sendRequest r s).ctl = s.ctl := by simp [sendRequest]
@[simp] theorem handToHold_pending (o : Origin) (f : HeldFrame) (s : State) : (handToHold o f s).pending = s.pending := by simp [handToHold]
@[simp] theorem handToHold_modeCtl (o : Origin) (f : HeldFrame) (s : State) : (handToHold o f s).modeCtl = s.modeCtl := by simp [handToHold]
@[simp] theorem handToHold_linePort (o : Origin) (f : HeldFrame) (s : State) : (handToHold o f s).linePort = s.linePort := by simp [handToHold]
@[simp] theorem handToHold_guardPath (o : Origin) (f : HeldFrame) (s : State) : (handToHold o f s).guardPath = s.guardPath := by simp [handToHold]
@[simp] theorem handToHold_matchTable (o : Origin) (f : HeldFrame) (s : State) : (handToHold o f s).matchTable = s.matchTable := by simp [handToHold]
@[simp] theorem handToHold_identities (o : Origin) (f : HeldFrame) (s : State) : (handToHold o f s).identities = s.identities := by simp [handToHold]
@[simp] theorem handToHold_names (o : Origin) (f : HeldFrame) (s : State) : (handToHold o f s).names = s.names := by simp [handToHold]
@[simp] theorem handToHold_sessions (o : Origin) (f : HeldFrame) (s : State) : (handToHold o f s).sessions = s.sessions := by simp [handToHold]
@[simp] theorem handToHold_probes (o : Origin) (f : HeldFrame) (s : State) : (handToHold o f s).probes = s.probes := by simp [handToHold]
@[simp] theorem handToHold_reply (o : Origin) (f : HeldFrame) (s : State) : (handToHold o f s).reply = s.reply := by simp [handToHold]
@[simp] theorem handToHold_arb (o : Origin) (f : HeldFrame) (s : State) : (handToHold o f s).arb = s.arb := by simp [handToHold]
@[simp] theorem handToHold_bank (o : Origin) (f : HeldFrame) (s : State) : (handToHold o f s).bank = s.bank := by simp [handToHold]
@[simp] theorem handToHold_wake (o : Origin) (f : HeldFrame) (s : State) : (handToHold o f s).wake = s.wake := by simp [handToHold]
@[simp] theorem handToHold_sys (o : Origin) (f : HeldFrame) (s : State) : (handToHold o f s).sys = s.sys := by simp [handToHold]
@[simp] theorem handToHold_ctl (o : Origin) (f : HeldFrame) (s : State) : (handToHold o f s).ctl = s.ctl := by simp [handToHold]
@[simp] theorem endDrain_pending (s : State) : (endDrain s).pending = s.pending := by
  simp only [endDrain]
  repeat' split
  all_goals simp
@[simp] theorem endDrain_linePort (s : State) : (endDrain s).linePort = s.linePort := by
  simp only [endDrain]
  repeat' split
  all_goals simp
@[simp] theorem endDrain_guardPath (s : State) : (endDrain s).guardPath = s.guardPath := by
  simp only [endDrain]
  repeat' split
  all_goals simp
@[simp] theorem endDrain_matchTable (s : State) : (endDrain s).matchTable = s.matchTable := by
  simp only [endDrain]
  repeat' split
  all_goals simp
@[simp] theorem endDrain_identities (s : State) : (endDrain s).identities = s.identities := by
  simp only [endDrain]
  repeat' split
  all_goals simp
@[simp] theorem endDrain_names (s : State) : (endDrain s).names = s.names := by
  simp only [endDrain]
  repeat' split
  all_goals simp
@[simp] theorem endDrain_sessions (s : State) : (endDrain s).sessions = s.sessions := by
  simp only [endDrain]
  repeat' split
  all_goals simp
@[simp] theorem endDrain_probes (s : State) : (endDrain s).probes = s.probes := by
  simp only [endDrain]
  repeat' split
  all_goals simp
@[simp] theorem endDrain_reply (s : State) : (endDrain s).reply = s.reply := by
  simp only [endDrain]
  repeat' split
  all_goals simp
@[simp] theorem endDrain_arb (s : State) : (endDrain s).arb = s.arb := by
  simp only [endDrain]
  repeat' split
  all_goals simp
@[simp] theorem endDrain_bank (s : State) : (endDrain s).bank = s.bank := by
  simp only [endDrain]
  repeat' split
  all_goals simp
@[simp] theorem endDrain_wake (s : State) : (endDrain s).wake = s.wake := by
  simp only [endDrain]
  repeat' split
  all_goals simp
@[simp] theorem endDrain_hold (s : State) : (endDrain s).hold = s.hold := by
  simp only [endDrain]
  repeat' split
  all_goals simp
@[simp] theorem endDrain_sys (s : State) : (endDrain s).sys = s.sys := by
  simp only [endDrain]
  repeat' split
  all_goals simp
@[simp] theorem endDrain_ctl (s : State) : (endDrain s).ctl = s.ctl := by
  simp only [endDrain]
  repeat' split
  all_goals simp
@[simp] theorem refreshListed_pending (s : State) : (refreshListed s).pending = s.pending := by simp [refreshListed]
@[simp] theorem refreshListed_modeCtl (s : State) : (refreshListed s).modeCtl = s.modeCtl := by simp [refreshListed]
@[simp] theorem refreshListed_linePort (s : State) : (refreshListed s).linePort = s.linePort := by simp [refreshListed]
@[simp] theorem refreshListed_matchTable (s : State) : (refreshListed s).matchTable = s.matchTable := by simp [refreshListed]
@[simp] theorem refreshListed_identities (s : State) : (refreshListed s).identities = s.identities := by simp [refreshListed]
@[simp] theorem refreshListed_names (s : State) : (refreshListed s).names = s.names := by simp [refreshListed]
@[simp] theorem refreshListed_sessions (s : State) : (refreshListed s).sessions = s.sessions := by simp [refreshListed]
@[simp] theorem refreshListed_probes (s : State) : (refreshListed s).probes = s.probes := by simp [refreshListed]
@[simp] theorem refreshListed_reply (s : State) : (refreshListed s).reply = s.reply := by simp [refreshListed]
@[simp] theorem refreshListed_arb (s : State) : (refreshListed s).arb = s.arb := by simp [refreshListed]
@[simp] theorem refreshListed_bank (s : State) : (refreshListed s).bank = s.bank := by simp [refreshListed]
@[simp] theorem refreshListed_wake (s : State) : (refreshListed s).wake = s.wake := by simp [refreshListed]
@[simp] theorem refreshListed_hold (s : State) : (refreshListed s).hold = s.hold := by simp [refreshListed]
@[simp] theorem refreshListed_sys (s : State) : (refreshListed s).sys = s.sys := by simp [refreshListed]
@[simp] theorem refreshListed_ctl (s : State) : (refreshListed s).ctl = s.ctl := by simp [refreshListed]
@[simp] theorem bumpTimes_pending (l : Nat) (c : Counter) (s : State) : (bumpTimes l c s).pending = s.pending := by
  induction l generalizing s <;> simp_all [bumpTimes]
@[simp] theorem bumpTimes_modeCtl (l : Nat) (c : Counter) (s : State) : (bumpTimes l c s).modeCtl = s.modeCtl := by
  induction l generalizing s <;> simp_all [bumpTimes]
@[simp] theorem bumpTimes_linePort (l : Nat) (c : Counter) (s : State) : (bumpTimes l c s).linePort = s.linePort := by
  induction l generalizing s <;> simp_all [bumpTimes]
@[simp] theorem bumpTimes_guardPath (l : Nat) (c : Counter) (s : State) : (bumpTimes l c s).guardPath = s.guardPath := by
  induction l generalizing s <;> simp_all [bumpTimes]
@[simp] theorem bumpTimes_matchTable (l : Nat) (c : Counter) (s : State) : (bumpTimes l c s).matchTable = s.matchTable := by
  induction l generalizing s <;> simp_all [bumpTimes]
@[simp] theorem bumpTimes_identities (l : Nat) (c : Counter) (s : State) : (bumpTimes l c s).identities = s.identities := by
  induction l generalizing s <;> simp_all [bumpTimes]
@[simp] theorem bumpTimes_names (l : Nat) (c : Counter) (s : State) : (bumpTimes l c s).names = s.names := by
  induction l generalizing s <;> simp_all [bumpTimes]
@[simp] theorem bumpTimes_sessions (l : Nat) (c : Counter) (s : State) : (bumpTimes l c s).sessions = s.sessions := by
  induction l generalizing s <;> simp_all [bumpTimes]
@[simp] theorem bumpTimes_probes (l : Nat) (c : Counter) (s : State) : (bumpTimes l c s).probes = s.probes := by
  induction l generalizing s <;> simp_all [bumpTimes]
@[simp] theorem bumpTimes_reply (l : Nat) (c : Counter) (s : State) : (bumpTimes l c s).reply = s.reply := by
  induction l generalizing s <;> simp_all [bumpTimes]
@[simp] theorem bumpTimes_arb (l : Nat) (c : Counter) (s : State) : (bumpTimes l c s).arb = s.arb := by
  induction l generalizing s <;> simp_all [bumpTimes]
@[simp] theorem bumpTimes_bank (l : Nat) (c : Counter) (s : State) : (bumpTimes l c s).bank = s.bank := by
  induction l generalizing s <;> simp_all [bumpTimes]
@[simp] theorem bumpTimes_wake (l : Nat) (c : Counter) (s : State) : (bumpTimes l c s).wake = s.wake := by
  induction l generalizing s <;> simp_all [bumpTimes]
@[simp] theorem bumpTimes_hold (l : Nat) (c : Counter) (s : State) : (bumpTimes l c s).hold = s.hold := by
  induction l generalizing s <;> simp_all [bumpTimes]
@[simp] theorem bumpTimes_sys (l : Nat) (c : Counter) (s : State) : (bumpTimes l c s).sys = s.sys := by
  induction l generalizing s <;> simp_all [bumpTimes]
@[simp] theorem holdAppend_pending (o : Origin) (f : HeldFrame) (s : State) : ((holdAppend o f s).1).pending = s.pending := by
  simp only [holdAppend]
  repeat' split
  all_goals simp
@[simp] theorem holdAppend_modeCtl (o : Origin) (f : HeldFrame) (s : State) : ((holdAppend o f s).1).modeCtl = s.modeCtl := by
  simp only [holdAppend]
  repeat' split
  all_goals simp
@[simp] theorem holdAppend_linePort (o : Origin) (f : HeldFrame) (s : State) : ((holdAppend o f s).1).linePort = s.linePort := by
  simp only [holdAppend]
  repeat' split
  all_goals simp
@[simp] theorem holdAppend_guardPath (o : Origin) (f : HeldFrame) (s : State) : ((holdAppend o f s).1).guardPath = s.guardPath := by
  simp only [holdAppend]
  repeat' split
  all_goals simp
@[simp] theorem holdAppend_matchTable (o : Origin) (f : HeldFrame) (s : State) : ((holdAppend o f s).1).matchTable = s.matchTable := by
  simp only [holdAppend]
  repeat' split
  all_goals simp
@[simp] theorem holdAppend_identities (o : Origin) (f : HeldFrame) (s : State) : ((holdAppend o f s).1).identities = s.identities := by
  simp only [holdAppend]
  repeat' split
  all_goals simp
@[simp] theorem holdAppend_names (o : Origin) (f : HeldFrame) (s : State) : ((holdAppend o f s).1).names = s.names := by
  simp only [holdAppend]
  repeat' split
  all_goals simp
@[simp] theorem holdAppend_sessions (o : Origin) (f : HeldFrame) (s : State) : ((holdAppend o f s).1).sessions = s.sessions := by
  simp only [holdAppend]
  repeat' split
  all_goals simp
@[simp] theorem holdAppend_probes (o : Origin) (f : HeldFrame) (s : State) : ((holdAppend o f s).1).probes = s.probes := by
  simp only [holdAppend]
  repeat' split
  all_goals simp
@[simp] theorem holdAppend_reply (o : Origin) (f : HeldFrame) (s : State) : ((holdAppend o f s).1).reply = s.reply := by
  simp only [holdAppend]
  repeat' split
  all_goals simp
@[simp] theorem holdAppend_arb (o : Origin) (f : HeldFrame) (s : State) : ((holdAppend o f s).1).arb = s.arb := by
  simp only [holdAppend]
  repeat' split
  all_goals simp
@[simp] theorem holdAppend_bank (o : Origin) (f : HeldFrame) (s : State) : ((holdAppend o f s).1).bank = s.bank := by
  simp only [holdAppend]
  repeat' split
  all_goals simp
@[simp] theorem holdAppend_wake (o : Origin) (f : HeldFrame) (s : State) : ((holdAppend o f s).1).wake = s.wake := by
  simp only [holdAppend]
  repeat' split
  all_goals simp
@[simp] theorem holdAppend_sys (o : Origin) (f : HeldFrame) (s : State) : ((holdAppend o f s).1).sys = s.sys := by
  simp only [holdAppend]
  repeat' split
  all_goals simp
@[simp] theorem fillSlot_pending (i : Nat) (d : SlotDest) (k : ReplyKind) (n : Option Nat) (t : Bool) (b : Frame) (s : State) : (fillSlot i d k n t b s).pending = s.pending := by simp [fillSlot]
@[simp] theorem fillSlot_modeCtl (i : Nat) (d : SlotDest) (k : ReplyKind) (n : Option Nat) (t : Bool) (b : Frame) (s : State) : (fillSlot i d k n t b s).modeCtl = s.modeCtl := by simp [fillSlot]
@[simp] theorem fillSlot_linePort (i : Nat) (d : SlotDest) (k : ReplyKind) (n : Option Nat) (t : Bool) (b : Frame) (s : State) : (fillSlot i d k n t b s).linePort = s.linePort := by simp [fillSlot]
@[simp] theorem fillSlot_guardPath (i : Nat) (d : SlotDest) (k : ReplyKind) (n : Option Nat) (t : Bool) (b : Frame) (s : State) : (fillSlot i d k n t b s).guardPath = s.guardPath := by simp [fillSlot]
@[simp] theorem fillSlot_matchTable (i : Nat) (d : SlotDest) (k : ReplyKind) (n : Option Nat) (t : Bool) (b : Frame) (s : State) : (fillSlot i d k n t b s).matchTable = s.matchTable := by simp [fillSlot]
@[simp] theorem fillSlot_identities (i : Nat) (d : SlotDest) (k : ReplyKind) (n : Option Nat) (t : Bool) (b : Frame) (s : State) : (fillSlot i d k n t b s).identities = s.identities := by simp [fillSlot]
@[simp] theorem fillSlot_names (i : Nat) (d : SlotDest) (k : ReplyKind) (n : Option Nat) (t : Bool) (b : Frame) (s : State) : (fillSlot i d k n t b s).names = s.names := by simp [fillSlot]
@[simp] theorem fillSlot_sessions (i : Nat) (d : SlotDest) (k : ReplyKind) (n : Option Nat) (t : Bool) (b : Frame) (s : State) : (fillSlot i d k n t b s).sessions = s.sessions := by simp [fillSlot]
@[simp] theorem fillSlot_probes (i : Nat) (d : SlotDest) (k : ReplyKind) (n : Option Nat) (t : Bool) (b : Frame) (s : State) : (fillSlot i d k n t b s).probes = s.probes := by simp [fillSlot]
@[simp] theorem fillSlot_arb (i : Nat) (d : SlotDest) (k : ReplyKind) (n : Option Nat) (t : Bool) (b : Frame) (s : State) : (fillSlot i d k n t b s).arb = s.arb := by simp [fillSlot]
@[simp] theorem fillSlot_bank (i : Nat) (d : SlotDest) (k : ReplyKind) (n : Option Nat) (t : Bool) (b : Frame) (s : State) : (fillSlot i d k n t b s).bank = s.bank := by simp [fillSlot]
@[simp] theorem fillSlot_wake (i : Nat) (d : SlotDest) (k : ReplyKind) (n : Option Nat) (t : Bool) (b : Frame) (s : State) : (fillSlot i d k n t b s).wake = s.wake := by simp [fillSlot]
@[simp] theorem fillSlot_hold (i : Nat) (d : SlotDest) (k : ReplyKind) (n : Option Nat) (t : Bool) (b : Frame) (s : State) : (fillSlot i d k n t b s).hold = s.hold := by simp [fillSlot]
@[simp] theorem fillSlot_sys (i : Nat) (d : SlotDest) (k : ReplyKind) (n : Option Nat) (t : Bool) (b : Frame) (s : State) : (fillSlot i d k n t b s).sys = s.sys := by simp [fillSlot]
@[simp] theorem fillSlot_ctl (i : Nat) (d : SlotDest) (k : ReplyKind) (n : Option Nat) (t : Bool) (b : Frame) (s : State) : (fillSlot i d k n t b s).ctl = s.ctl := by simp [fillSlot]
@[simp] theorem buildProbe_pending (slot i : Nat) (s : State) : (buildProbe slot i s).pending = s.pending := by simp [buildProbe]
@[simp] theorem buildProbe_modeCtl (slot i : Nat) (s : State) : (buildProbe slot i s).modeCtl = s.modeCtl := by simp [buildProbe]
@[simp] theorem buildProbe_linePort (slot i : Nat) (s : State) : (buildProbe slot i s).linePort = s.linePort := by simp [buildProbe]
@[simp] theorem buildProbe_guardPath (slot i : Nat) (s : State) : (buildProbe slot i s).guardPath = s.guardPath := by simp [buildProbe]
@[simp] theorem buildProbe_matchTable (slot i : Nat) (s : State) : (buildProbe slot i s).matchTable = s.matchTable := by simp [buildProbe]
@[simp] theorem buildProbe_identities (slot i : Nat) (s : State) : (buildProbe slot i s).identities = s.identities := by simp [buildProbe]
@[simp] theorem buildProbe_names (slot i : Nat) (s : State) : (buildProbe slot i s).names = s.names := by simp [buildProbe]
@[simp] theorem buildProbe_probes (slot i : Nat) (s : State) : (buildProbe slot i s).probes = s.probes := by simp [buildProbe]
@[simp] theorem buildProbe_arb (slot i : Nat) (s : State) : (buildProbe slot i s).arb = s.arb := by simp [buildProbe]
@[simp] theorem buildProbe_bank (slot i : Nat) (s : State) : (buildProbe slot i s).bank = s.bank := by simp [buildProbe]
@[simp] theorem buildProbe_wake (slot i : Nat) (s : State) : (buildProbe slot i s).wake = s.wake := by simp [buildProbe]
@[simp] theorem buildProbe_hold (slot i : Nat) (s : State) : (buildProbe slot i s).hold = s.hold := by simp [buildProbe]
@[simp] theorem buildProbe_sys (slot i : Nat) (s : State) : (buildProbe slot i s).sys = s.sys := by simp [buildProbe]
@[simp] theorem freeAndHandOn_pending (i : Nat) (s : State) : (freeAndHandOn i s).pending = s.pending := by
  simp only [freeAndHandOn, State.setReply_probes]
  split
  all_goals simp
@[simp] theorem freeAndHandOn_modeCtl (i : Nat) (s : State) : (freeAndHandOn i s).modeCtl = s.modeCtl := by
  simp only [freeAndHandOn, State.setReply_probes]
  split
  all_goals simp
@[simp] theorem freeAndHandOn_linePort (i : Nat) (s : State) : (freeAndHandOn i s).linePort = s.linePort := by
  simp only [freeAndHandOn, State.setReply_probes]
  split
  all_goals simp
@[simp] theorem freeAndHandOn_guardPath (i : Nat) (s : State) : (freeAndHandOn i s).guardPath = s.guardPath := by
  simp only [freeAndHandOn, State.setReply_probes]
  split
  all_goals simp
@[simp] theorem freeAndHandOn_matchTable (i : Nat) (s : State) : (freeAndHandOn i s).matchTable = s.matchTable := by
  simp only [freeAndHandOn, State.setReply_probes]
  split
  all_goals simp
@[simp] theorem freeAndHandOn_identities (i : Nat) (s : State) : (freeAndHandOn i s).identities = s.identities := by
  simp only [freeAndHandOn, State.setReply_probes]
  split
  all_goals simp
@[simp] theorem freeAndHandOn_names (i : Nat) (s : State) : (freeAndHandOn i s).names = s.names := by
  simp only [freeAndHandOn, State.setReply_probes]
  split
  all_goals simp
@[simp] theorem freeAndHandOn_arb (i : Nat) (s : State) : (freeAndHandOn i s).arb = s.arb := by
  simp only [freeAndHandOn, State.setReply_probes]
  split
  all_goals simp
@[simp] theorem freeAndHandOn_bank (i : Nat) (s : State) : (freeAndHandOn i s).bank = s.bank := by
  simp only [freeAndHandOn, State.setReply_probes]
  split
  all_goals simp
@[simp] theorem freeAndHandOn_wake (i : Nat) (s : State) : (freeAndHandOn i s).wake = s.wake := by
  simp only [freeAndHandOn, State.setReply_probes]
  split
  all_goals simp
@[simp] theorem freeAndHandOn_hold (i : Nat) (s : State) : (freeAndHandOn i s).hold = s.hold := by
  simp only [freeAndHandOn, State.setReply_probes]
  split
  all_goals simp
@[simp] theorem freeAndHandOn_sys (i : Nat) (s : State) : (freeAndHandOn i s).sys = s.sys := by
  simp only [freeAndHandOn, State.setReply_probes]
  split
  all_goals simp
@[simp] theorem freeAllAndHandOn_pending (l : List Nat) (s : State) : (freeAllAndHandOn l s).pending = s.pending := by
  induction l generalizing s <;> simp_all [freeAllAndHandOn]
@[simp] theorem freeAllAndHandOn_modeCtl (l : List Nat) (s : State) : (freeAllAndHandOn l s).modeCtl = s.modeCtl := by
  induction l generalizing s <;> simp_all [freeAllAndHandOn]
@[simp] theorem freeAllAndHandOn_linePort (l : List Nat) (s : State) : (freeAllAndHandOn l s).linePort = s.linePort := by
  induction l generalizing s <;> simp_all [freeAllAndHandOn]
@[simp] theorem freeAllAndHandOn_guardPath (l : List Nat) (s : State) : (freeAllAndHandOn l s).guardPath = s.guardPath := by
  induction l generalizing s <;> simp_all [freeAllAndHandOn]
@[simp] theorem freeAllAndHandOn_matchTable (l : List Nat) (s : State) : (freeAllAndHandOn l s).matchTable = s.matchTable := by
  induction l generalizing s <;> simp_all [freeAllAndHandOn]
@[simp] theorem freeAllAndHandOn_identities (l : List Nat) (s : State) : (freeAllAndHandOn l s).identities = s.identities := by
  induction l generalizing s <;> simp_all [freeAllAndHandOn]
@[simp] theorem freeAllAndHandOn_names (l : List Nat) (s : State) : (freeAllAndHandOn l s).names = s.names := by
  induction l generalizing s <;> simp_all [freeAllAndHandOn]
@[simp] theorem freeAllAndHandOn_arb (l : List Nat) (s : State) : (freeAllAndHandOn l s).arb = s.arb := by
  induction l generalizing s <;> simp_all [freeAllAndHandOn]
@[simp] theorem freeAllAndHandOn_bank (l : List Nat) (s : State) : (freeAllAndHandOn l s).bank = s.bank := by
  induction l generalizing s <;> simp_all [freeAllAndHandOn]
@[simp] theorem freeAllAndHandOn_wake (l : List Nat) (s : State) : (freeAllAndHandOn l s).wake = s.wake := by
  induction l generalizing s <;> simp_all [freeAllAndHandOn]
@[simp] theorem freeAllAndHandOn_hold (l : List Nat) (s : State) : (freeAllAndHandOn l s).hold = s.hold := by
  induction l generalizing s <;> simp_all [freeAllAndHandOn]
@[simp] theorem freeAllAndHandOn_sys (l : List Nat) (s : State) : (freeAllAndHandOn l s).sys = s.sys := by
  induction l generalizing s <;> simp_all [freeAllAndHandOn]
@[simp] theorem countDiscarded_pending (l : List Nat) (s : State) : (countDiscarded l s).pending = s.pending := by
  induction l generalizing s <;> simp_all [countDiscarded]
@[simp] theorem countDiscarded_modeCtl (l : List Nat) (s : State) : (countDiscarded l s).modeCtl = s.modeCtl := by
  induction l generalizing s <;> simp_all [countDiscarded]
@[simp] theorem countDiscarded_linePort (l : List Nat) (s : State) : (countDiscarded l s).linePort = s.linePort := by
  induction l generalizing s <;> simp_all [countDiscarded]
@[simp] theorem countDiscarded_guardPath (l : List Nat) (s : State) : (countDiscarded l s).guardPath = s.guardPath := by
  induction l generalizing s <;> simp_all [countDiscarded]
@[simp] theorem countDiscarded_matchTable (l : List Nat) (s : State) : (countDiscarded l s).matchTable = s.matchTable := by
  induction l generalizing s <;> simp_all [countDiscarded]
@[simp] theorem countDiscarded_identities (l : List Nat) (s : State) : (countDiscarded l s).identities = s.identities := by
  induction l generalizing s <;> simp_all [countDiscarded]
@[simp] theorem countDiscarded_names (l : List Nat) (s : State) : (countDiscarded l s).names = s.names := by
  induction l generalizing s <;> simp_all [countDiscarded]
@[simp] theorem countDiscarded_sessions (l : List Nat) (s : State) : (countDiscarded l s).sessions = s.sessions := by
  induction l generalizing s <;> simp_all [countDiscarded]
@[simp] theorem countDiscarded_probes (l : List Nat) (s : State) : (countDiscarded l s).probes = s.probes := by
  induction l generalizing s <;> simp_all [countDiscarded]
@[simp] theorem countDiscarded_reply (l : List Nat) (s : State) : (countDiscarded l s).reply = s.reply := by
  induction l generalizing s <;> simp_all [countDiscarded]
@[simp] theorem countDiscarded_arb (l : List Nat) (s : State) : (countDiscarded l s).arb = s.arb := by
  induction l generalizing s <;> simp_all [countDiscarded]
@[simp] theorem countDiscarded_bank (l : List Nat) (s : State) : (countDiscarded l s).bank = s.bank := by
  induction l generalizing s <;> simp_all [countDiscarded]
@[simp] theorem countDiscarded_wake (l : List Nat) (s : State) : (countDiscarded l s).wake = s.wake := by
  induction l generalizing s <;> simp_all [countDiscarded]
@[simp] theorem countDiscarded_hold (l : List Nat) (s : State) : (countDiscarded l s).hold = s.hold := by
  induction l generalizing s <;> simp_all [countDiscarded]
@[simp] theorem countDiscarded_sys (l : List Nat) (s : State) : (countDiscarded l s).sys = s.sys := by
  induction l generalizing s <;> simp_all [countDiscarded]
@[simp] theorem discardLineReplies_pending (s : State) : (discardLineReplies s).pending = s.pending := by simp [discardLineReplies]
@[simp] theorem discardLineReplies_modeCtl (s : State) : (discardLineReplies s).modeCtl = s.modeCtl := by simp [discardLineReplies]
@[simp] theorem discardLineReplies_linePort (s : State) : (discardLineReplies s).linePort = s.linePort := by simp [discardLineReplies]
@[simp] theorem discardLineReplies_guardPath (s : State) : (discardLineReplies s).guardPath = s.guardPath := by simp [discardLineReplies]
@[simp] theorem discardLineReplies_matchTable (s : State) : (discardLineReplies s).matchTable = s.matchTable := by simp [discardLineReplies]
@[simp] theorem discardLineReplies_identities (s : State) : (discardLineReplies s).identities = s.identities := by simp [discardLineReplies]
@[simp] theorem discardLineReplies_names (s : State) : (discardLineReplies s).names = s.names := by simp [discardLineReplies]
@[simp] theorem discardLineReplies_arb (s : State) : (discardLineReplies s).arb = s.arb := by simp [discardLineReplies]
@[simp] theorem discardLineReplies_bank (s : State) : (discardLineReplies s).bank = s.bank := by simp [discardLineReplies]
@[simp] theorem discardLineReplies_wake (s : State) : (discardLineReplies s).wake = s.wake := by simp [discardLineReplies]
@[simp] theorem discardLineReplies_hold (s : State) : (discardLineReplies s).hold = s.hold := by simp [discardLineReplies]
@[simp] theorem discardLineReplies_sys (s : State) : (discardLineReplies s).sys = s.sys := by simp [discardLineReplies]
@[simp] theorem probeDue_pending (i : Nat) (s : State) : (probeDue i s).pending = s.pending := by
  unfold probeDue
  repeat' split
  all_goals simp_all
@[simp] theorem probeDue_modeCtl (i : Nat) (s : State) : (probeDue i s).modeCtl = s.modeCtl := by
  unfold probeDue
  repeat' split
  all_goals simp_all
@[simp] theorem probeDue_linePort (i : Nat) (s : State) : (probeDue i s).linePort = s.linePort := by
  unfold probeDue
  repeat' split
  all_goals simp_all
@[simp] theorem probeDue_guardPath (i : Nat) (s : State) : (probeDue i s).guardPath = s.guardPath := by
  unfold probeDue
  repeat' split
  all_goals simp_all
@[simp] theorem probeDue_matchTable (i : Nat) (s : State) : (probeDue i s).matchTable = s.matchTable := by
  unfold probeDue
  repeat' split
  all_goals simp_all
@[simp] theorem probeDue_identities (i : Nat) (s : State) : (probeDue i s).identities = s.identities := by
  unfold probeDue
  repeat' split
  all_goals simp_all
@[simp] theorem probeDue_names (i : Nat) (s : State) : (probeDue i s).names = s.names := by
  unfold probeDue
  repeat' split
  all_goals simp_all
@[simp] theorem probeDue_arb (i : Nat) (s : State) : (probeDue i s).arb = s.arb := by
  unfold probeDue
  repeat' split
  all_goals simp_all
@[simp] theorem probeDue_bank (i : Nat) (s : State) : (probeDue i s).bank = s.bank := by
  unfold probeDue
  repeat' split
  all_goals simp_all
@[simp] theorem probeDue_wake (i : Nat) (s : State) : (probeDue i s).wake = s.wake := by
  unfold probeDue
  repeat' split
  all_goals simp_all
@[simp] theorem probeDue_hold (i : Nat) (s : State) : (probeDue i s).hold = s.hold := by
  unfold probeDue
  repeat' split
  all_goals simp_all
@[simp] theorem probeDue_sys (i : Nat) (s : State) : (probeDue i s).sys = s.sys := by
  unfold probeDue
  repeat' split
  all_goals simp_all
@[simp] theorem leaveRunning_pending (i : Nat) (newState : SessionState) (s : State) : (leaveRunning i newState s).pending = s.pending := by simp [leaveRunning]
@[simp] theorem leaveRunning_modeCtl (i : Nat) (newState : SessionState) (s : State) : (leaveRunning i newState s).modeCtl = s.modeCtl := by simp [leaveRunning]
@[simp] theorem leaveRunning_linePort (i : Nat) (newState : SessionState) (s : State) : (leaveRunning i newState s).linePort = s.linePort := by simp [leaveRunning]
@[simp] theorem leaveRunning_guardPath (i : Nat) (newState : SessionState) (s : State) : (leaveRunning i newState s).guardPath = s.guardPath := by simp [leaveRunning]
@[simp] theorem leaveRunning_matchTable (i : Nat) (newState : SessionState) (s : State) : (leaveRunning i newState s).matchTable = s.matchTable := by simp [leaveRunning]
@[simp] theorem leaveRunning_identities (i : Nat) (newState : SessionState) (s : State) : (leaveRunning i newState s).identities = s.identities := by simp [leaveRunning]
@[simp] theorem leaveRunning_names (i : Nat) (newState : SessionState) (s : State) : (leaveRunning i newState s).names = s.names := by simp [leaveRunning]
@[simp] theorem leaveRunning_reply (i : Nat) (newState : SessionState) (s : State) : (leaveRunning i newState s).reply = s.reply := by simp [leaveRunning]
@[simp] theorem leaveRunning_arb (i : Nat) (newState : SessionState) (s : State) : (leaveRunning i newState s).arb = s.arb := by simp [leaveRunning]
@[simp] theorem leaveRunning_wake (i : Nat) (newState : SessionState) (s : State) : (leaveRunning i newState s).wake = s.wake := by simp [leaveRunning]
@[simp] theorem leaveRunning_hold (i : Nat) (newState : SessionState) (s : State) : (leaveRunning i newState s).hold = s.hold := by simp [leaveRunning]
@[simp] theorem leaveRunning_sys (i : Nat) (newState : SessionState) (s : State) : (leaveRunning i newState s).sys = s.sys := by simp [leaveRunning]
@[simp] theorem leaveRunning_ctl (i : Nat) (newState : SessionState) (s : State) : (leaveRunning i newState s).ctl = s.ctl := by simp [leaveRunning]
@[simp] theorem leaveRunningAll_pending (l : List Nat) (newState : SessionState) (s : State) : (leaveRunningAll newState l s).pending = s.pending := by
  induction l generalizing s <;> simp_all [leaveRunningAll]
@[simp] theorem leaveRunningAll_modeCtl (l : List Nat) (newState : SessionState) (s : State) : (leaveRunningAll newState l s).modeCtl = s.modeCtl := by
  induction l generalizing s <;> simp_all [leaveRunningAll]
@[simp] theorem leaveRunningAll_linePort (l : List Nat) (newState : SessionState) (s : State) : (leaveRunningAll newState l s).linePort = s.linePort := by
  induction l generalizing s <;> simp_all [leaveRunningAll]
@[simp] theorem leaveRunningAll_guardPath (l : List Nat) (newState : SessionState) (s : State) : (leaveRunningAll newState l s).guardPath = s.guardPath := by
  induction l generalizing s <;> simp_all [leaveRunningAll]
@[simp] theorem leaveRunningAll_matchTable (l : List Nat) (newState : SessionState) (s : State) : (leaveRunningAll newState l s).matchTable = s.matchTable := by
  induction l generalizing s <;> simp_all [leaveRunningAll]
@[simp] theorem leaveRunningAll_identities (l : List Nat) (newState : SessionState) (s : State) : (leaveRunningAll newState l s).identities = s.identities := by
  induction l generalizing s <;> simp_all [leaveRunningAll]
@[simp] theorem leaveRunningAll_names (l : List Nat) (newState : SessionState) (s : State) : (leaveRunningAll newState l s).names = s.names := by
  induction l generalizing s <;> simp_all [leaveRunningAll]
@[simp] theorem leaveRunningAll_reply (l : List Nat) (newState : SessionState) (s : State) : (leaveRunningAll newState l s).reply = s.reply := by
  induction l generalizing s <;> simp_all [leaveRunningAll]
@[simp] theorem leaveRunningAll_arb (l : List Nat) (newState : SessionState) (s : State) : (leaveRunningAll newState l s).arb = s.arb := by
  induction l generalizing s <;> simp_all [leaveRunningAll]
@[simp] theorem leaveRunningAll_wake (l : List Nat) (newState : SessionState) (s : State) : (leaveRunningAll newState l s).wake = s.wake := by
  induction l generalizing s <;> simp_all [leaveRunningAll]
@[simp] theorem leaveRunningAll_hold (l : List Nat) (newState : SessionState) (s : State) : (leaveRunningAll newState l s).hold = s.hold := by
  induction l generalizing s <;> simp_all [leaveRunningAll]
@[simp] theorem leaveRunningAll_sys (l : List Nat) (newState : SessionState) (s : State) : (leaveRunningAll newState l s).sys = s.sys := by
  induction l generalizing s <;> simp_all [leaveRunningAll]
@[simp] theorem leaveRunningAll_ctl (l : List Nat) (newState : SessionState) (s : State) : (leaveRunningAll newState l s).ctl = s.ctl := by
  induction l generalizing s <;> simp_all [leaveRunningAll]
@[simp] theorem detachIdentity_pending (id : Nat) (s : State) : (detachIdentity id s).pending = s.pending := by simp [detachIdentity]
@[simp] theorem detachIdentity_modeCtl (id : Nat) (s : State) : (detachIdentity id s).modeCtl = s.modeCtl := by simp [detachIdentity]
@[simp] theorem detachIdentity_linePort (id : Nat) (s : State) : (detachIdentity id s).linePort = s.linePort := by simp [detachIdentity]
@[simp] theorem detachIdentity_guardPath (id : Nat) (s : State) : (detachIdentity id s).guardPath = s.guardPath := by simp [detachIdentity]
@[simp] theorem detachIdentity_matchTable (id : Nat) (s : State) : (detachIdentity id s).matchTable = s.matchTable := by simp [detachIdentity]
@[simp] theorem detachIdentity_identities (id : Nat) (s : State) : (detachIdentity id s).identities = s.identities := by simp [detachIdentity]
@[simp] theorem detachIdentity_names (id : Nat) (s : State) : (detachIdentity id s).names = s.names := by simp [detachIdentity]
@[simp] theorem detachIdentity_reply (id : Nat) (s : State) : (detachIdentity id s).reply = s.reply := by simp [detachIdentity]
@[simp] theorem detachIdentity_arb (id : Nat) (s : State) : (detachIdentity id s).arb = s.arb := by simp [detachIdentity]
@[simp] theorem detachIdentity_wake (id : Nat) (s : State) : (detachIdentity id s).wake = s.wake := by simp [detachIdentity]
@[simp] theorem detachIdentity_hold (id : Nat) (s : State) : (detachIdentity id s).hold = s.hold := by simp [detachIdentity]
@[simp] theorem detachIdentity_sys (id : Nat) (s : State) : (detachIdentity id s).sys = s.sys := by simp [detachIdentity]
@[simp] theorem detachIdentity_ctl (id : Nat) (s : State) : (detachIdentity id s).ctl = s.ctl := by simp [detachIdentity]
@[simp] theorem inspectOutbound_pending (b : Frame) (s : State) : (inspectOutbound b s).pending = s.pending := by
  simp only [inspectOutbound]
  repeat' split
  all_goals simp
@[simp] theorem inspectOutbound_modeCtl (b : Frame) (s : State) : (inspectOutbound b s).modeCtl = s.modeCtl := by
  simp only [inspectOutbound]
  repeat' split
  all_goals simp
@[simp] theorem inspectOutbound_linePort (b : Frame) (s : State) : (inspectOutbound b s).linePort = s.linePort := by
  simp only [inspectOutbound]
  repeat' split
  all_goals simp
@[simp] theorem inspectOutbound_guardPath (b : Frame) (s : State) : (inspectOutbound b s).guardPath = s.guardPath := by
  simp only [inspectOutbound]
  repeat' split
  all_goals simp
@[simp] theorem inspectOutbound_matchTable (b : Frame) (s : State) : (inspectOutbound b s).matchTable = s.matchTable := by
  simp only [inspectOutbound]
  repeat' split
  all_goals simp
@[simp] theorem inspectOutbound_identities (b : Frame) (s : State) : (inspectOutbound b s).identities = s.identities := by
  simp only [inspectOutbound]
  repeat' split
  all_goals simp
@[simp] theorem inspectOutbound_names (b : Frame) (s : State) : (inspectOutbound b s).names = s.names := by
  simp only [inspectOutbound]
  repeat' split
  all_goals simp
@[simp] theorem inspectOutbound_reply (b : Frame) (s : State) : (inspectOutbound b s).reply = s.reply := by
  simp only [inspectOutbound]
  repeat' split
  all_goals simp
@[simp] theorem inspectOutbound_arb (b : Frame) (s : State) : (inspectOutbound b s).arb = s.arb := by
  simp only [inspectOutbound]
  repeat' split
  all_goals simp
@[simp] theorem inspectOutbound_wake (b : Frame) (s : State) : (inspectOutbound b s).wake = s.wake := by
  simp only [inspectOutbound]
  repeat' split
  all_goals simp
@[simp] theorem inspectOutbound_hold (b : Frame) (s : State) : (inspectOutbound b s).hold = s.hold := by
  simp only [inspectOutbound]
  repeat' split
  all_goals simp
@[simp] theorem inspectOutbound_sys (b : Frame) (s : State) : (inspectOutbound b s).sys = s.sys := by
  simp only [inspectOutbound]
  repeat' split
  all_goals simp
@[simp] theorem inspectOutbound_ctl (b : Frame) (s : State) : (inspectOutbound b s).ctl = s.ctl := by
  simp only [inspectOutbound]
  repeat' split
  all_goals simp
@[simp] theorem expiryAlive_pending (i : Nat) (b : Bool) (s : State) : (expiryAlive i b s).pending = s.pending := by
  simp only [expiryAlive]
  repeat' split
  all_goals simp
@[simp] theorem expiryAlive_modeCtl (i : Nat) (b : Bool) (s : State) : (expiryAlive i b s).modeCtl = s.modeCtl := by
  simp only [expiryAlive]
  repeat' split
  all_goals simp
@[simp] theorem expiryAlive_linePort (i : Nat) (b : Bool) (s : State) : (expiryAlive i b s).linePort = s.linePort := by
  simp only [expiryAlive]
  repeat' split
  all_goals simp
@[simp] theorem expiryAlive_guardPath (i : Nat) (b : Bool) (s : State) : (expiryAlive i b s).guardPath = s.guardPath := by
  simp only [expiryAlive]
  repeat' split
  all_goals simp
@[simp] theorem expiryAlive_matchTable (i : Nat) (b : Bool) (s : State) : (expiryAlive i b s).matchTable = s.matchTable := by
  simp only [expiryAlive]
  repeat' split
  all_goals simp
@[simp] theorem expiryAlive_identities (i : Nat) (b : Bool) (s : State) : (expiryAlive i b s).identities = s.identities := by
  simp only [expiryAlive]
  repeat' split
  all_goals simp
@[simp] theorem expiryAlive_names (i : Nat) (b : Bool) (s : State) : (expiryAlive i b s).names = s.names := by
  simp only [expiryAlive]
  repeat' split
  all_goals simp
@[simp] theorem expiryAlive_arb (i : Nat) (b : Bool) (s : State) : (expiryAlive i b s).arb = s.arb := by
  simp only [expiryAlive]
  repeat' split
  all_goals simp
@[simp] theorem expiryAlive_wake (i : Nat) (b : Bool) (s : State) : (expiryAlive i b s).wake = s.wake := by
  simp only [expiryAlive]
  repeat' split
  all_goals simp
@[simp] theorem expiryAlive_hold (i : Nat) (b : Bool) (s : State) : (expiryAlive i b s).hold = s.hold := by
  simp only [expiryAlive]
  repeat' split
  all_goals simp
@[simp] theorem expiryAlive_sys (i : Nat) (b : Bool) (s : State) : (expiryAlive i b s).sys = s.sys := by
  simp only [expiryAlive]
  repeat' split
  all_goals simp
@[simp] theorem expiryProbing_pending (i : Nat) (s : State) : (expiryProbing i s).pending = s.pending := by
  simp only [expiryProbing]
  repeat' split
  all_goals simp
@[simp] theorem expiryProbing_modeCtl (i : Nat) (s : State) : (expiryProbing i s).modeCtl = s.modeCtl := by
  simp only [expiryProbing]
  repeat' split
  all_goals simp
@[simp] theorem expiryProbing_linePort (i : Nat) (s : State) : (expiryProbing i s).linePort = s.linePort := by
  simp only [expiryProbing]
  repeat' split
  all_goals simp
@[simp] theorem expiryProbing_guardPath (i : Nat) (s : State) : (expiryProbing i s).guardPath = s.guardPath := by
  simp only [expiryProbing]
  repeat' split
  all_goals simp
@[simp] theorem expiryProbing_matchTable (i : Nat) (s : State) : (expiryProbing i s).matchTable = s.matchTable := by
  simp only [expiryProbing]
  repeat' split
  all_goals simp
@[simp] theorem expiryProbing_identities (i : Nat) (s : State) : (expiryProbing i s).identities = s.identities := by
  simp only [expiryProbing]
  repeat' split
  all_goals simp
@[simp] theorem expiryProbing_names (i : Nat) (s : State) : (expiryProbing i s).names = s.names := by
  simp only [expiryProbing]
  repeat' split
  all_goals simp
@[simp] theorem expiryProbing_arb (i : Nat) (s : State) : (expiryProbing i s).arb = s.arb := by
  simp only [expiryProbing]
  repeat' split
  all_goals simp
@[simp] theorem expiryProbing_hold (i : Nat) (s : State) : (expiryProbing i s).hold = s.hold := by
  simp only [expiryProbing]
  repeat' split
  all_goals simp
@[simp] theorem expiryProbing_sys (i : Nat) (s : State) : (expiryProbing i s).sys = s.sys := by
  simp only [expiryProbing]
  repeat' split
  all_goals simp
@[simp] theorem windowEndInGap_pending (s : State) : (windowEndInGap s).pending = s.pending := by
  simp only [windowEndInGap]
  repeat' split
  all_goals simp
@[simp] theorem windowEndInGap_linePort (s : State) : (windowEndInGap s).linePort = s.linePort := by
  simp only [windowEndInGap]
  repeat' split
  all_goals simp
@[simp] theorem windowEndInGap_guardPath (s : State) : (windowEndInGap s).guardPath = s.guardPath := by
  simp only [windowEndInGap]
  repeat' split
  all_goals simp
@[simp] theorem windowEndInGap_matchTable (s : State) : (windowEndInGap s).matchTable = s.matchTable := by
  simp only [windowEndInGap]
  repeat' split
  all_goals simp
@[simp] theorem windowEndInGap_identities (s : State) : (windowEndInGap s).identities = s.identities := by
  simp only [windowEndInGap]
  repeat' split
  all_goals simp
@[simp] theorem windowEndInGap_names (s : State) : (windowEndInGap s).names = s.names := by
  simp only [windowEndInGap]
  repeat' split
  all_goals simp
@[simp] theorem windowEndInGap_sessions (s : State) : (windowEndInGap s).sessions = s.sessions := by
  simp only [windowEndInGap]
  repeat' split
  all_goals simp
@[simp] theorem windowEndInGap_probes (s : State) : (windowEndInGap s).probes = s.probes := by
  simp only [windowEndInGap]
  repeat' split
  all_goals simp
@[simp] theorem windowEndInGap_reply (s : State) : (windowEndInGap s).reply = s.reply := by
  simp only [windowEndInGap]
  repeat' split
  all_goals simp
@[simp] theorem windowEndInGap_arb (s : State) : (windowEndInGap s).arb = s.arb := by
  simp only [windowEndInGap]
  repeat' split
  all_goals simp
@[simp] theorem windowEndInGap_bank (s : State) : (windowEndInGap s).bank = s.bank := by
  simp only [windowEndInGap]
  repeat' split
  all_goals simp
@[simp] theorem windowEndInGap_wake (s : State) : (windowEndInGap s).wake = s.wake := by
  simp only [windowEndInGap]
  repeat' split
  all_goals simp
@[simp] theorem windowEndInGap_hold (s : State) : (windowEndInGap s).hold = s.hold := by
  simp only [windowEndInGap]
  repeat' split
  all_goals simp
@[simp] theorem windowEndInGap_sys (s : State) : (windowEndInGap s).sys = s.sys := by
  simp only [windowEndInGap]
  repeat' split
  all_goals simp
@[simp] theorem pulseEnd_pending (s : State) : (pulseEnd s).pending = s.pending := by
  simp only [pulseEnd]
  repeat' split
  all_goals simp
@[simp] theorem pulseEnd_linePort (s : State) : (pulseEnd s).linePort = s.linePort := by
  simp only [pulseEnd]
  repeat' split
  all_goals simp
@[simp] theorem pulseEnd_guardPath (s : State) : (pulseEnd s).guardPath = s.guardPath := by
  simp only [pulseEnd]
  repeat' split
  all_goals simp
@[simp] theorem pulseEnd_matchTable (s : State) : (pulseEnd s).matchTable = s.matchTable := by
  simp only [pulseEnd]
  repeat' split
  all_goals simp
@[simp] theorem pulseEnd_identities (s : State) : (pulseEnd s).identities = s.identities := by
  simp only [pulseEnd]
  repeat' split
  all_goals simp
@[simp] theorem pulseEnd_names (s : State) : (pulseEnd s).names = s.names := by
  simp only [pulseEnd]
  repeat' split
  all_goals simp
@[simp] theorem pulseEnd_sessions (s : State) : (pulseEnd s).sessions = s.sessions := by
  simp only [pulseEnd]
  repeat' split
  all_goals simp
@[simp] theorem pulseEnd_probes (s : State) : (pulseEnd s).probes = s.probes := by
  simp only [pulseEnd]
  repeat' split
  all_goals simp
@[simp] theorem pulseEnd_reply (s : State) : (pulseEnd s).reply = s.reply := by
  simp only [pulseEnd]
  repeat' split
  all_goals simp
@[simp] theorem pulseEnd_arb (s : State) : (pulseEnd s).arb = s.arb := by
  simp only [pulseEnd]
  repeat' split
  all_goals simp
@[simp] theorem pulseEnd_bank (s : State) : (pulseEnd s).bank = s.bank := by
  simp only [pulseEnd]
  repeat' split
  all_goals simp
@[simp] theorem pulseEnd_wake (s : State) : (pulseEnd s).wake = s.wake := by
  simp only [pulseEnd]
  repeat' split
  all_goals simp
@[simp] theorem pulseEnd_hold (s : State) : (pulseEnd s).hold = s.hold := by
  simp only [pulseEnd]
  repeat' split
  all_goals simp
@[simp] theorem pulseEnd_sys (s : State) : (pulseEnd s).sys = s.sys := by
  simp only [pulseEnd]
  repeat' split
  all_goals simp
@[simp] theorem resumeWindowEnd_pending (s : State) : (resumeWindowEnd s).pending = s.pending := by
  simp only [resumeWindowEnd]
  repeat' split
  all_goals simp
@[simp] theorem resumeWindowEnd_linePort (s : State) : (resumeWindowEnd s).linePort = s.linePort := by
  simp only [resumeWindowEnd]
  repeat' split
  all_goals simp
@[simp] theorem resumeWindowEnd_guardPath (s : State) : (resumeWindowEnd s).guardPath = s.guardPath := by
  simp only [resumeWindowEnd]
  repeat' split
  all_goals simp
@[simp] theorem resumeWindowEnd_matchTable (s : State) : (resumeWindowEnd s).matchTable = s.matchTable := by
  simp only [resumeWindowEnd]
  repeat' split
  all_goals simp
@[simp] theorem resumeWindowEnd_identities (s : State) : (resumeWindowEnd s).identities = s.identities := by
  simp only [resumeWindowEnd]
  repeat' split
  all_goals simp
@[simp] theorem resumeWindowEnd_names (s : State) : (resumeWindowEnd s).names = s.names := by
  simp only [resumeWindowEnd]
  repeat' split
  all_goals simp
@[simp] theorem resumeWindowEnd_sessions (s : State) : (resumeWindowEnd s).sessions = s.sessions := by
  simp only [resumeWindowEnd]
  repeat' split
  all_goals simp
@[simp] theorem resumeWindowEnd_probes (s : State) : (resumeWindowEnd s).probes = s.probes := by
  simp only [resumeWindowEnd]
  repeat' split
  all_goals simp
@[simp] theorem resumeWindowEnd_reply (s : State) : (resumeWindowEnd s).reply = s.reply := by
  simp only [resumeWindowEnd]
  repeat' split
  all_goals simp
@[simp] theorem resumeWindowEnd_arb (s : State) : (resumeWindowEnd s).arb = s.arb := by
  simp only [resumeWindowEnd]
  repeat' split
  all_goals simp
@[simp] theorem resumeWindowEnd_bank (s : State) : (resumeWindowEnd s).bank = s.bank := by
  simp only [resumeWindowEnd]
  repeat' split
  all_goals simp
@[simp] theorem resumeWindowEnd_wake (s : State) : (resumeWindowEnd s).wake = s.wake := by
  simp only [resumeWindowEnd]
  repeat' split
  all_goals simp
@[simp] theorem resumeWindowEnd_hold (s : State) : (resumeWindowEnd s).hold = s.hold := by
  simp only [resumeWindowEnd]
  repeat' split
  all_goals simp
@[simp] theorem resumeWindowEnd_sys (s : State) : (resumeWindowEnd s).sys = s.sys := by
  simp only [resumeWindowEnd]
  repeat' split
  all_goals simp
@[simp] theorem assertWake_pending (cls : Nat) (k : WakeCause) (n : Nat) (f : Option HeldFrame) (s : State) : (assertWake cls k n f s).pending = s.pending := by
  unfold assertWake
  repeat' split
  all_goals simp_all
@[simp] theorem assertWake_linePort (cls : Nat) (k : WakeCause) (n : Nat) (f : Option HeldFrame) (s : State) : (assertWake cls k n f s).linePort = s.linePort := by
  unfold assertWake
  repeat' split
  all_goals simp_all
@[simp] theorem assertWake_guardPath (cls : Nat) (k : WakeCause) (n : Nat) (f : Option HeldFrame) (s : State) : (assertWake cls k n f s).guardPath = s.guardPath := by
  unfold assertWake
  repeat' split
  all_goals simp_all
@[simp] theorem assertWake_matchTable (cls : Nat) (k : WakeCause) (n : Nat) (f : Option HeldFrame) (s : State) : (assertWake cls k n f s).matchTable = s.matchTable := by
  unfold assertWake
  repeat' split
  all_goals simp_all
@[simp] theorem assertWake_identities (cls : Nat) (k : WakeCause) (n : Nat) (f : Option HeldFrame) (s : State) : (assertWake cls k n f s).identities = s.identities := by
  unfold assertWake
  repeat' split
  all_goals simp_all
@[simp] theorem assertWake_names (cls : Nat) (k : WakeCause) (n : Nat) (f : Option HeldFrame) (s : State) : (assertWake cls k n f s).names = s.names := by
  unfold assertWake
  repeat' split
  all_goals simp_all
@[simp] theorem assertWake_sessions (cls : Nat) (k : WakeCause) (n : Nat) (f : Option HeldFrame) (s : State) : (assertWake cls k n f s).sessions = s.sessions := by
  unfold assertWake
  repeat' split
  all_goals simp_all
@[simp] theorem assertWake_probes (cls : Nat) (k : WakeCause) (n : Nat) (f : Option HeldFrame) (s : State) : (assertWake cls k n f s).probes = s.probes := by
  unfold assertWake
  repeat' split
  all_goals simp_all
@[simp] theorem assertWake_reply (cls : Nat) (k : WakeCause) (n : Nat) (f : Option HeldFrame) (s : State) : (assertWake cls k n f s).reply = s.reply := by
  unfold assertWake
  repeat' split
  all_goals simp_all
@[simp] theorem assertWake_arb (cls : Nat) (k : WakeCause) (n : Nat) (f : Option HeldFrame) (s : State) : (assertWake cls k n f s).arb = s.arb := by
  unfold assertWake
  repeat' split
  all_goals simp_all
@[simp] theorem assertWake_bank (cls : Nat) (k : WakeCause) (n : Nat) (f : Option HeldFrame) (s : State) : (assertWake cls k n f s).bank = s.bank := by
  unfold assertWake
  repeat' split
  all_goals simp_all
@[simp] theorem assertWake_sys (cls : Nat) (k : WakeCause) (n : Nat) (f : Option HeldFrame) (s : State) : (assertWake cls k n f s).sys = s.sys := by
  unfold assertWake
  repeat' split
  all_goals simp_all
@[simp] theorem holdRequestFrame_pending (o : Origin) (r : WakeRequest) (s : State) : (holdRequestFrame o r s).pending = s.pending := by
  unfold holdRequestFrame
  repeat' split
  all_goals simp_all
@[simp] theorem holdRequestFrame_modeCtl (o : Origin) (r : WakeRequest) (s : State) : (holdRequestFrame o r s).modeCtl = s.modeCtl := by
  unfold holdRequestFrame
  repeat' split
  all_goals simp_all
@[simp] theorem holdRequestFrame_linePort (o : Origin) (r : WakeRequest) (s : State) : (holdRequestFrame o r s).linePort = s.linePort := by
  unfold holdRequestFrame
  repeat' split
  all_goals simp_all
@[simp] theorem holdRequestFrame_guardPath (o : Origin) (r : WakeRequest) (s : State) : (holdRequestFrame o r s).guardPath = s.guardPath := by
  unfold holdRequestFrame
  repeat' split
  all_goals simp_all
@[simp] theorem holdRequestFrame_matchTable (o : Origin) (r : WakeRequest) (s : State) : (holdRequestFrame o r s).matchTable = s.matchTable := by
  unfold holdRequestFrame
  repeat' split
  all_goals simp_all
@[simp] theorem holdRequestFrame_identities (o : Origin) (r : WakeRequest) (s : State) : (holdRequestFrame o r s).identities = s.identities := by
  unfold holdRequestFrame
  repeat' split
  all_goals simp_all
@[simp] theorem holdRequestFrame_names (o : Origin) (r : WakeRequest) (s : State) : (holdRequestFrame o r s).names = s.names := by
  unfold holdRequestFrame
  repeat' split
  all_goals simp_all
@[simp] theorem holdRequestFrame_sessions (o : Origin) (r : WakeRequest) (s : State) : (holdRequestFrame o r s).sessions = s.sessions := by
  unfold holdRequestFrame
  repeat' split
  all_goals simp_all
@[simp] theorem holdRequestFrame_probes (o : Origin) (r : WakeRequest) (s : State) : (holdRequestFrame o r s).probes = s.probes := by
  unfold holdRequestFrame
  repeat' split
  all_goals simp_all
@[simp] theorem holdRequestFrame_reply (o : Origin) (r : WakeRequest) (s : State) : (holdRequestFrame o r s).reply = s.reply := by
  unfold holdRequestFrame
  repeat' split
  all_goals simp_all
@[simp] theorem holdRequestFrame_arb (o : Origin) (r : WakeRequest) (s : State) : (holdRequestFrame o r s).arb = s.arb := by
  unfold holdRequestFrame
  repeat' split
  all_goals simp_all
@[simp] theorem holdRequestFrame_bank (o : Origin) (r : WakeRequest) (s : State) : (holdRequestFrame o r s).bank = s.bank := by
  unfold holdRequestFrame
  repeat' split
  all_goals simp_all
@[simp] theorem holdRequestFrame_wake (o : Origin) (r : WakeRequest) (s : State) : (holdRequestFrame o r s).wake = s.wake := by
  unfold holdRequestFrame
  repeat' split
  all_goals simp_all
@[simp] theorem holdRequestFrame_sys (o : Origin) (r : WakeRequest) (s : State) : (holdRequestFrame o r s).sys = s.sys := by
  unfold holdRequestFrame
  repeat' split
  all_goals simp_all
@[simp] theorem suppressRequest_pending (r : WakeRequest) (s : State) : (suppressRequest r s).pending = s.pending := by
  simp only [suppressRequest]
  repeat' split
  all_goals simp
@[simp] theorem suppressRequest_modeCtl (r : WakeRequest) (s : State) : (suppressRequest r s).modeCtl = s.modeCtl := by
  simp only [suppressRequest]
  repeat' split
  all_goals simp
@[simp] theorem suppressRequest_linePort (r : WakeRequest) (s : State) : (suppressRequest r s).linePort = s.linePort := by
  simp only [suppressRequest]
  repeat' split
  all_goals simp
@[simp] theorem suppressRequest_guardPath (r : WakeRequest) (s : State) : (suppressRequest r s).guardPath = s.guardPath := by
  simp only [suppressRequest]
  repeat' split
  all_goals simp
@[simp] theorem suppressRequest_matchTable (r : WakeRequest) (s : State) : (suppressRequest r s).matchTable = s.matchTable := by
  simp only [suppressRequest]
  repeat' split
  all_goals simp
@[simp] theorem suppressRequest_identities (r : WakeRequest) (s : State) : (suppressRequest r s).identities = s.identities := by
  simp only [suppressRequest]
  repeat' split
  all_goals simp
@[simp] theorem suppressRequest_names (r : WakeRequest) (s : State) : (suppressRequest r s).names = s.names := by
  simp only [suppressRequest]
  repeat' split
  all_goals simp
@[simp] theorem suppressRequest_sessions (r : WakeRequest) (s : State) : (suppressRequest r s).sessions = s.sessions := by
  simp only [suppressRequest]
  repeat' split
  all_goals simp
@[simp] theorem suppressRequest_probes (r : WakeRequest) (s : State) : (suppressRequest r s).probes = s.probes := by
  simp only [suppressRequest]
  repeat' split
  all_goals simp
@[simp] theorem suppressRequest_reply (r : WakeRequest) (s : State) : (suppressRequest r s).reply = s.reply := by
  simp only [suppressRequest]
  repeat' split
  all_goals simp
@[simp] theorem suppressRequest_arb (r : WakeRequest) (s : State) : (suppressRequest r s).arb = s.arb := by
  simp only [suppressRequest]
  repeat' split
  all_goals simp
@[simp] theorem suppressRequest_bank (r : WakeRequest) (s : State) : (suppressRequest r s).bank = s.bank := by
  simp only [suppressRequest]
  repeat' split
  all_goals simp
@[simp] theorem suppressRequest_sys (r : WakeRequest) (s : State) : (suppressRequest r s).sys = s.sys := by
  simp only [suppressRequest]
  repeat' split
  all_goals simp
@[simp] theorem laterCause_pending (r : WakeRequest) (s : State) : (laterCause r s).pending = s.pending := by
  simp only [laterCause]
  repeat' split
  all_goals simp
@[simp] theorem laterCause_linePort (r : WakeRequest) (s : State) : (laterCause r s).linePort = s.linePort := by
  simp only [laterCause]
  repeat' split
  all_goals simp
@[simp] theorem laterCause_guardPath (r : WakeRequest) (s : State) : (laterCause r s).guardPath = s.guardPath := by
  simp only [laterCause]
  repeat' split
  all_goals simp
@[simp] theorem laterCause_matchTable (r : WakeRequest) (s : State) : (laterCause r s).matchTable = s.matchTable := by
  simp only [laterCause]
  repeat' split
  all_goals simp
@[simp] theorem laterCause_identities (r : WakeRequest) (s : State) : (laterCause r s).identities = s.identities := by
  simp only [laterCause]
  repeat' split
  all_goals simp
@[simp] theorem laterCause_names (r : WakeRequest) (s : State) : (laterCause r s).names = s.names := by
  simp only [laterCause]
  repeat' split
  all_goals simp
@[simp] theorem laterCause_sessions (r : WakeRequest) (s : State) : (laterCause r s).sessions = s.sessions := by
  simp only [laterCause]
  repeat' split
  all_goals simp
@[simp] theorem laterCause_probes (r : WakeRequest) (s : State) : (laterCause r s).probes = s.probes := by
  simp only [laterCause]
  repeat' split
  all_goals simp
@[simp] theorem laterCause_reply (r : WakeRequest) (s : State) : (laterCause r s).reply = s.reply := by
  simp only [laterCause]
  repeat' split
  all_goals simp
@[simp] theorem laterCause_arb (r : WakeRequest) (s : State) : (laterCause r s).arb = s.arb := by
  simp only [laterCause]
  repeat' split
  all_goals simp
@[simp] theorem laterCause_bank (r : WakeRequest) (s : State) : (laterCause r s).bank = s.bank := by
  simp only [laterCause]
  repeat' split
  all_goals simp
@[simp] theorem laterCause_sys (r : WakeRequest) (s : State) : (laterCause r s).sys = s.sys := by
  simp only [laterCause]
  repeat' split
  all_goals simp
@[simp] theorem judgeRequest_pending (r : WakeRequest) (s : State) : (judgeRequest r s).pending = s.pending := by
  unfold judgeRequest
  repeat' split
  all_goals simp_all
@[simp] theorem judgeRequest_linePort (r : WakeRequest) (s : State) : (judgeRequest r s).linePort = s.linePort := by
  unfold judgeRequest
  repeat' split
  all_goals simp_all
@[simp] theorem judgeRequest_guardPath (r : WakeRequest) (s : State) : (judgeRequest r s).guardPath = s.guardPath := by
  unfold judgeRequest
  repeat' split
  all_goals simp_all
@[simp] theorem judgeRequest_matchTable (r : WakeRequest) (s : State) : (judgeRequest r s).matchTable = s.matchTable := by
  unfold judgeRequest
  repeat' split
  all_goals simp_all
@[simp] theorem judgeRequest_identities (r : WakeRequest) (s : State) : (judgeRequest r s).identities = s.identities := by
  unfold judgeRequest
  repeat' split
  all_goals simp_all
@[simp] theorem judgeRequest_names (r : WakeRequest) (s : State) : (judgeRequest r s).names = s.names := by
  unfold judgeRequest
  repeat' split
  all_goals simp_all
@[simp] theorem judgeRequest_sessions (r : WakeRequest) (s : State) : (judgeRequest r s).sessions = s.sessions := by
  unfold judgeRequest
  repeat' split
  all_goals simp_all
@[simp] theorem judgeRequest_probes (r : WakeRequest) (s : State) : (judgeRequest r s).probes = s.probes := by
  unfold judgeRequest
  repeat' split
  all_goals simp_all
@[simp] theorem judgeRequest_reply (r : WakeRequest) (s : State) : (judgeRequest r s).reply = s.reply := by
  unfold judgeRequest
  repeat' split
  all_goals simp_all
@[simp] theorem judgeRequest_arb (r : WakeRequest) (s : State) : (judgeRequest r s).arb = s.arb := by
  unfold judgeRequest
  repeat' split
  all_goals simp_all
@[simp] theorem judgeRequest_bank (r : WakeRequest) (s : State) : (judgeRequest r s).bank = s.bank := by
  unfold judgeRequest
  repeat' split
  all_goals simp_all
@[simp] theorem judgeRequest_sys (r : WakeRequest) (s : State) : (judgeRequest r s).sys = s.sys := by
  unfold judgeRequest
  repeat' split
  all_goals simp_all
@[simp] theorem deferredWake_pending (b : Nat) (s : State) : (deferredWake b s).pending = s.pending := by
  simp only [deferredWake]
  repeat' split
  all_goals simp
@[simp] theorem deferredWake_linePort (b : Nat) (s : State) : (deferredWake b s).linePort = s.linePort := by
  simp only [deferredWake]
  repeat' split
  all_goals simp
@[simp] theorem deferredWake_guardPath (b : Nat) (s : State) : (deferredWake b s).guardPath = s.guardPath := by
  simp only [deferredWake]
  repeat' split
  all_goals simp
@[simp] theorem deferredWake_matchTable (b : Nat) (s : State) : (deferredWake b s).matchTable = s.matchTable := by
  simp only [deferredWake]
  repeat' split
  all_goals simp
@[simp] theorem deferredWake_identities (b : Nat) (s : State) : (deferredWake b s).identities = s.identities := by
  simp only [deferredWake]
  repeat' split
  all_goals simp
@[simp] theorem deferredWake_names (b : Nat) (s : State) : (deferredWake b s).names = s.names := by
  simp only [deferredWake]
  repeat' split
  all_goals simp
@[simp] theorem deferredWake_sessions (b : Nat) (s : State) : (deferredWake b s).sessions = s.sessions := by
  simp only [deferredWake]
  repeat' split
  all_goals simp
@[simp] theorem deferredWake_probes (b : Nat) (s : State) : (deferredWake b s).probes = s.probes := by
  simp only [deferredWake]
  repeat' split
  all_goals simp
@[simp] theorem deferredWake_reply (b : Nat) (s : State) : (deferredWake b s).reply = s.reply := by
  simp only [deferredWake]
  repeat' split
  all_goals simp
@[simp] theorem deferredWake_arb (b : Nat) (s : State) : (deferredWake b s).arb = s.arb := by
  simp only [deferredWake]
  repeat' split
  all_goals simp
@[simp] theorem deferredWake_bank (b : Nat) (s : State) : (deferredWake b s).bank = s.bank := by
  simp only [deferredWake]
  repeat' split
  all_goals simp
@[simp] theorem deferredWake_sys (b : Nat) (s : State) : (deferredWake b s).sys = s.sys := by
  simp only [deferredWake]
  repeat' split
  all_goals simp
@[simp] theorem endQuietInterval_pending (s : State) : (endQuietInterval s).pending = s.pending := by simp [endQuietInterval]
@[simp] theorem endQuietInterval_linePort (s : State) : (endQuietInterval s).linePort = s.linePort := by simp [endQuietInterval]
@[simp] theorem endQuietInterval_guardPath (s : State) : (endQuietInterval s).guardPath = s.guardPath := by simp [endQuietInterval]
@[simp] theorem endQuietInterval_matchTable (s : State) : (endQuietInterval s).matchTable = s.matchTable := by simp [endQuietInterval]
@[simp] theorem endQuietInterval_identities (s : State) : (endQuietInterval s).identities = s.identities := by simp [endQuietInterval]
@[simp] theorem endQuietInterval_names (s : State) : (endQuietInterval s).names = s.names := by simp [endQuietInterval]
@[simp] theorem endQuietInterval_sessions (s : State) : (endQuietInterval s).sessions = s.sessions := by simp [endQuietInterval]
@[simp] theorem endQuietInterval_probes (s : State) : (endQuietInterval s).probes = s.probes := by simp [endQuietInterval]
@[simp] theorem endQuietInterval_reply (s : State) : (endQuietInterval s).reply = s.reply := by simp [endQuietInterval]
@[simp] theorem endQuietInterval_arb (s : State) : (endQuietInterval s).arb = s.arb := by simp [endQuietInterval]
@[simp] theorem endQuietInterval_bank (s : State) : (endQuietInterval s).bank = s.bank := by simp [endQuietInterval]
@[simp] theorem endQuietInterval_sys (s : State) : (endQuietInterval s).sys = s.sys := by simp [endQuietInterval]
@[simp] theorem takeHeldTick_pending (s : State) : (takeHeldTick s).pending = s.pending := by
  simp only [takeHeldTick]
  repeat' split
  all_goals simp
@[simp] theorem takeHeldTick_linePort (s : State) : (takeHeldTick s).linePort = s.linePort := by
  simp only [takeHeldTick]
  repeat' split
  all_goals simp
@[simp] theorem takeHeldTick_guardPath (s : State) : (takeHeldTick s).guardPath = s.guardPath := by
  simp only [takeHeldTick]
  repeat' split
  all_goals simp
@[simp] theorem takeHeldTick_matchTable (s : State) : (takeHeldTick s).matchTable = s.matchTable := by
  simp only [takeHeldTick]
  repeat' split
  all_goals simp
@[simp] theorem takeHeldTick_identities (s : State) : (takeHeldTick s).identities = s.identities := by
  simp only [takeHeldTick]
  repeat' split
  all_goals simp
@[simp] theorem takeHeldTick_names (s : State) : (takeHeldTick s).names = s.names := by
  simp only [takeHeldTick]
  repeat' split
  all_goals simp
@[simp] theorem takeHeldTick_sessions (s : State) : (takeHeldTick s).sessions = s.sessions := by
  simp only [takeHeldTick]
  repeat' split
  all_goals simp
@[simp] theorem takeHeldTick_probes (s : State) : (takeHeldTick s).probes = s.probes := by
  simp only [takeHeldTick]
  repeat' split
  all_goals simp
@[simp] theorem takeHeldTick_reply (s : State) : (takeHeldTick s).reply = s.reply := by
  simp only [takeHeldTick]
  repeat' split
  all_goals simp
@[simp] theorem takeHeldTick_arb (s : State) : (takeHeldTick s).arb = s.arb := by
  simp only [takeHeldTick]
  repeat' split
  all_goals simp
@[simp] theorem takeHeldTick_bank (s : State) : (takeHeldTick s).bank = s.bank := by
  simp only [takeHeldTick]
  repeat' split
  all_goals simp
@[simp] theorem takeHeldTick_sys (s : State) : (takeHeldTick s).sys = s.sys := by
  simp only [takeHeldTick]
  repeat' split
  all_goals simp
@[simp] theorem settleTick_pending (s : State) : (settleTick s).pending = s.pending := by simp [settleTick]
@[simp] theorem settleTick_linePort (s : State) : (settleTick s).linePort = s.linePort := by simp [settleTick]
@[simp] theorem settleTick_guardPath (s : State) : (settleTick s).guardPath = s.guardPath := by simp [settleTick]
@[simp] theorem settleTick_matchTable (s : State) : (settleTick s).matchTable = s.matchTable := by simp [settleTick]
@[simp] theorem settleTick_identities (s : State) : (settleTick s).identities = s.identities := by simp [settleTick]
@[simp] theorem settleTick_names (s : State) : (settleTick s).names = s.names := by simp [settleTick]
@[simp] theorem settleTick_sessions (s : State) : (settleTick s).sessions = s.sessions := by simp [settleTick]
@[simp] theorem settleTick_probes (s : State) : (settleTick s).probes = s.probes := by simp [settleTick]
@[simp] theorem settleTick_reply (s : State) : (settleTick s).reply = s.reply := by simp [settleTick]
@[simp] theorem settleTick_arb (s : State) : (settleTick s).arb = s.arb := by simp [settleTick]
@[simp] theorem settleTick_bank (s : State) : (settleTick s).bank = s.bank := by simp [settleTick]
@[simp] theorem settleTick_sys (s : State) : (settleTick s).sys = s.sys := by simp [settleTick]
@[simp] theorem countTick_pending (s : State) : (countTick s).pending = s.pending := by simp [countTick]
@[simp] theorem countTick_linePort (s : State) : (countTick s).linePort = s.linePort := by simp [countTick]
@[simp] theorem countTick_guardPath (s : State) : (countTick s).guardPath = s.guardPath := by simp [countTick]
@[simp] theorem countTick_matchTable (s : State) : (countTick s).matchTable = s.matchTable := by simp [countTick]
@[simp] theorem countTick_identities (s : State) : (countTick s).identities = s.identities := by simp [countTick]
@[simp] theorem countTick_names (s : State) : (countTick s).names = s.names := by simp [countTick]
@[simp] theorem countTick_sessions (s : State) : (countTick s).sessions = s.sessions := by simp [countTick]
@[simp] theorem countTick_probes (s : State) : (countTick s).probes = s.probes := by simp [countTick]
@[simp] theorem countTick_reply (s : State) : (countTick s).reply = s.reply := by simp [countTick]
@[simp] theorem countTick_arb (s : State) : (countTick s).arb = s.arb := by simp [countTick]
@[simp] theorem countTick_hold (s : State) : (countTick s).hold = s.hold := by simp [countTick]
@[simp] theorem countTick_sys (s : State) : (countTick s).sys = s.sys := by simp [countTick]
@[simp] theorem countTick_ctl (s : State) : (countTick s).ctl = s.ctl := by simp [countTick]
@[simp] theorem alarmExpires_pending (n : Nat) (s : State) : (alarmExpires n s).pending = s.pending := by
  simp only [alarmExpires]
  repeat' split
  all_goals simp
@[simp] theorem alarmExpires_modeCtl (n : Nat) (s : State) : (alarmExpires n s).modeCtl = s.modeCtl := by
  simp only [alarmExpires]
  repeat' split
  all_goals simp
@[simp] theorem alarmExpires_linePort (n : Nat) (s : State) : (alarmExpires n s).linePort = s.linePort := by
  simp only [alarmExpires]
  repeat' split
  all_goals simp
@[simp] theorem alarmExpires_guardPath (n : Nat) (s : State) : (alarmExpires n s).guardPath = s.guardPath := by
  simp only [alarmExpires]
  repeat' split
  all_goals simp
@[simp] theorem alarmExpires_matchTable (n : Nat) (s : State) : (alarmExpires n s).matchTable = s.matchTable := by
  simp only [alarmExpires]
  repeat' split
  all_goals simp
@[simp] theorem alarmExpires_identities (n : Nat) (s : State) : (alarmExpires n s).identities = s.identities := by
  simp only [alarmExpires]
  repeat' split
  all_goals simp
@[simp] theorem alarmExpires_names (n : Nat) (s : State) : (alarmExpires n s).names = s.names := by
  simp only [alarmExpires]
  repeat' split
  all_goals simp
@[simp] theorem alarmExpires_sessions (n : Nat) (s : State) : (alarmExpires n s).sessions = s.sessions := by
  simp only [alarmExpires]
  repeat' split
  all_goals simp
@[simp] theorem alarmExpires_probes (n : Nat) (s : State) : (alarmExpires n s).probes = s.probes := by
  simp only [alarmExpires]
  repeat' split
  all_goals simp
@[simp] theorem alarmExpires_reply (n : Nat) (s : State) : (alarmExpires n s).reply = s.reply := by
  simp only [alarmExpires]
  repeat' split
  all_goals simp
@[simp] theorem alarmExpires_arb (n : Nat) (s : State) : (alarmExpires n s).arb = s.arb := by
  simp only [alarmExpires]
  repeat' split
  all_goals simp
@[simp] theorem alarmExpires_hold (n : Nat) (s : State) : (alarmExpires n s).hold = s.hold := by
  simp only [alarmExpires]
  repeat' split
  all_goals simp
@[simp] theorem alarmExpires_sys (n : Nat) (s : State) : (alarmExpires n s).sys = s.sys := by
  simp only [alarmExpires]
  repeat' split
  all_goals simp
@[simp] theorem alarmExpires_ctl (n : Nat) (s : State) : (alarmExpires n s).ctl = s.ctl := by
  simp only [alarmExpires]
  repeat' split
  all_goals simp
@[simp] theorem liveness_pending (i : Nat) (v : Option (BitVec 32)) (s : State) : (liveness i v s).pending = s.pending := by simp [liveness]
@[simp] theorem liveness_modeCtl (i : Nat) (v : Option (BitVec 32)) (s : State) : (liveness i v s).modeCtl = s.modeCtl := by simp [liveness]
@[simp] theorem liveness_linePort (i : Nat) (v : Option (BitVec 32)) (s : State) : (liveness i v s).linePort = s.linePort := by simp [liveness]
@[simp] theorem liveness_guardPath (i : Nat) (v : Option (BitVec 32)) (s : State) : (liveness i v s).guardPath = s.guardPath := by simp [liveness]
@[simp] theorem liveness_matchTable (i : Nat) (v : Option (BitVec 32)) (s : State) : (liveness i v s).matchTable = s.matchTable := by simp [liveness]
@[simp] theorem liveness_identities (i : Nat) (v : Option (BitVec 32)) (s : State) : (liveness i v s).identities = s.identities := by simp [liveness]
@[simp] theorem liveness_names (i : Nat) (v : Option (BitVec 32)) (s : State) : (liveness i v s).names = s.names := by simp [liveness]
@[simp] theorem liveness_reply (i : Nat) (v : Option (BitVec 32)) (s : State) : (liveness i v s).reply = s.reply := by simp [liveness]
@[simp] theorem liveness_arb (i : Nat) (v : Option (BitVec 32)) (s : State) : (liveness i v s).arb = s.arb := by simp [liveness]
@[simp] theorem liveness_wake (i : Nat) (v : Option (BitVec 32)) (s : State) : (liveness i v s).wake = s.wake := by simp [liveness]
@[simp] theorem liveness_hold (i : Nat) (v : Option (BitVec 32)) (s : State) : (liveness i v s).hold = s.hold := by simp [liveness]
@[simp] theorem liveness_sys (i : Nat) (v : Option (BitVec 32)) (s : State) : (liveness i v s).sys = s.sys := by simp [liveness]
@[simp] theorem liveness_ctl (i : Nat) (v : Option (BitVec 32)) (s : State) : (liveness i v s).ctl = s.ctl := by simp [liveness]
@[simp] theorem takeHead_pending (s : State) : (takeHead s).pending = s.pending := by simp [takeHead]
@[simp] theorem takeHead_modeCtl (s : State) : (takeHead s).modeCtl = s.modeCtl := by simp [takeHead]
@[simp] theorem takeHead_linePort (s : State) : (takeHead s).linePort = s.linePort := by simp [takeHead]
@[simp] theorem takeHead_guardPath (s : State) : (takeHead s).guardPath = s.guardPath := by simp [takeHead]
@[simp] theorem takeHead_matchTable (s : State) : (takeHead s).matchTable = s.matchTable := by simp [takeHead]
@[simp] theorem takeHead_identities (s : State) : (takeHead s).identities = s.identities := by simp [takeHead]
@[simp] theorem takeHead_names (s : State) : (takeHead s).names = s.names := by simp [takeHead]
@[simp] theorem takeHead_sessions (s : State) : (takeHead s).sessions = s.sessions := by simp [takeHead]
@[simp] theorem takeHead_probes (s : State) : (takeHead s).probes = s.probes := by simp [takeHead]
@[simp] theorem takeHead_reply (s : State) : (takeHead s).reply = s.reply := by simp [takeHead]
@[simp] theorem takeHead_arb (s : State) : (takeHead s).arb = s.arb := by simp [takeHead]
@[simp] theorem takeHead_bank (s : State) : (takeHead s).bank = s.bank := by simp [takeHead]
@[simp] theorem takeHead_wake (s : State) : (takeHead s).wake = s.wake := by simp [takeHead]
@[simp] theorem takeHead_hold (s : State) : (takeHead s).hold = s.hold := by simp [takeHead]
@[simp] theorem takeHead_ctl (s : State) : (takeHead s).ctl = s.ctl := by simp [takeHead]
@[simp] theorem grantReply_pending (i : Nat) (s : State) : (grantReply i s).pending = s.pending := by simp [grantReply]
@[simp] theorem grantReply_modeCtl (i : Nat) (s : State) : (grantReply i s).modeCtl = s.modeCtl := by simp [grantReply]
@[simp] theorem grantReply_linePort (i : Nat) (s : State) : (grantReply i s).linePort = s.linePort := by simp [grantReply]
@[simp] theorem grantReply_guardPath (i : Nat) (s : State) : (grantReply i s).guardPath = s.guardPath := by simp [grantReply]
@[simp] theorem grantReply_matchTable (i : Nat) (s : State) : (grantReply i s).matchTable = s.matchTable := by simp [grantReply]
@[simp] theorem grantReply_identities (i : Nat) (s : State) : (grantReply i s).identities = s.identities := by simp [grantReply]
@[simp] theorem grantReply_names (i : Nat) (s : State) : (grantReply i s).names = s.names := by simp [grantReply]
@[simp] theorem grantReply_sessions (i : Nat) (s : State) : (grantReply i s).sessions = s.sessions := by simp [grantReply]
@[simp] theorem grantReply_probes (i : Nat) (s : State) : (grantReply i s).probes = s.probes := by simp [grantReply]
@[simp] theorem grantReply_bank (i : Nat) (s : State) : (grantReply i s).bank = s.bank := by simp [grantReply]
@[simp] theorem grantReply_wake (i : Nat) (s : State) : (grantReply i s).wake = s.wake := by simp [grantReply]
@[simp] theorem grantReply_hold (i : Nat) (s : State) : (grantReply i s).hold = s.hold := by simp [grantReply]
@[simp] theorem grantReply_sys (i : Nat) (s : State) : (grantReply i s).sys = s.sys := by simp [grantReply]
@[simp] theorem grantReply_ctl (i : Nat) (s : State) : (grantReply i s).ctl = s.ctl := by simp [grantReply]
@[simp] theorem grantSystem_pending (f : Frame) (s : State) : (grantSystem f s).pending = s.pending := by simp [grantSystem]
@[simp] theorem grantSystem_modeCtl (f : Frame) (s : State) : (grantSystem f s).modeCtl = s.modeCtl := by simp [grantSystem]
@[simp] theorem grantSystem_linePort (f : Frame) (s : State) : (grantSystem f s).linePort = s.linePort := by simp [grantSystem]
@[simp] theorem grantSystem_guardPath (f : Frame) (s : State) : (grantSystem f s).guardPath = s.guardPath := by simp [grantSystem]
@[simp] theorem grantSystem_matchTable (f : Frame) (s : State) : (grantSystem f s).matchTable = s.matchTable := by simp [grantSystem]
@[simp] theorem grantSystem_identities (f : Frame) (s : State) : (grantSystem f s).identities = s.identities := by simp [grantSystem]
@[simp] theorem grantSystem_names (f : Frame) (s : State) : (grantSystem f s).names = s.names := by simp [grantSystem]
@[simp] theorem grantSystem_reply (f : Frame) (s : State) : (grantSystem f s).reply = s.reply := by simp [grantSystem]
@[simp] theorem grantSystem_wake (f : Frame) (s : State) : (grantSystem f s).wake = s.wake := by simp [grantSystem]
@[simp] theorem grantSystem_hold (f : Frame) (s : State) : (grantSystem f s).hold = s.hold := by simp [grantSystem]
@[simp] theorem grantSystem_ctl (f : Frame) (s : State) : (grantSystem f s).ctl = s.ctl := by simp [grantSystem]
@[simp] theorem grantLine_pending (s : State) : (grantLine s).pending = s.pending := by
  unfold grantLine
  repeat' split
  all_goals simp_all
@[simp] theorem grantLine_modeCtl (s : State) : (grantLine s).modeCtl = s.modeCtl := by
  unfold grantLine
  repeat' split
  all_goals simp_all
@[simp] theorem grantLine_linePort (s : State) : (grantLine s).linePort = s.linePort := by
  unfold grantLine
  repeat' split
  all_goals simp_all
@[simp] theorem grantLine_guardPath (s : State) : (grantLine s).guardPath = s.guardPath := by
  unfold grantLine
  repeat' split
  all_goals simp_all
@[simp] theorem grantLine_matchTable (s : State) : (grantLine s).matchTable = s.matchTable := by
  unfold grantLine
  repeat' split
  all_goals simp_all
@[simp] theorem grantLine_identities (s : State) : (grantLine s).identities = s.identities := by
  unfold grantLine
  repeat' split
  all_goals simp_all
@[simp] theorem grantLine_names (s : State) : (grantLine s).names = s.names := by
  unfold grantLine
  repeat' split
  all_goals simp_all
@[simp] theorem grantLine_wake (s : State) : (grantLine s).wake = s.wake := by
  unfold grantLine
  repeat' split
  all_goals simp_all
@[simp] theorem grantLine_hold (s : State) : (grantLine s).hold = s.hold := by
  unfold grantLine
  repeat' split
  all_goals simp_all
@[simp] theorem grantLine_ctl (s : State) : (grantLine s).ctl = s.ctl := by
  unfold grantLine
  repeat' split
  all_goals simp_all
@[simp] theorem offerGuardPath_pending (p : Path) (b : Frame) (s : State) : (offerGuardPath p b s).pending = s.pending := by
  simp only [offerGuardPath]
  repeat' split
  all_goals simp
@[simp] theorem offerGuardPath_modeCtl (p : Path) (b : Frame) (s : State) : (offerGuardPath p b s).modeCtl = s.modeCtl := by
  simp only [offerGuardPath]
  repeat' split
  all_goals simp
@[simp] theorem offerGuardPath_linePort (p : Path) (b : Frame) (s : State) : (offerGuardPath p b s).linePort = s.linePort := by
  simp only [offerGuardPath]
  repeat' split
  all_goals simp
@[simp] theorem offerGuardPath_matchTable (p : Path) (b : Frame) (s : State) : (offerGuardPath p b s).matchTable = s.matchTable := by
  simp only [offerGuardPath]
  repeat' split
  all_goals simp
@[simp] theorem offerGuardPath_identities (p : Path) (b : Frame) (s : State) : (offerGuardPath p b s).identities = s.identities := by
  simp only [offerGuardPath]
  repeat' split
  all_goals simp
@[simp] theorem offerGuardPath_names (p : Path) (b : Frame) (s : State) : (offerGuardPath p b s).names = s.names := by
  simp only [offerGuardPath]
  repeat' split
  all_goals simp
@[simp] theorem offerGuardPath_sessions (p : Path) (b : Frame) (s : State) : (offerGuardPath p b s).sessions = s.sessions := by
  simp only [offerGuardPath]
  repeat' split
  all_goals simp
@[simp] theorem offerGuardPath_probes (p : Path) (b : Frame) (s : State) : (offerGuardPath p b s).probes = s.probes := by
  simp only [offerGuardPath]
  repeat' split
  all_goals simp
@[simp] theorem offerGuardPath_reply (p : Path) (b : Frame) (s : State) : (offerGuardPath p b s).reply = s.reply := by
  simp only [offerGuardPath]
  repeat' split
  all_goals simp
@[simp] theorem offerGuardPath_arb (p : Path) (b : Frame) (s : State) : (offerGuardPath p b s).arb = s.arb := by
  simp only [offerGuardPath]
  repeat' split
  all_goals simp
@[simp] theorem offerGuardPath_bank (p : Path) (b : Frame) (s : State) : (offerGuardPath p b s).bank = s.bank := by
  simp only [offerGuardPath]
  repeat' split
  all_goals simp
@[simp] theorem offerGuardPath_wake (p : Path) (b : Frame) (s : State) : (offerGuardPath p b s).wake = s.wake := by
  simp only [offerGuardPath]
  repeat' split
  all_goals simp
@[simp] theorem offerGuardPath_hold (p : Path) (b : Frame) (s : State) : (offerGuardPath p b s).hold = s.hold := by
  simp only [offerGuardPath]
  repeat' split
  all_goals simp
@[simp] theorem offerGuardPath_sys (p : Path) (b : Frame) (s : State) : (offerGuardPath p b s).sys = s.sys := by
  simp only [offerGuardPath]
  repeat' split
  all_goals simp
@[simp] theorem offerForward_pending (b : Frame) (s : State) : (offerForward b s).pending = s.pending := by
  simp only [offerForward]
  repeat' split
  all_goals simp
@[simp] theorem offerForward_modeCtl (b : Frame) (s : State) : (offerForward b s).modeCtl = s.modeCtl := by
  simp only [offerForward]
  repeat' split
  all_goals simp
@[simp] theorem offerForward_linePort (b : Frame) (s : State) : (offerForward b s).linePort = s.linePort := by
  simp only [offerForward]
  repeat' split
  all_goals simp
@[simp] theorem offerForward_guardPath (b : Frame) (s : State) : (offerForward b s).guardPath = s.guardPath := by
  simp only [offerForward]
  repeat' split
  all_goals simp
@[simp] theorem offerForward_matchTable (b : Frame) (s : State) : (offerForward b s).matchTable = s.matchTable := by
  simp only [offerForward]
  repeat' split
  all_goals simp
@[simp] theorem offerForward_identities (b : Frame) (s : State) : (offerForward b s).identities = s.identities := by
  simp only [offerForward]
  repeat' split
  all_goals simp
@[simp] theorem offerForward_names (b : Frame) (s : State) : (offerForward b s).names = s.names := by
  simp only [offerForward]
  repeat' split
  all_goals simp
@[simp] theorem offerForward_sessions (b : Frame) (s : State) : (offerForward b s).sessions = s.sessions := by
  simp only [offerForward]
  repeat' split
  all_goals simp
@[simp] theorem offerForward_probes (b : Frame) (s : State) : (offerForward b s).probes = s.probes := by
  simp only [offerForward]
  repeat' split
  all_goals simp
@[simp] theorem offerForward_reply (b : Frame) (s : State) : (offerForward b s).reply = s.reply := by
  simp only [offerForward]
  repeat' split
  all_goals simp
@[simp] theorem offerForward_arb (b : Frame) (s : State) : (offerForward b s).arb = s.arb := by
  simp only [offerForward]
  repeat' split
  all_goals simp
@[simp] theorem offerForward_bank (b : Frame) (s : State) : (offerForward b s).bank = s.bank := by
  simp only [offerForward]
  repeat' split
  all_goals simp
@[simp] theorem offerForward_wake (b : Frame) (s : State) : (offerForward b s).wake = s.wake := by
  simp only [offerForward]
  repeat' split
  all_goals simp
@[simp] theorem offerForward_hold (b : Frame) (s : State) : (offerForward b s).hold = s.hold := by
  simp only [offerForward]
  repeat' split
  all_goals simp
@[simp] theorem offerCopy_pending (b : Frame) (s : State) : (offerCopy b s).pending = s.pending := by
  simp only [offerCopy]
  repeat' split
  all_goals simp
@[simp] theorem offerCopy_modeCtl (b : Frame) (s : State) : (offerCopy b s).modeCtl = s.modeCtl := by
  simp only [offerCopy]
  repeat' split
  all_goals simp
@[simp] theorem offerCopy_linePort (b : Frame) (s : State) : (offerCopy b s).linePort = s.linePort := by
  simp only [offerCopy]
  repeat' split
  all_goals simp
@[simp] theorem offerCopy_matchTable (b : Frame) (s : State) : (offerCopy b s).matchTable = s.matchTable := by
  simp only [offerCopy]
  repeat' split
  all_goals simp
@[simp] theorem offerCopy_identities (b : Frame) (s : State) : (offerCopy b s).identities = s.identities := by
  simp only [offerCopy]
  repeat' split
  all_goals simp
@[simp] theorem offerCopy_names (b : Frame) (s : State) : (offerCopy b s).names = s.names := by
  simp only [offerCopy]
  repeat' split
  all_goals simp
@[simp] theorem offerCopy_sessions (b : Frame) (s : State) : (offerCopy b s).sessions = s.sessions := by
  simp only [offerCopy]
  repeat' split
  all_goals simp
@[simp] theorem offerCopy_probes (b : Frame) (s : State) : (offerCopy b s).probes = s.probes := by
  simp only [offerCopy]
  repeat' split
  all_goals simp
@[simp] theorem offerCopy_reply (b : Frame) (s : State) : (offerCopy b s).reply = s.reply := by
  simp only [offerCopy]
  repeat' split
  all_goals simp
@[simp] theorem offerCopy_arb (b : Frame) (s : State) : (offerCopy b s).arb = s.arb := by
  simp only [offerCopy]
  repeat' split
  all_goals simp
@[simp] theorem offerCopy_bank (b : Frame) (s : State) : (offerCopy b s).bank = s.bank := by
  simp only [offerCopy]
  repeat' split
  all_goals simp
@[simp] theorem offerCopy_wake (b : Frame) (s : State) : (offerCopy b s).wake = s.wake := by
  simp only [offerCopy]
  repeat' split
  all_goals simp
@[simp] theorem offerCopy_hold (b : Frame) (s : State) : (offerCopy b s).hold = s.hold := by
  simp only [offerCopy]
  repeat' split
  all_goals simp
@[simp] theorem offerCopy_sys (b : Frame) (s : State) : (offerCopy b s).sys = s.sys := by
  simp only [offerCopy]
  repeat' split
  all_goals simp
@[simp] theorem releaseDrained_pending (s : State) : (releaseDrained s).pending = s.pending := by simp [releaseDrained]
@[simp] theorem releaseDrained_modeCtl (s : State) : (releaseDrained s).modeCtl = s.modeCtl := by simp [releaseDrained]
@[simp] theorem releaseDrained_linePort (s : State) : (releaseDrained s).linePort = s.linePort := by simp [releaseDrained]
@[simp] theorem releaseDrained_matchTable (s : State) : (releaseDrained s).matchTable = s.matchTable := by simp [releaseDrained]
@[simp] theorem releaseDrained_identities (s : State) : (releaseDrained s).identities = s.identities := by simp [releaseDrained]
@[simp] theorem releaseDrained_names (s : State) : (releaseDrained s).names = s.names := by simp [releaseDrained]
@[simp] theorem releaseDrained_sessions (s : State) : (releaseDrained s).sessions = s.sessions := by simp [releaseDrained]
@[simp] theorem releaseDrained_probes (s : State) : (releaseDrained s).probes = s.probes := by simp [releaseDrained]
@[simp] theorem releaseDrained_reply (s : State) : (releaseDrained s).reply = s.reply := by simp [releaseDrained]
@[simp] theorem releaseDrained_arb (s : State) : (releaseDrained s).arb = s.arb := by simp [releaseDrained]
@[simp] theorem releaseDrained_bank (s : State) : (releaseDrained s).bank = s.bank := by simp [releaseDrained]
@[simp] theorem releaseDrained_wake (s : State) : (releaseDrained s).wake = s.wake := by simp [releaseDrained]
@[simp] theorem releaseDrained_sys (s : State) : (releaseDrained s).sys = s.sys := by simp [releaseDrained]
@[simp] theorem releaseDrained_ctl (s : State) : (releaseDrained s).ctl = s.ctl := by simp [releaseDrained]
@[simp] theorem offerDrained_pending (b : Frame) (s : State) : (offerDrained b s).pending = s.pending := by
  simp only [offerDrained]
  repeat' split
  all_goals simp
@[simp] theorem offerDrained_modeCtl (b : Frame) (s : State) : (offerDrained b s).modeCtl = s.modeCtl := by
  simp only [offerDrained]
  repeat' split
  all_goals simp
@[simp] theorem offerDrained_linePort (b : Frame) (s : State) : (offerDrained b s).linePort = s.linePort := by
  simp only [offerDrained]
  repeat' split
  all_goals simp
@[simp] theorem offerDrained_matchTable (b : Frame) (s : State) : (offerDrained b s).matchTable = s.matchTable := by
  simp only [offerDrained]
  repeat' split
  all_goals simp
@[simp] theorem offerDrained_identities (b : Frame) (s : State) : (offerDrained b s).identities = s.identities := by
  simp only [offerDrained]
  repeat' split
  all_goals simp
@[simp] theorem offerDrained_names (b : Frame) (s : State) : (offerDrained b s).names = s.names := by
  simp only [offerDrained]
  repeat' split
  all_goals simp
@[simp] theorem offerDrained_sessions (b : Frame) (s : State) : (offerDrained b s).sessions = s.sessions := by
  simp only [offerDrained]
  repeat' split
  all_goals simp
@[simp] theorem offerDrained_probes (b : Frame) (s : State) : (offerDrained b s).probes = s.probes := by
  simp only [offerDrained]
  repeat' split
  all_goals simp
@[simp] theorem offerDrained_reply (b : Frame) (s : State) : (offerDrained b s).reply = s.reply := by
  simp only [offerDrained]
  repeat' split
  all_goals simp
@[simp] theorem offerDrained_arb (b : Frame) (s : State) : (offerDrained b s).arb = s.arb := by
  simp only [offerDrained]
  repeat' split
  all_goals simp
@[simp] theorem offerDrained_bank (b : Frame) (s : State) : (offerDrained b s).bank = s.bank := by
  simp only [offerDrained]
  repeat' split
  all_goals simp
@[simp] theorem offerDrained_wake (b : Frame) (s : State) : (offerDrained b s).wake = s.wake := by
  simp only [offerDrained]
  repeat' split
  all_goals simp
@[simp] theorem offerDrained_sys (b : Frame) (s : State) : (offerDrained b s).sys = s.sys := by
  simp only [offerDrained]
  repeat' split
  all_goals simp
@[simp] theorem handOn_pending (b : Frame) (s : State) : (handOn b s).pending = s.pending := by
  unfold handOn
  repeat' split
  all_goals simp_all
@[simp] theorem handOn_modeCtl (b : Frame) (s : State) : (handOn b s).modeCtl = s.modeCtl := by
  unfold handOn
  repeat' split
  all_goals simp_all
@[simp] theorem handOn_linePort (b : Frame) (s : State) : (handOn b s).linePort = s.linePort := by
  unfold handOn
  repeat' split
  all_goals simp_all
@[simp] theorem handOn_matchTable (b : Frame) (s : State) : (handOn b s).matchTable = s.matchTable := by
  unfold handOn
  repeat' split
  all_goals simp_all
@[simp] theorem handOn_identities (b : Frame) (s : State) : (handOn b s).identities = s.identities := by
  unfold handOn
  repeat' split
  all_goals simp_all
@[simp] theorem handOn_names (b : Frame) (s : State) : (handOn b s).names = s.names := by
  unfold handOn
  repeat' split
  all_goals simp_all
@[simp] theorem handOn_sessions (b : Frame) (s : State) : (handOn b s).sessions = s.sessions := by
  unfold handOn
  repeat' split
  all_goals simp_all
@[simp] theorem handOn_probes (b : Frame) (s : State) : (handOn b s).probes = s.probes := by
  unfold handOn
  repeat' split
  all_goals simp_all
@[simp] theorem handOn_reply (b : Frame) (s : State) : (handOn b s).reply = s.reply := by
  unfold handOn
  repeat' split
  all_goals simp_all
@[simp] theorem handOn_arb (b : Frame) (s : State) : (handOn b s).arb = s.arb := by
  unfold handOn
  repeat' split
  all_goals simp_all
@[simp] theorem handOn_bank (b : Frame) (s : State) : (handOn b s).bank = s.bank := by
  unfold handOn
  repeat' split
  all_goals simp_all
@[simp] theorem handOn_wake (b : Frame) (s : State) : (handOn b s).wake = s.wake := by
  unfold handOn
  repeat' split
  all_goals simp_all
@[simp] theorem cutTransmission_pending (s : State) : (cutTransmission s).pending = s.pending := by
  unfold cutTransmission
  repeat' split
  all_goals simp_all
@[simp] theorem cutTransmission_modeCtl (s : State) : (cutTransmission s).modeCtl = s.modeCtl := by
  unfold cutTransmission
  repeat' split
  all_goals simp_all
@[simp] theorem cutTransmission_linePort (s : State) : (cutTransmission s).linePort = s.linePort := by
  unfold cutTransmission
  repeat' split
  all_goals simp_all
@[simp] theorem cutTransmission_guardPath (s : State) : (cutTransmission s).guardPath = s.guardPath := by
  unfold cutTransmission
  repeat' split
  all_goals simp_all
@[simp] theorem cutTransmission_matchTable (s : State) : (cutTransmission s).matchTable = s.matchTable := by
  unfold cutTransmission
  repeat' split
  all_goals simp_all
@[simp] theorem cutTransmission_identities (s : State) : (cutTransmission s).identities = s.identities := by
  unfold cutTransmission
  repeat' split
  all_goals simp_all
@[simp] theorem cutTransmission_names (s : State) : (cutTransmission s).names = s.names := by
  unfold cutTransmission
  repeat' split
  all_goals simp_all
@[simp] theorem cutTransmission_sessions (s : State) : (cutTransmission s).sessions = s.sessions := by
  unfold cutTransmission
  repeat' split
  all_goals simp_all
@[simp] theorem cutTransmission_probes (s : State) : (cutTransmission s).probes = s.probes := by
  unfold cutTransmission
  repeat' split
  all_goals simp_all
@[simp] theorem cutTransmission_reply (s : State) : (cutTransmission s).reply = s.reply := by
  unfold cutTransmission
  repeat' split
  all_goals simp_all
@[simp] theorem cutTransmission_bank (s : State) : (cutTransmission s).bank = s.bank := by
  unfold cutTransmission
  repeat' split
  all_goals simp_all
@[simp] theorem cutTransmission_wake (s : State) : (cutTransmission s).wake = s.wake := by
  unfold cutTransmission
  repeat' split
  all_goals simp_all
@[simp] theorem cutTransmission_hold (s : State) : (cutTransmission s).hold = s.hold := by
  unfold cutTransmission
  repeat' split
  all_goals simp_all
@[simp] theorem cutTransmission_sys (s : State) : (cutTransmission s).sys = s.sys := by
  unfold cutTransmission
  repeat' split
  all_goals simp_all
@[simp] theorem linkLostRequest_pending (s : State) : (linkLostRequest s).pending = s.pending := by
  simp only [linkLostRequest]
  repeat' split
  all_goals simp
@[simp] theorem linkLostRequest_modeCtl (s : State) : (linkLostRequest s).modeCtl = s.modeCtl := by
  simp only [linkLostRequest]
  repeat' split
  all_goals simp
@[simp] theorem linkLostRequest_linePort (s : State) : (linkLostRequest s).linePort = s.linePort := by
  simp only [linkLostRequest]
  repeat' split
  all_goals simp
@[simp] theorem linkLostRequest_guardPath (s : State) : (linkLostRequest s).guardPath = s.guardPath := by
  simp only [linkLostRequest]
  repeat' split
  all_goals simp
@[simp] theorem linkLostRequest_matchTable (s : State) : (linkLostRequest s).matchTable = s.matchTable := by
  simp only [linkLostRequest]
  repeat' split
  all_goals simp
@[simp] theorem linkLostRequest_identities (s : State) : (linkLostRequest s).identities = s.identities := by
  simp only [linkLostRequest]
  repeat' split
  all_goals simp
@[simp] theorem linkLostRequest_names (s : State) : (linkLostRequest s).names = s.names := by
  simp only [linkLostRequest]
  repeat' split
  all_goals simp
@[simp] theorem linkLostRequest_sessions (s : State) : (linkLostRequest s).sessions = s.sessions := by
  simp only [linkLostRequest]
  repeat' split
  all_goals simp
@[simp] theorem linkLostRequest_probes (s : State) : (linkLostRequest s).probes = s.probes := by
  simp only [linkLostRequest]
  repeat' split
  all_goals simp
@[simp] theorem linkLostRequest_reply (s : State) : (linkLostRequest s).reply = s.reply := by
  simp only [linkLostRequest]
  repeat' split
  all_goals simp
@[simp] theorem linkLostRequest_arb (s : State) : (linkLostRequest s).arb = s.arb := by
  simp only [linkLostRequest]
  repeat' split
  all_goals simp
@[simp] theorem linkLostRequest_bank (s : State) : (linkLostRequest s).bank = s.bank := by
  simp only [linkLostRequest]
  repeat' split
  all_goals simp
@[simp] theorem linkLostRequest_hold (s : State) : (linkLostRequest s).hold = s.hold := by
  simp only [linkLostRequest]
  repeat' split
  all_goals simp
@[simp] theorem linkLostRequest_sys (s : State) : (linkLostRequest s).sys = s.sys := by
  simp only [linkLostRequest]
  repeat' split
  all_goals simp
@[simp] theorem linkLostRequest_ctl (s : State) : (linkLostRequest s).ctl = s.ctl := by
  simp only [linkLostRequest]
  repeat' split
  all_goals simp
@[simp] theorem linkLost_pending (s : State) : (linkLost s).pending = s.pending := by simp [linkLost]
@[simp] theorem linkLost_modeCtl (s : State) : (linkLost s).modeCtl = s.modeCtl := by simp [linkLost]
@[simp] theorem linkLost_guardPath (s : State) : (linkLost s).guardPath = s.guardPath := by simp [linkLost]
@[simp] theorem linkLost_matchTable (s : State) : (linkLost s).matchTable = s.matchTable := by simp [linkLost]
@[simp] theorem linkLost_identities (s : State) : (linkLost s).identities = s.identities := by simp [linkLost]
@[simp] theorem linkLost_names (s : State) : (linkLost s).names = s.names := by simp [linkLost]
@[simp] theorem linkLost_hold (s : State) : (linkLost s).hold = s.hold := by simp [linkLost]
@[simp] theorem linkLost_sys (s : State) : (linkLost s).sys = s.sys := by simp [linkLost]
@[simp] theorem sendItem_pending (e : EgressStream) (x : EgressTx) (s : State) : (sendItem e x s).pending = s.pending := by simp [sendItem]
@[simp] theorem sendItem_modeCtl (e : EgressStream) (x : EgressTx) (s : State) : (sendItem e x s).modeCtl = s.modeCtl := by simp [sendItem]
@[simp] theorem sendItem_linePort (e : EgressStream) (x : EgressTx) (s : State) : (sendItem e x s).linePort = s.linePort := by simp [sendItem]
@[simp] theorem sendItem_guardPath (e : EgressStream) (x : EgressTx) (s : State) : (sendItem e x s).guardPath = s.guardPath := by simp [sendItem]
@[simp] theorem sendItem_matchTable (e : EgressStream) (x : EgressTx) (s : State) : (sendItem e x s).matchTable = s.matchTable := by simp [sendItem]
@[simp] theorem sendItem_identities (e : EgressStream) (x : EgressTx) (s : State) : (sendItem e x s).identities = s.identities := by simp [sendItem]
@[simp] theorem sendItem_names (e : EgressStream) (x : EgressTx) (s : State) : (sendItem e x s).names = s.names := by simp [sendItem]
@[simp] theorem sendItem_sessions (e : EgressStream) (x : EgressTx) (s : State) : (sendItem e x s).sessions = s.sessions := by simp [sendItem]
@[simp] theorem sendItem_probes (e : EgressStream) (x : EgressTx) (s : State) : (sendItem e x s).probes = s.probes := by simp [sendItem]
@[simp] theorem sendItem_reply (e : EgressStream) (x : EgressTx) (s : State) : (sendItem e x s).reply = s.reply := by simp [sendItem]
@[simp] theorem sendItem_arb (e : EgressStream) (x : EgressTx) (s : State) : (sendItem e x s).arb = s.arb := by simp [sendItem]
@[simp] theorem sendItem_bank (e : EgressStream) (x : EgressTx) (s : State) : (sendItem e x s).bank = s.bank := by simp [sendItem]
@[simp] theorem sendItem_wake (e : EgressStream) (x : EgressTx) (s : State) : (sendItem e x s).wake = s.wake := by simp [sendItem]
@[simp] theorem sendItem_ctl (e : EgressStream) (x : EgressTx) (s : State) : (sendItem e x s).ctl = s.ctl := by simp [sendItem]
@[simp] theorem grantEgress_pending (s : State) : (grantEgress s).pending = s.pending := by
  unfold grantEgress
  repeat' split
  all_goals simp_all
@[simp] theorem grantEgress_modeCtl (s : State) : (grantEgress s).modeCtl = s.modeCtl := by
  unfold grantEgress
  repeat' split
  all_goals simp_all
@[simp] theorem grantEgress_linePort (s : State) : (grantEgress s).linePort = s.linePort := by
  unfold grantEgress
  repeat' split
  all_goals simp_all
@[simp] theorem grantEgress_guardPath (s : State) : (grantEgress s).guardPath = s.guardPath := by
  unfold grantEgress
  repeat' split
  all_goals simp_all
@[simp] theorem grantEgress_matchTable (s : State) : (grantEgress s).matchTable = s.matchTable := by
  unfold grantEgress
  repeat' split
  all_goals simp_all
@[simp] theorem grantEgress_identities (s : State) : (grantEgress s).identities = s.identities := by
  unfold grantEgress
  repeat' split
  all_goals simp_all
@[simp] theorem grantEgress_names (s : State) : (grantEgress s).names = s.names := by
  unfold grantEgress
  repeat' split
  all_goals simp_all
@[simp] theorem grantEgress_sessions (s : State) : (grantEgress s).sessions = s.sessions := by
  unfold grantEgress
  repeat' split
  all_goals simp_all
@[simp] theorem grantEgress_probes (s : State) : (grantEgress s).probes = s.probes := by
  unfold grantEgress
  repeat' split
  all_goals simp_all
@[simp] theorem grantEgress_reply (s : State) : (grantEgress s).reply = s.reply := by
  unfold grantEgress
  repeat' split
  all_goals simp_all
@[simp] theorem grantEgress_arb (s : State) : (grantEgress s).arb = s.arb := by
  unfold grantEgress
  repeat' split
  all_goals simp_all
@[simp] theorem grantEgress_bank (s : State) : (grantEgress s).bank = s.bank := by
  unfold grantEgress
  repeat' split
  all_goals simp_all
@[simp] theorem grantEgress_wake (s : State) : (grantEgress s).wake = s.wake := by
  unfold grantEgress
  repeat' split
  all_goals simp_all
@[simp] theorem grantEgress_ctl (s : State) : (grantEgress s).ctl = s.ctl := by
  unfold grantEgress
  repeat' split
  all_goals simp_all
@[simp] theorem completeItem_pending (x : EgressItem) (s : State) : (completeItem x s).pending = s.pending := by
  unfold completeItem
  repeat' split
  all_goals simp_all
@[simp] theorem completeItem_linePort (x : EgressItem) (s : State) : (completeItem x s).linePort = s.linePort := by
  unfold completeItem
  repeat' split
  all_goals simp_all
@[simp] theorem completeItem_guardPath (x : EgressItem) (s : State) : (completeItem x s).guardPath = s.guardPath := by
  unfold completeItem
  repeat' split
  all_goals simp_all
@[simp] theorem completeItem_matchTable (x : EgressItem) (s : State) : (completeItem x s).matchTable = s.matchTable := by
  unfold completeItem
  repeat' split
  all_goals simp_all
@[simp] theorem completeItem_identities (x : EgressItem) (s : State) : (completeItem x s).identities = s.identities := by
  unfold completeItem
  repeat' split
  all_goals simp_all
@[simp] theorem completeItem_names (x : EgressItem) (s : State) : (completeItem x s).names = s.names := by
  unfold completeItem
  repeat' split
  all_goals simp_all
@[simp] theorem completeItem_arb (x : EgressItem) (s : State) : (completeItem x s).arb = s.arb := by
  unfold completeItem
  repeat' split
  all_goals simp_all
@[simp] theorem completeItem_bank (x : EgressItem) (s : State) : (completeItem x s).bank = s.bank := by
  unfold completeItem
  repeat' split
  all_goals simp_all
@[simp] theorem completeItem_wake (x : EgressItem) (s : State) : (completeItem x s).wake = s.wake := by
  unfold completeItem
  repeat' split
  all_goals simp_all
@[simp] theorem countParse_pending (p : Path) (q : PStatus) (s : State) : (countParse p q s).pending = s.pending := by
  unfold countParse
  repeat' split
  all_goals simp_all
@[simp] theorem countParse_modeCtl (p : Path) (q : PStatus) (s : State) : (countParse p q s).modeCtl = s.modeCtl := by
  unfold countParse
  repeat' split
  all_goals simp_all
@[simp] theorem countParse_linePort (p : Path) (q : PStatus) (s : State) : (countParse p q s).linePort = s.linePort := by
  unfold countParse
  repeat' split
  all_goals simp_all
@[simp] theorem countParse_guardPath (p : Path) (q : PStatus) (s : State) : (countParse p q s).guardPath = s.guardPath := by
  unfold countParse
  repeat' split
  all_goals simp_all
@[simp] theorem countParse_matchTable (p : Path) (q : PStatus) (s : State) : (countParse p q s).matchTable = s.matchTable := by
  unfold countParse
  repeat' split
  all_goals simp_all
@[simp] theorem countParse_identities (p : Path) (q : PStatus) (s : State) : (countParse p q s).identities = s.identities := by
  unfold countParse
  repeat' split
  all_goals simp_all
@[simp] theorem countParse_names (p : Path) (q : PStatus) (s : State) : (countParse p q s).names = s.names := by
  unfold countParse
  repeat' split
  all_goals simp_all
@[simp] theorem countParse_sessions (p : Path) (q : PStatus) (s : State) : (countParse p q s).sessions = s.sessions := by
  unfold countParse
  repeat' split
  all_goals simp_all
@[simp] theorem countParse_probes (p : Path) (q : PStatus) (s : State) : (countParse p q s).probes = s.probes := by
  unfold countParse
  repeat' split
  all_goals simp_all
@[simp] theorem countParse_reply (p : Path) (q : PStatus) (s : State) : (countParse p q s).reply = s.reply := by
  unfold countParse
  repeat' split
  all_goals simp_all
@[simp] theorem countParse_arb (p : Path) (q : PStatus) (s : State) : (countParse p q s).arb = s.arb := by
  unfold countParse
  repeat' split
  all_goals simp_all
@[simp] theorem countParse_bank (p : Path) (q : PStatus) (s : State) : (countParse p q s).bank = s.bank := by
  unfold countParse
  repeat' split
  all_goals simp_all
@[simp] theorem countParse_wake (p : Path) (q : PStatus) (s : State) : (countParse p q s).wake = s.wake := by
  unfold countParse
  repeat' split
  all_goals simp_all
@[simp] theorem countParse_hold (p : Path) (q : PStatus) (s : State) : (countParse p q s).hold = s.hold := by
  unfold countParse
  repeat' split
  all_goals simp_all
@[simp] theorem countParse_sys (p : Path) (q : PStatus) (s : State) : (countParse p q s).sys = s.sys := by
  unfold countParse
  repeat' split
  all_goals simp_all
@[simp] theorem countConflict_pending (i : Nat) (s : State) : (countConflict i s).pending = s.pending := by simp [countConflict]
@[simp] theorem countConflict_modeCtl (i : Nat) (s : State) : (countConflict i s).modeCtl = s.modeCtl := by simp [countConflict]
@[simp] theorem countConflict_linePort (i : Nat) (s : State) : (countConflict i s).linePort = s.linePort := by simp [countConflict]
@[simp] theorem countConflict_guardPath (i : Nat) (s : State) : (countConflict i s).guardPath = s.guardPath := by simp [countConflict]
@[simp] theorem countConflict_matchTable (i : Nat) (s : State) : (countConflict i s).matchTable = s.matchTable := by simp [countConflict]
@[simp] theorem countConflict_names (i : Nat) (s : State) : (countConflict i s).names = s.names := by simp [countConflict]
@[simp] theorem countConflict_sessions (i : Nat) (s : State) : (countConflict i s).sessions = s.sessions := by simp [countConflict]
@[simp] theorem countConflict_probes (i : Nat) (s : State) : (countConflict i s).probes = s.probes := by simp [countConflict]
@[simp] theorem countConflict_reply (i : Nat) (s : State) : (countConflict i s).reply = s.reply := by simp [countConflict]
@[simp] theorem countConflict_arb (i : Nat) (s : State) : (countConflict i s).arb = s.arb := by simp [countConflict]
@[simp] theorem countConflict_bank (i : Nat) (s : State) : (countConflict i s).bank = s.bank := by simp [countConflict]
@[simp] theorem countConflict_wake (i : Nat) (s : State) : (countConflict i s).wake = s.wake := by simp [countConflict]
@[simp] theorem countConflict_hold (i : Nat) (s : State) : (countConflict i s).hold = s.hold := by simp [countConflict]
@[simp] theorem countConflict_sys (i : Nat) (s : State) : (countConflict i s).sys = s.sys := by simp [countConflict]
@[simp] theorem Judged.decline_pending (s : State) : ((Judged.decline s).state).pending = s.pending := by simp [Judged.decline]
@[simp] theorem Judged.decline_modeCtl (s : State) : ((Judged.decline s).state).modeCtl = s.modeCtl := by simp [Judged.decline]
@[simp] theorem Judged.decline_linePort (s : State) : ((Judged.decline s).state).linePort = s.linePort := by simp [Judged.decline]
@[simp] theorem Judged.decline_guardPath (s : State) : ((Judged.decline s).state).guardPath = s.guardPath := by simp [Judged.decline]
@[simp] theorem Judged.decline_matchTable (s : State) : ((Judged.decline s).state).matchTable = s.matchTable := by simp [Judged.decline]
@[simp] theorem Judged.decline_identities (s : State) : ((Judged.decline s).state).identities = s.identities := by simp [Judged.decline]
@[simp] theorem Judged.decline_names (s : State) : ((Judged.decline s).state).names = s.names := by simp [Judged.decline]
@[simp] theorem Judged.decline_sessions (s : State) : ((Judged.decline s).state).sessions = s.sessions := by simp [Judged.decline]
@[simp] theorem Judged.decline_probes (s : State) : ((Judged.decline s).state).probes = s.probes := by simp [Judged.decline]
@[simp] theorem Judged.decline_reply (s : State) : ((Judged.decline s).state).reply = s.reply := by simp [Judged.decline]
@[simp] theorem Judged.decline_arb (s : State) : ((Judged.decline s).state).arb = s.arb := by simp [Judged.decline]
@[simp] theorem Judged.decline_bank (s : State) : ((Judged.decline s).state).bank = s.bank := by simp [Judged.decline]
@[simp] theorem Judged.decline_wake (s : State) : ((Judged.decline s).state).wake = s.wake := by simp [Judged.decline]
@[simp] theorem Judged.decline_hold (s : State) : ((Judged.decline s).state).hold = s.hold := by simp [Judged.decline]
@[simp] theorem Judged.decline_sys (s : State) : ((Judged.decline s).state).sys = s.sys := by simp [Judged.decline]
@[simp] theorem Judged.decline_ctl (s : State) : ((Judged.decline s).state).ctl = s.ctl := by simp [Judged.decline]
@[simp] theorem Judged.done_pending (s : State) : ((Judged.done s).state).pending = s.pending := by simp [Judged.done]
@[simp] theorem Judged.done_modeCtl (s : State) : ((Judged.done s).state).modeCtl = s.modeCtl := by simp [Judged.done]
@[simp] theorem Judged.done_linePort (s : State) : ((Judged.done s).state).linePort = s.linePort := by simp [Judged.done]
@[simp] theorem Judged.done_guardPath (s : State) : ((Judged.done s).state).guardPath = s.guardPath := by simp [Judged.done]
@[simp] theorem Judged.done_matchTable (s : State) : ((Judged.done s).state).matchTable = s.matchTable := by simp [Judged.done]
@[simp] theorem Judged.done_identities (s : State) : ((Judged.done s).state).identities = s.identities := by simp [Judged.done]
@[simp] theorem Judged.done_names (s : State) : ((Judged.done s).state).names = s.names := by simp [Judged.done]
@[simp] theorem Judged.done_sessions (s : State) : ((Judged.done s).state).sessions = s.sessions := by simp [Judged.done]
@[simp] theorem Judged.done_probes (s : State) : ((Judged.done s).state).probes = s.probes := by simp [Judged.done]
@[simp] theorem Judged.done_reply (s : State) : ((Judged.done s).state).reply = s.reply := by simp [Judged.done]
@[simp] theorem Judged.done_arb (s : State) : ((Judged.done s).state).arb = s.arb := by simp [Judged.done]
@[simp] theorem Judged.done_bank (s : State) : ((Judged.done s).state).bank = s.bank := by simp [Judged.done]
@[simp] theorem Judged.done_wake (s : State) : ((Judged.done s).state).wake = s.wake := by simp [Judged.done]
@[simp] theorem Judged.done_hold (s : State) : ((Judged.done s).state).hold = s.hold := by simp [Judged.done]
@[simp] theorem Judged.done_sys (s : State) : ((Judged.done s).state).sys = s.sys := by simp [Judged.done]
@[simp] theorem Judged.done_ctl (s : State) : ((Judged.done s).state).ctl = s.ctl := by simp [Judged.done]
@[simp] theorem passOn_pending (i : Nat) (newState : SessionState) (c : Nat) (k : WakeCause) (p : ParsedFrame) (s : State) : ((passOn i newState c k p s).state).pending = s.pending := by simp [passOn]
@[simp] theorem passOn_modeCtl (i : Nat) (newState : SessionState) (c : Nat) (k : WakeCause) (p : ParsedFrame) (s : State) : ((passOn i newState c k p s).state).modeCtl = s.modeCtl := by simp [passOn]
@[simp] theorem passOn_linePort (i : Nat) (newState : SessionState) (c : Nat) (k : WakeCause) (p : ParsedFrame) (s : State) : ((passOn i newState c k p s).state).linePort = s.linePort := by simp [passOn]
@[simp] theorem passOn_guardPath (i : Nat) (newState : SessionState) (c : Nat) (k : WakeCause) (p : ParsedFrame) (s : State) : ((passOn i newState c k p s).state).guardPath = s.guardPath := by simp [passOn]
@[simp] theorem passOn_matchTable (i : Nat) (newState : SessionState) (c : Nat) (k : WakeCause) (p : ParsedFrame) (s : State) : ((passOn i newState c k p s).state).matchTable = s.matchTable := by simp [passOn]
@[simp] theorem passOn_identities (i : Nat) (newState : SessionState) (c : Nat) (k : WakeCause) (p : ParsedFrame) (s : State) : ((passOn i newState c k p s).state).identities = s.identities := by simp [passOn]
@[simp] theorem passOn_names (i : Nat) (newState : SessionState) (c : Nat) (k : WakeCause) (p : ParsedFrame) (s : State) : ((passOn i newState c k p s).state).names = s.names := by simp [passOn]
@[simp] theorem passOn_reply (i : Nat) (newState : SessionState) (c : Nat) (k : WakeCause) (p : ParsedFrame) (s : State) : ((passOn i newState c k p s).state).reply = s.reply := by simp [passOn]
@[simp] theorem passOn_arb (i : Nat) (newState : SessionState) (c : Nat) (k : WakeCause) (p : ParsedFrame) (s : State) : ((passOn i newState c k p s).state).arb = s.arb := by simp [passOn]
@[simp] theorem passOn_hold (i : Nat) (newState : SessionState) (c : Nat) (k : WakeCause) (p : ParsedFrame) (s : State) : ((passOn i newState c k p s).state).hold = s.hold := by simp [passOn]
@[simp] theorem passOn_sys (i : Nat) (newState : SessionState) (c : Nat) (k : WakeCause) (p : ParsedFrame) (s : State) : ((passOn i newState c k p s).state).sys = s.sys := by simp [passOn]
@[simp] theorem passOn_ctl (i : Nat) (newState : SessionState) (c : Nat) (k : WakeCause) (p : ParsedFrame) (s : State) : ((passOn i newState c k p s).state).ctl = s.ctl := by simp [passOn]
@[simp] theorem dropBadSum_pending (p : ParsedFrame) (s : State) : ((dropBadSum p s).state).pending = s.pending := by simp [dropBadSum]
@[simp] theorem dropBadSum_modeCtl (p : ParsedFrame) (s : State) : ((dropBadSum p s).state).modeCtl = s.modeCtl := by simp [dropBadSum]
@[simp] theorem dropBadSum_linePort (p : ParsedFrame) (s : State) : ((dropBadSum p s).state).linePort = s.linePort := by simp [dropBadSum]
@[simp] theorem dropBadSum_guardPath (p : ParsedFrame) (s : State) : ((dropBadSum p s).state).guardPath = s.guardPath := by simp [dropBadSum]
@[simp] theorem dropBadSum_matchTable (p : ParsedFrame) (s : State) : ((dropBadSum p s).state).matchTable = s.matchTable := by simp [dropBadSum]
@[simp] theorem dropBadSum_identities (p : ParsedFrame) (s : State) : ((dropBadSum p s).state).identities = s.identities := by simp [dropBadSum]
@[simp] theorem dropBadSum_names (p : ParsedFrame) (s : State) : ((dropBadSum p s).state).names = s.names := by simp [dropBadSum]
@[simp] theorem dropBadSum_sessions (p : ParsedFrame) (s : State) : ((dropBadSum p s).state).sessions = s.sessions := by simp [dropBadSum]
@[simp] theorem dropBadSum_probes (p : ParsedFrame) (s : State) : ((dropBadSum p s).state).probes = s.probes := by simp [dropBadSum]
@[simp] theorem dropBadSum_reply (p : ParsedFrame) (s : State) : ((dropBadSum p s).state).reply = s.reply := by simp [dropBadSum]
@[simp] theorem dropBadSum_arb (p : ParsedFrame) (s : State) : ((dropBadSum p s).state).arb = s.arb := by simp [dropBadSum]
@[simp] theorem dropBadSum_bank (p : ParsedFrame) (s : State) : ((dropBadSum p s).state).bank = s.bank := by simp [dropBadSum]
@[simp] theorem dropBadSum_wake (p : ParsedFrame) (s : State) : ((dropBadSum p s).state).wake = s.wake := by simp [dropBadSum]
@[simp] theorem dropBadSum_hold (p : ParsedFrame) (s : State) : ((dropBadSum p s).state).hold = s.hold := by simp [dropBadSum]
@[simp] theorem dropBadSum_sys (p : ParsedFrame) (s : State) : ((dropBadSum p s).state).sys = s.sys := by simp [dropBadSum]
@[simp] theorem skipReply_pending (p : Path) (s : State) : (skipReply p s).pending = s.pending := by simp [skipReply]
@[simp] theorem skipReply_modeCtl (p : Path) (s : State) : (skipReply p s).modeCtl = s.modeCtl := by simp [skipReply]
@[simp] theorem skipReply_linePort (p : Path) (s : State) : (skipReply p s).linePort = s.linePort := by simp [skipReply]
@[simp] theorem skipReply_guardPath (p : Path) (s : State) : (skipReply p s).guardPath = s.guardPath := by simp [skipReply]
@[simp] theorem skipReply_matchTable (p : Path) (s : State) : (skipReply p s).matchTable = s.matchTable := by simp [skipReply]
@[simp] theorem skipReply_identities (p : Path) (s : State) : (skipReply p s).identities = s.identities := by simp [skipReply]
@[simp] theorem skipReply_names (p : Path) (s : State) : (skipReply p s).names = s.names := by simp [skipReply]
@[simp] theorem skipReply_sessions (p : Path) (s : State) : (skipReply p s).sessions = s.sessions := by simp [skipReply]
@[simp] theorem skipReply_probes (p : Path) (s : State) : (skipReply p s).probes = s.probes := by simp [skipReply]
@[simp] theorem skipReply_reply (p : Path) (s : State) : (skipReply p s).reply = s.reply := by simp [skipReply]
@[simp] theorem skipReply_arb (p : Path) (s : State) : (skipReply p s).arb = s.arb := by simp [skipReply]
@[simp] theorem skipReply_bank (p : Path) (s : State) : (skipReply p s).bank = s.bank := by simp [skipReply]
@[simp] theorem skipReply_wake (p : Path) (s : State) : (skipReply p s).wake = s.wake := by simp [skipReply]
@[simp] theorem skipReply_hold (p : Path) (s : State) : (skipReply p s).hold = s.hold := by simp [skipReply]
@[simp] theorem skipReply_sys (p : Path) (s : State) : (skipReply p s).sys = s.sys := by simp [skipReply]
@[simp] theorem defend_pending (f : ConflictForm) (i : Identity) (p : ParsedFrame) (s : State) : (defend f i p s).pending = s.pending := by
  unfold defend
  repeat' split
  all_goals (try rename_i h; obtain ⟨_, -, rfl⟩ := buildReply_some h)
  all_goals simp
@[simp] theorem defend_modeCtl (f : ConflictForm) (i : Identity) (p : ParsedFrame) (s : State) : (defend f i p s).modeCtl = s.modeCtl := by
  unfold defend
  repeat' split
  all_goals (try rename_i h; obtain ⟨_, -, rfl⟩ := buildReply_some h)
  all_goals simp
@[simp] theorem defend_linePort (f : ConflictForm) (i : Identity) (p : ParsedFrame) (s : State) : (defend f i p s).linePort = s.linePort := by
  unfold defend
  repeat' split
  all_goals (try rename_i h; obtain ⟨_, -, rfl⟩ := buildReply_some h)
  all_goals simp
@[simp] theorem defend_guardPath (f : ConflictForm) (i : Identity) (p : ParsedFrame) (s : State) : (defend f i p s).guardPath = s.guardPath := by
  unfold defend
  repeat' split
  all_goals (try rename_i h; obtain ⟨_, -, rfl⟩ := buildReply_some h)
  all_goals simp
@[simp] theorem defend_matchTable (f : ConflictForm) (i : Identity) (p : ParsedFrame) (s : State) : (defend f i p s).matchTable = s.matchTable := by
  unfold defend
  repeat' split
  all_goals (try rename_i h; obtain ⟨_, -, rfl⟩ := buildReply_some h)
  all_goals simp
@[simp] theorem defend_identities (f : ConflictForm) (i : Identity) (p : ParsedFrame) (s : State) : (defend f i p s).identities = s.identities := by
  unfold defend
  repeat' split
  all_goals (try rename_i h; obtain ⟨_, -, rfl⟩ := buildReply_some h)
  all_goals simp
@[simp] theorem defend_names (f : ConflictForm) (i : Identity) (p : ParsedFrame) (s : State) : (defend f i p s).names = s.names := by
  unfold defend
  repeat' split
  all_goals (try rename_i h; obtain ⟨_, -, rfl⟩ := buildReply_some h)
  all_goals simp
@[simp] theorem defend_sessions (f : ConflictForm) (i : Identity) (p : ParsedFrame) (s : State) : (defend f i p s).sessions = s.sessions := by
  unfold defend
  repeat' split
  all_goals (try rename_i h; obtain ⟨_, -, rfl⟩ := buildReply_some h)
  all_goals simp
@[simp] theorem defend_probes (f : ConflictForm) (i : Identity) (p : ParsedFrame) (s : State) : (defend f i p s).probes = s.probes := by
  unfold defend
  repeat' split
  all_goals (try rename_i h; obtain ⟨_, -, rfl⟩ := buildReply_some h)
  all_goals simp
@[simp] theorem defend_arb (f : ConflictForm) (i : Identity) (p : ParsedFrame) (s : State) : (defend f i p s).arb = s.arb := by
  unfold defend
  repeat' split
  all_goals (try rename_i h; obtain ⟨_, -, rfl⟩ := buildReply_some h)
  all_goals simp
@[simp] theorem defend_bank (f : ConflictForm) (i : Identity) (p : ParsedFrame) (s : State) : (defend f i p s).bank = s.bank := by
  unfold defend
  repeat' split
  all_goals (try rename_i h; obtain ⟨_, -, rfl⟩ := buildReply_some h)
  all_goals simp
@[simp] theorem defend_wake (f : ConflictForm) (i : Identity) (p : ParsedFrame) (s : State) : (defend f i p s).wake = s.wake := by
  unfold defend
  repeat' split
  all_goals (try rename_i h; obtain ⟨_, -, rfl⟩ := buildReply_some h)
  all_goals simp
@[simp] theorem defend_hold (f : ConflictForm) (i : Identity) (p : ParsedFrame) (s : State) : (defend f i p s).hold = s.hold := by
  unfold defend
  repeat' split
  all_goals (try rename_i h; obtain ⟨_, -, rfl⟩ := buildReply_some h)
  all_goals simp
@[simp] theorem defend_sys (f : ConflictForm) (i : Identity) (p : ParsedFrame) (s : State) : (defend f i p s).sys = s.sys := by
  unfold defend
  repeat' split
  all_goals (try rename_i h; obtain ⟨_, -, rfl⟩ := buildReply_some h)
  all_goals simp
@[simp] theorem answer_pending (p : ParsedFrame) (c : Counter) (t : Bool) (fr : BitVec 16 → Frame) (s : State) : (answer p c t fr s).pending = s.pending := by
  unfold answer
  repeat' split
  all_goals (try rename_i h; obtain ⟨_, -, rfl⟩ := buildReply_some h)
  all_goals simp
@[simp] theorem answer_modeCtl (p : ParsedFrame) (c : Counter) (t : Bool) (fr : BitVec 16 → Frame) (s : State) : (answer p c t fr s).modeCtl = s.modeCtl := by
  unfold answer
  repeat' split
  all_goals (try rename_i h; obtain ⟨_, -, rfl⟩ := buildReply_some h)
  all_goals simp
@[simp] theorem answer_linePort (p : ParsedFrame) (c : Counter) (t : Bool) (fr : BitVec 16 → Frame) (s : State) : (answer p c t fr s).linePort = s.linePort := by
  unfold answer
  repeat' split
  all_goals (try rename_i h; obtain ⟨_, -, rfl⟩ := buildReply_some h)
  all_goals simp
@[simp] theorem answer_guardPath (p : ParsedFrame) (c : Counter) (t : Bool) (fr : BitVec 16 → Frame) (s : State) : (answer p c t fr s).guardPath = s.guardPath := by
  unfold answer
  repeat' split
  all_goals (try rename_i h; obtain ⟨_, -, rfl⟩ := buildReply_some h)
  all_goals simp
@[simp] theorem answer_matchTable (p : ParsedFrame) (c : Counter) (t : Bool) (fr : BitVec 16 → Frame) (s : State) : (answer p c t fr s).matchTable = s.matchTable := by
  unfold answer
  repeat' split
  all_goals (try rename_i h; obtain ⟨_, -, rfl⟩ := buildReply_some h)
  all_goals simp
@[simp] theorem answer_identities (p : ParsedFrame) (c : Counter) (t : Bool) (fr : BitVec 16 → Frame) (s : State) : (answer p c t fr s).identities = s.identities := by
  unfold answer
  repeat' split
  all_goals (try rename_i h; obtain ⟨_, -, rfl⟩ := buildReply_some h)
  all_goals simp
@[simp] theorem answer_names (p : ParsedFrame) (c : Counter) (t : Bool) (fr : BitVec 16 → Frame) (s : State) : (answer p c t fr s).names = s.names := by
  unfold answer
  repeat' split
  all_goals (try rename_i h; obtain ⟨_, -, rfl⟩ := buildReply_some h)
  all_goals simp
@[simp] theorem answer_sessions (p : ParsedFrame) (c : Counter) (t : Bool) (fr : BitVec 16 → Frame) (s : State) : (answer p c t fr s).sessions = s.sessions := by
  unfold answer
  repeat' split
  all_goals (try rename_i h; obtain ⟨_, -, rfl⟩ := buildReply_some h)
  all_goals simp
@[simp] theorem answer_probes (p : ParsedFrame) (c : Counter) (t : Bool) (fr : BitVec 16 → Frame) (s : State) : (answer p c t fr s).probes = s.probes := by
  unfold answer
  repeat' split
  all_goals (try rename_i h; obtain ⟨_, -, rfl⟩ := buildReply_some h)
  all_goals simp
@[simp] theorem answer_arb (p : ParsedFrame) (c : Counter) (t : Bool) (fr : BitVec 16 → Frame) (s : State) : (answer p c t fr s).arb = s.arb := by
  unfold answer
  repeat' split
  all_goals (try rename_i h; obtain ⟨_, -, rfl⟩ := buildReply_some h)
  all_goals simp
@[simp] theorem answer_bank (p : ParsedFrame) (c : Counter) (t : Bool) (fr : BitVec 16 → Frame) (s : State) : (answer p c t fr s).bank = s.bank := by
  unfold answer
  repeat' split
  all_goals (try rename_i h; obtain ⟨_, -, rfl⟩ := buildReply_some h)
  all_goals simp
@[simp] theorem answer_wake (p : ParsedFrame) (c : Counter) (t : Bool) (fr : BitVec 16 → Frame) (s : State) : (answer p c t fr s).wake = s.wake := by
  unfold answer
  repeat' split
  all_goals (try rename_i h; obtain ⟨_, -, rfl⟩ := buildReply_some h)
  all_goals simp
@[simp] theorem answer_hold (p : ParsedFrame) (c : Counter) (t : Bool) (fr : BitVec 16 → Frame) (s : State) : (answer p c t fr s).hold = s.hold := by
  unfold answer
  repeat' split
  all_goals (try rename_i h; obtain ⟨_, -, rfl⟩ := buildReply_some h)
  all_goals simp
@[simp] theorem answer_sys (p : ParsedFrame) (c : Counter) (t : Bool) (fr : BitVec 16 → Frame) (s : State) : (answer p c t fr s).sys = s.sys := by
  unfold answer
  repeat' split
  all_goals (try rename_i h; obtain ⟨_, -, rfl⟩ := buildReply_some h)
  all_goals simp
@[simp] theorem answerName_pending (p : ParsedFrame) (e : Nat) (t : Bool) (fr : BitVec 16 → Frame) (s : State) : (answerName p e t fr s).pending = s.pending := by
  simp only [answerName]
  repeat' split
  all_goals (try (rename_i h _; obtain ⟨_, -, rfl⟩ := buildReply_some h))
  all_goals (try (rename_i h; obtain ⟨_, -, rfl⟩ := buildReply_some h))
  all_goals simp
@[simp] theorem answerName_modeCtl (p : ParsedFrame) (e : Nat) (t : Bool) (fr : BitVec 16 → Frame) (s : State) : (answerName p e t fr s).modeCtl = s.modeCtl := by
  simp only [answerName]
  repeat' split
  all_goals (try (rename_i h _; obtain ⟨_, -, rfl⟩ := buildReply_some h))
  all_goals (try (rename_i h; obtain ⟨_, -, rfl⟩ := buildReply_some h))
  all_goals simp
@[simp] theorem answerName_linePort (p : ParsedFrame) (e : Nat) (t : Bool) (fr : BitVec 16 → Frame) (s : State) : (answerName p e t fr s).linePort = s.linePort := by
  simp only [answerName]
  repeat' split
  all_goals (try (rename_i h _; obtain ⟨_, -, rfl⟩ := buildReply_some h))
  all_goals (try (rename_i h; obtain ⟨_, -, rfl⟩ := buildReply_some h))
  all_goals simp
@[simp] theorem answerName_guardPath (p : ParsedFrame) (e : Nat) (t : Bool) (fr : BitVec 16 → Frame) (s : State) : (answerName p e t fr s).guardPath = s.guardPath := by
  simp only [answerName]
  repeat' split
  all_goals (try (rename_i h _; obtain ⟨_, -, rfl⟩ := buildReply_some h))
  all_goals (try (rename_i h; obtain ⟨_, -, rfl⟩ := buildReply_some h))
  all_goals simp
@[simp] theorem answerName_matchTable (p : ParsedFrame) (e : Nat) (t : Bool) (fr : BitVec 16 → Frame) (s : State) : (answerName p e t fr s).matchTable = s.matchTable := by
  simp only [answerName]
  repeat' split
  all_goals (try (rename_i h _; obtain ⟨_, -, rfl⟩ := buildReply_some h))
  all_goals (try (rename_i h; obtain ⟨_, -, rfl⟩ := buildReply_some h))
  all_goals simp
@[simp] theorem answerName_identities (p : ParsedFrame) (e : Nat) (t : Bool) (fr : BitVec 16 → Frame) (s : State) : (answerName p e t fr s).identities = s.identities := by
  simp only [answerName]
  repeat' split
  all_goals (try (rename_i h _; obtain ⟨_, -, rfl⟩ := buildReply_some h))
  all_goals (try (rename_i h; obtain ⟨_, -, rfl⟩ := buildReply_some h))
  all_goals simp
@[simp] theorem answerName_sessions (p : ParsedFrame) (e : Nat) (t : Bool) (fr : BitVec 16 → Frame) (s : State) : (answerName p e t fr s).sessions = s.sessions := by
  simp only [answerName]
  repeat' split
  all_goals (try (rename_i h _; obtain ⟨_, -, rfl⟩ := buildReply_some h))
  all_goals (try (rename_i h; obtain ⟨_, -, rfl⟩ := buildReply_some h))
  all_goals simp
@[simp] theorem answerName_probes (p : ParsedFrame) (e : Nat) (t : Bool) (fr : BitVec 16 → Frame) (s : State) : (answerName p e t fr s).probes = s.probes := by
  simp only [answerName]
  repeat' split
  all_goals (try (rename_i h _; obtain ⟨_, -, rfl⟩ := buildReply_some h))
  all_goals (try (rename_i h; obtain ⟨_, -, rfl⟩ := buildReply_some h))
  all_goals simp
@[simp] theorem answerName_arb (p : ParsedFrame) (e : Nat) (t : Bool) (fr : BitVec 16 → Frame) (s : State) : (answerName p e t fr s).arb = s.arb := by
  simp only [answerName]
  repeat' split
  all_goals (try (rename_i h _; obtain ⟨_, -, rfl⟩ := buildReply_some h))
  all_goals (try (rename_i h; obtain ⟨_, -, rfl⟩ := buildReply_some h))
  all_goals simp
@[simp] theorem answerName_bank (p : ParsedFrame) (e : Nat) (t : Bool) (fr : BitVec 16 → Frame) (s : State) : (answerName p e t fr s).bank = s.bank := by
  simp only [answerName]
  repeat' split
  all_goals (try (rename_i h _; obtain ⟨_, -, rfl⟩ := buildReply_some h))
  all_goals (try (rename_i h; obtain ⟨_, -, rfl⟩ := buildReply_some h))
  all_goals simp
@[simp] theorem answerName_wake (p : ParsedFrame) (e : Nat) (t : Bool) (fr : BitVec 16 → Frame) (s : State) : (answerName p e t fr s).wake = s.wake := by
  simp only [answerName]
  repeat' split
  all_goals (try (rename_i h _; obtain ⟨_, -, rfl⟩ := buildReply_some h))
  all_goals (try (rename_i h; obtain ⟨_, -, rfl⟩ := buildReply_some h))
  all_goals simp
@[simp] theorem answerName_hold (p : ParsedFrame) (e : Nat) (t : Bool) (fr : BitVec 16 → Frame) (s : State) : (answerName p e t fr s).hold = s.hold := by
  simp only [answerName]
  repeat' split
  all_goals (try (rename_i h _; obtain ⟨_, -, rfl⟩ := buildReply_some h))
  all_goals (try (rename_i h; obtain ⟨_, -, rfl⟩ := buildReply_some h))
  all_goals simp
@[simp] theorem answerName_sys (p : ParsedFrame) (e : Nat) (t : Bool) (fr : BitVec 16 → Frame) (s : State) : (answerName p e t fr s).sys = s.sys := by
  simp only [answerName]
  repeat' split
  all_goals (try (rename_i h _; obtain ⟨_, -, rfl⟩ := buildReply_some h))
  all_goals (try (rename_i h; obtain ⟨_, -, rfl⟩ := buildReply_some h))
  all_goals simp
@[simp] theorem ackReply_pending (i : Nat) (p : ParsedFrame) (s : State) : (ackReply i p s).pending = s.pending := by
  simp only [ackReply]
  repeat' split
  all_goals (try (rename_i h _; obtain ⟨_, -, rfl⟩ := buildReply_some h))
  all_goals (try (rename_i h; obtain ⟨_, -, rfl⟩ := buildReply_some h))
  all_goals simp
@[simp] theorem ackReply_modeCtl (i : Nat) (p : ParsedFrame) (s : State) : (ackReply i p s).modeCtl = s.modeCtl := by
  simp only [ackReply]
  repeat' split
  all_goals (try (rename_i h _; obtain ⟨_, -, rfl⟩ := buildReply_some h))
  all_goals (try (rename_i h; obtain ⟨_, -, rfl⟩ := buildReply_some h))
  all_goals simp
@[simp] theorem ackReply_linePort (i : Nat) (p : ParsedFrame) (s : State) : (ackReply i p s).linePort = s.linePort := by
  simp only [ackReply]
  repeat' split
  all_goals (try (rename_i h _; obtain ⟨_, -, rfl⟩ := buildReply_some h))
  all_goals (try (rename_i h; obtain ⟨_, -, rfl⟩ := buildReply_some h))
  all_goals simp
@[simp] theorem ackReply_guardPath (i : Nat) (p : ParsedFrame) (s : State) : (ackReply i p s).guardPath = s.guardPath := by
  simp only [ackReply]
  repeat' split
  all_goals (try (rename_i h _; obtain ⟨_, -, rfl⟩ := buildReply_some h))
  all_goals (try (rename_i h; obtain ⟨_, -, rfl⟩ := buildReply_some h))
  all_goals simp
@[simp] theorem ackReply_matchTable (i : Nat) (p : ParsedFrame) (s : State) : (ackReply i p s).matchTable = s.matchTable := by
  simp only [ackReply]
  repeat' split
  all_goals (try (rename_i h _; obtain ⟨_, -, rfl⟩ := buildReply_some h))
  all_goals (try (rename_i h; obtain ⟨_, -, rfl⟩ := buildReply_some h))
  all_goals simp
@[simp] theorem ackReply_identities (i : Nat) (p : ParsedFrame) (s : State) : (ackReply i p s).identities = s.identities := by
  simp only [ackReply]
  repeat' split
  all_goals (try (rename_i h _; obtain ⟨_, -, rfl⟩ := buildReply_some h))
  all_goals (try (rename_i h; obtain ⟨_, -, rfl⟩ := buildReply_some h))
  all_goals simp
@[simp] theorem ackReply_names (i : Nat) (p : ParsedFrame) (s : State) : (ackReply i p s).names = s.names := by
  simp only [ackReply]
  repeat' split
  all_goals (try (rename_i h _; obtain ⟨_, -, rfl⟩ := buildReply_some h))
  all_goals (try (rename_i h; obtain ⟨_, -, rfl⟩ := buildReply_some h))
  all_goals simp
@[simp] theorem ackReply_probes (i : Nat) (p : ParsedFrame) (s : State) : (ackReply i p s).probes = s.probes := by
  simp only [ackReply]
  repeat' split
  all_goals (try (rename_i h _; obtain ⟨_, -, rfl⟩ := buildReply_some h))
  all_goals (try (rename_i h; obtain ⟨_, -, rfl⟩ := buildReply_some h))
  all_goals simp
@[simp] theorem ackReply_arb (i : Nat) (p : ParsedFrame) (s : State) : (ackReply i p s).arb = s.arb := by
  simp only [ackReply]
  repeat' split
  all_goals (try (rename_i h _; obtain ⟨_, -, rfl⟩ := buildReply_some h))
  all_goals (try (rename_i h; obtain ⟨_, -, rfl⟩ := buildReply_some h))
  all_goals simp
@[simp] theorem ackReply_bank (i : Nat) (p : ParsedFrame) (s : State) : (ackReply i p s).bank = s.bank := by
  simp only [ackReply]
  repeat' split
  all_goals (try (rename_i h _; obtain ⟨_, -, rfl⟩ := buildReply_some h))
  all_goals (try (rename_i h; obtain ⟨_, -, rfl⟩ := buildReply_some h))
  all_goals simp
@[simp] theorem ackReply_wake (i : Nat) (p : ParsedFrame) (s : State) : (ackReply i p s).wake = s.wake := by
  simp only [ackReply]
  repeat' split
  all_goals (try (rename_i h _; obtain ⟨_, -, rfl⟩ := buildReply_some h))
  all_goals (try (rename_i h; obtain ⟨_, -, rfl⟩ := buildReply_some h))
  all_goals simp
@[simp] theorem ackReply_hold (i : Nat) (p : ParsedFrame) (s : State) : (ackReply i p s).hold = s.hold := by
  simp only [ackReply]
  repeat' split
  all_goals (try (rename_i h _; obtain ⟨_, -, rfl⟩ := buildReply_some h))
  all_goals (try (rename_i h; obtain ⟨_, -, rfl⟩ := buildReply_some h))
  all_goals simp
@[simp] theorem ackReply_sys (i : Nat) (p : ParsedFrame) (s : State) : (ackReply i p s).sys = s.sys := by
  simp only [ackReply]
  repeat' split
  all_goals (try (rename_i h _; obtain ⟨_, -, rfl⟩ := buildReply_some h))
  all_goals (try (rename_i h; obtain ⟨_, -, rfl⟩ := buildReply_some h))
  all_goals simp
@[simp] theorem handleConflict_pending (i : Nat) (f : ConflictForm) (p : ParsedFrame) (s : State) : ((handleConflict i f p s).state).pending = s.pending := by
  simp only [handleConflict]
  repeat' split
  all_goals simp
@[simp] theorem handleConflict_modeCtl (i : Nat) (f : ConflictForm) (p : ParsedFrame) (s : State) : ((handleConflict i f p s).state).modeCtl = s.modeCtl := by
  simp only [handleConflict]
  repeat' split
  all_goals simp
@[simp] theorem handleConflict_linePort (i : Nat) (f : ConflictForm) (p : ParsedFrame) (s : State) : ((handleConflict i f p s).state).linePort = s.linePort := by
  simp only [handleConflict]
  repeat' split
  all_goals simp
@[simp] theorem handleConflict_guardPath (i : Nat) (f : ConflictForm) (p : ParsedFrame) (s : State) : ((handleConflict i f p s).state).guardPath = s.guardPath := by
  simp only [handleConflict]
  repeat' split
  all_goals simp
@[simp] theorem handleConflict_matchTable (i : Nat) (f : ConflictForm) (p : ParsedFrame) (s : State) : ((handleConflict i f p s).state).matchTable = s.matchTable := by
  simp only [handleConflict]
  repeat' split
  all_goals simp
@[simp] theorem handleConflict_names (i : Nat) (f : ConflictForm) (p : ParsedFrame) (s : State) : ((handleConflict i f p s).state).names = s.names := by
  simp only [handleConflict]
  repeat' split
  all_goals simp
@[simp] theorem handleConflict_arb (i : Nat) (f : ConflictForm) (p : ParsedFrame) (s : State) : ((handleConflict i f p s).state).arb = s.arb := by
  simp only [handleConflict]
  repeat' split
  all_goals simp
@[simp] theorem handleConflict_sys (i : Nat) (f : ConflictForm) (p : ParsedFrame) (s : State) : ((handleConflict i f p s).state).sys = s.sys := by
  simp only [handleConflict]
  repeat' split
  all_goals simp
@[simp] theorem judgeSegment_pending (i : Nat) (p : ParsedFrame) (s : State) : ((judgeSegment i p s).state).pending = s.pending := by
  simp [judgeSegment, apply_ite Judged.state, apply_ite State.pending]
@[simp] theorem judgeSegment_modeCtl (i : Nat) (p : ParsedFrame) (s : State) : ((judgeSegment i p s).state).modeCtl = s.modeCtl := by
  simp [judgeSegment, apply_ite Judged.state, apply_ite State.modeCtl]
@[simp] theorem judgeSegment_linePort (i : Nat) (p : ParsedFrame) (s : State) : ((judgeSegment i p s).state).linePort = s.linePort := by
  simp [judgeSegment, apply_ite Judged.state, apply_ite State.linePort]
@[simp] theorem judgeSegment_guardPath (i : Nat) (p : ParsedFrame) (s : State) : ((judgeSegment i p s).state).guardPath = s.guardPath := by
  simp [judgeSegment, apply_ite Judged.state, apply_ite State.guardPath]
@[simp] theorem judgeSegment_matchTable (i : Nat) (p : ParsedFrame) (s : State) : ((judgeSegment i p s).state).matchTable = s.matchTable := by
  simp [judgeSegment, apply_ite Judged.state, apply_ite State.matchTable]
@[simp] theorem judgeSegment_identities (i : Nat) (p : ParsedFrame) (s : State) : ((judgeSegment i p s).state).identities = s.identities := by
  simp [judgeSegment, apply_ite Judged.state, apply_ite State.identities]
@[simp] theorem judgeSegment_names (i : Nat) (p : ParsedFrame) (s : State) : ((judgeSegment i p s).state).names = s.names := by
  simp [judgeSegment, apply_ite Judged.state, apply_ite State.names]
@[simp] theorem judgeSegment_arb (i : Nat) (p : ParsedFrame) (s : State) : ((judgeSegment i p s).state).arb = s.arb := by
  simp [judgeSegment, apply_ite Judged.state, apply_ite State.arb]
@[simp] theorem judgeSegment_hold (i : Nat) (p : ParsedFrame) (s : State) : ((judgeSegment i p s).state).hold = s.hold := by
  simp [judgeSegment, apply_ite Judged.state, apply_ite State.hold]
@[simp] theorem judgeSegment_sys (i : Nat) (p : ParsedFrame) (s : State) : ((judgeSegment i p s).state).sys = s.sys := by
  simp [judgeSegment, apply_ite Judged.state, apply_ite State.sys]
@[simp] theorem judgeSession_pending (p : ParsedFrame) (s : State) : ((judgeSession p s).state).pending = s.pending := by
  simp [judgeSession, apply_ite Judged.state, apply_ite State.pending]
@[simp] theorem judgeSession_modeCtl (p : ParsedFrame) (s : State) : ((judgeSession p s).state).modeCtl = s.modeCtl := by
  simp [judgeSession, apply_ite Judged.state, apply_ite State.modeCtl]
@[simp] theorem judgeSession_linePort (p : ParsedFrame) (s : State) : ((judgeSession p s).state).linePort = s.linePort := by
  simp [judgeSession, apply_ite Judged.state, apply_ite State.linePort]
@[simp] theorem judgeSession_guardPath (p : ParsedFrame) (s : State) : ((judgeSession p s).state).guardPath = s.guardPath := by
  simp [judgeSession, apply_ite Judged.state, apply_ite State.guardPath]
@[simp] theorem judgeSession_matchTable (p : ParsedFrame) (s : State) : ((judgeSession p s).state).matchTable = s.matchTable := by
  simp [judgeSession, apply_ite Judged.state, apply_ite State.matchTable]
@[simp] theorem judgeSession_identities (p : ParsedFrame) (s : State) : ((judgeSession p s).state).identities = s.identities := by
  simp [judgeSession, apply_ite Judged.state, apply_ite State.identities]
@[simp] theorem judgeSession_names (p : ParsedFrame) (s : State) : ((judgeSession p s).state).names = s.names := by
  simp [judgeSession, apply_ite Judged.state, apply_ite State.names]
@[simp] theorem judgeSession_arb (p : ParsedFrame) (s : State) : ((judgeSession p s).state).arb = s.arb := by
  simp [judgeSession, apply_ite Judged.state, apply_ite State.arb]
@[simp] theorem judgeSession_hold (p : ParsedFrame) (s : State) : ((judgeSession p s).state).hold = s.hold := by
  simp [judgeSession, apply_ite Judged.state, apply_ite State.hold]
@[simp] theorem judgeSession_sys (p : ParsedFrame) (s : State) : ((judgeSession p s).state).sys = s.sys := by
  simp [judgeSession, apply_ite Judged.state, apply_ite State.sys]
@[simp] theorem answerArp_pending (p : ParsedFrame) (s : State) : ((answerArp p s).state).pending = s.pending := by
  simp [answerArp, apply_ite Judged.state, apply_ite State.pending]
@[simp] theorem answerArp_modeCtl (p : ParsedFrame) (s : State) : ((answerArp p s).state).modeCtl = s.modeCtl := by
  simp [answerArp, apply_ite Judged.state, apply_ite State.modeCtl]
@[simp] theorem answerArp_linePort (p : ParsedFrame) (s : State) : ((answerArp p s).state).linePort = s.linePort := by
  simp [answerArp, apply_ite Judged.state, apply_ite State.linePort]
@[simp] theorem answerArp_guardPath (p : ParsedFrame) (s : State) : ((answerArp p s).state).guardPath = s.guardPath := by
  simp [answerArp, apply_ite Judged.state, apply_ite State.guardPath]
@[simp] theorem answerArp_matchTable (p : ParsedFrame) (s : State) : ((answerArp p s).state).matchTable = s.matchTable := by
  simp [answerArp, apply_ite Judged.state, apply_ite State.matchTable]
@[simp] theorem answerArp_identities (p : ParsedFrame) (s : State) : ((answerArp p s).state).identities = s.identities := by
  simp [answerArp, apply_ite Judged.state, apply_ite State.identities]
@[simp] theorem answerArp_names (p : ParsedFrame) (s : State) : ((answerArp p s).state).names = s.names := by
  simp [answerArp, apply_ite Judged.state, apply_ite State.names]
@[simp] theorem answerArp_sessions (p : ParsedFrame) (s : State) : ((answerArp p s).state).sessions = s.sessions := by
  simp [answerArp, apply_ite Judged.state, apply_ite State.sessions]
@[simp] theorem answerArp_probes (p : ParsedFrame) (s : State) : ((answerArp p s).state).probes = s.probes := by
  simp [answerArp, apply_ite Judged.state, apply_ite State.probes]
@[simp] theorem answerArp_arb (p : ParsedFrame) (s : State) : ((answerArp p s).state).arb = s.arb := by
  simp [answerArp, apply_ite Judged.state, apply_ite State.arb]
@[simp] theorem answerArp_bank (p : ParsedFrame) (s : State) : ((answerArp p s).state).bank = s.bank := by
  simp [answerArp, apply_ite Judged.state, apply_ite State.bank]
@[simp] theorem answerArp_wake (p : ParsedFrame) (s : State) : ((answerArp p s).state).wake = s.wake := by
  simp [answerArp, apply_ite Judged.state, apply_ite State.wake]
@[simp] theorem answerArp_hold (p : ParsedFrame) (s : State) : ((answerArp p s).state).hold = s.hold := by
  simp [answerArp, apply_ite Judged.state, apply_ite State.hold]
@[simp] theorem answerArp_sys (p : ParsedFrame) (s : State) : ((answerArp p s).state).sys = s.sys := by
  simp [answerArp, apply_ite Judged.state, apply_ite State.sys]
@[simp] theorem answerSolicitation_pending (p : ParsedFrame) (s : State) : ((answerSolicitation p s).state).pending = s.pending := by
  simp [answerSolicitation, apply_ite Judged.state, apply_ite State.pending]
@[simp] theorem answerSolicitation_modeCtl (p : ParsedFrame) (s : State) : ((answerSolicitation p s).state).modeCtl = s.modeCtl := by
  simp [answerSolicitation, apply_ite Judged.state, apply_ite State.modeCtl]
@[simp] theorem answerSolicitation_linePort (p : ParsedFrame) (s : State) : ((answerSolicitation p s).state).linePort = s.linePort := by
  simp [answerSolicitation, apply_ite Judged.state, apply_ite State.linePort]
@[simp] theorem answerSolicitation_guardPath (p : ParsedFrame) (s : State) : ((answerSolicitation p s).state).guardPath = s.guardPath := by
  simp [answerSolicitation, apply_ite Judged.state, apply_ite State.guardPath]
@[simp] theorem answerSolicitation_matchTable (p : ParsedFrame) (s : State) : ((answerSolicitation p s).state).matchTable = s.matchTable := by
  simp [answerSolicitation, apply_ite Judged.state, apply_ite State.matchTable]
@[simp] theorem answerSolicitation_identities (p : ParsedFrame) (s : State) : ((answerSolicitation p s).state).identities = s.identities := by
  simp [answerSolicitation, apply_ite Judged.state, apply_ite State.identities]
@[simp] theorem answerSolicitation_names (p : ParsedFrame) (s : State) : ((answerSolicitation p s).state).names = s.names := by
  simp [answerSolicitation, apply_ite Judged.state, apply_ite State.names]
@[simp] theorem answerSolicitation_sessions (p : ParsedFrame) (s : State) : ((answerSolicitation p s).state).sessions = s.sessions := by
  simp [answerSolicitation, apply_ite Judged.state, apply_ite State.sessions]
@[simp] theorem answerSolicitation_probes (p : ParsedFrame) (s : State) : ((answerSolicitation p s).state).probes = s.probes := by
  simp [answerSolicitation, apply_ite Judged.state, apply_ite State.probes]
@[simp] theorem answerSolicitation_arb (p : ParsedFrame) (s : State) : ((answerSolicitation p s).state).arb = s.arb := by
  simp [answerSolicitation, apply_ite Judged.state, apply_ite State.arb]
@[simp] theorem answerSolicitation_bank (p : ParsedFrame) (s : State) : ((answerSolicitation p s).state).bank = s.bank := by
  simp [answerSolicitation, apply_ite Judged.state, apply_ite State.bank]
@[simp] theorem answerSolicitation_wake (p : ParsedFrame) (s : State) : ((answerSolicitation p s).state).wake = s.wake := by
  simp [answerSolicitation, apply_ite Judged.state, apply_ite State.wake]
@[simp] theorem answerSolicitation_hold (p : ParsedFrame) (s : State) : ((answerSolicitation p s).state).hold = s.hold := by
  simp [answerSolicitation, apply_ite Judged.state, apply_ite State.hold]
@[simp] theorem answerSolicitation_sys (p : ParsedFrame) (s : State) : ((answerSolicitation p s).state).sys = s.sys := by
  simp [answerSolicitation, apply_ite Judged.state, apply_ite State.sys]
@[simp] theorem judgeNd_pending (k : AddressKind) (p : ParsedFrame) (s : State) : ((judgeNd k p s).state).pending = s.pending := by
  unfold judgeNd
  cases ndConflict s k p <;> simp [apply_ite Judged.state, apply_ite State.pending]
@[simp] theorem judgeNd_modeCtl (k : AddressKind) (p : ParsedFrame) (s : State) : ((judgeNd k p s).state).modeCtl = s.modeCtl := by
  unfold judgeNd
  cases ndConflict s k p <;> simp [apply_ite Judged.state, apply_ite State.modeCtl]
@[simp] theorem judgeNd_linePort (k : AddressKind) (p : ParsedFrame) (s : State) : ((judgeNd k p s).state).linePort = s.linePort := by
  unfold judgeNd
  cases ndConflict s k p <;> simp [apply_ite Judged.state, apply_ite State.linePort]
@[simp] theorem judgeNd_guardPath (k : AddressKind) (p : ParsedFrame) (s : State) : ((judgeNd k p s).state).guardPath = s.guardPath := by
  unfold judgeNd
  cases ndConflict s k p <;> simp [apply_ite Judged.state, apply_ite State.guardPath]
@[simp] theorem judgeNd_matchTable (k : AddressKind) (p : ParsedFrame) (s : State) : ((judgeNd k p s).state).matchTable = s.matchTable := by
  unfold judgeNd
  cases ndConflict s k p <;> simp [apply_ite Judged.state, apply_ite State.matchTable]
@[simp] theorem judgeNd_names (k : AddressKind) (p : ParsedFrame) (s : State) : ((judgeNd k p s).state).names = s.names := by
  unfold judgeNd
  cases ndConflict s k p <;> simp [apply_ite Judged.state, apply_ite State.names]
@[simp] theorem judgeNd_arb (k : AddressKind) (p : ParsedFrame) (s : State) : ((judgeNd k p s).state).arb = s.arb := by
  unfold judgeNd
  cases ndConflict s k p <;> simp [apply_ite Judged.state, apply_ite State.arb]
@[simp] theorem judgeNd_sys (k : AddressKind) (p : ParsedFrame) (s : State) : ((judgeNd k p s).state).sys = s.sys := by
  unfold judgeNd
  cases ndConflict s k p <;> simp [apply_ite Judged.state, apply_ite State.sys]
@[simp] theorem judgeEcho_pending (p : ParsedFrame) (s : State) : ((judgeEcho p s).state).pending = s.pending := by
  simp [judgeEcho, apply_ite Judged.state, apply_ite State.pending]
@[simp] theorem judgeEcho_modeCtl (p : ParsedFrame) (s : State) : ((judgeEcho p s).state).modeCtl = s.modeCtl := by
  simp [judgeEcho, apply_ite Judged.state, apply_ite State.modeCtl]
@[simp] theorem judgeEcho_linePort (p : ParsedFrame) (s : State) : ((judgeEcho p s).state).linePort = s.linePort := by
  simp [judgeEcho, apply_ite Judged.state, apply_ite State.linePort]
@[simp] theorem judgeEcho_guardPath (p : ParsedFrame) (s : State) : ((judgeEcho p s).state).guardPath = s.guardPath := by
  simp [judgeEcho, apply_ite Judged.state, apply_ite State.guardPath]
@[simp] theorem judgeEcho_matchTable (p : ParsedFrame) (s : State) : ((judgeEcho p s).state).matchTable = s.matchTable := by
  simp [judgeEcho, apply_ite Judged.state, apply_ite State.matchTable]
@[simp] theorem judgeEcho_identities (p : ParsedFrame) (s : State) : ((judgeEcho p s).state).identities = s.identities := by
  simp [judgeEcho, apply_ite Judged.state, apply_ite State.identities]
@[simp] theorem judgeEcho_names (p : ParsedFrame) (s : State) : ((judgeEcho p s).state).names = s.names := by
  simp [judgeEcho, apply_ite Judged.state, apply_ite State.names]
@[simp] theorem judgeEcho_sessions (p : ParsedFrame) (s : State) : ((judgeEcho p s).state).sessions = s.sessions := by
  simp [judgeEcho, apply_ite Judged.state, apply_ite State.sessions]
@[simp] theorem judgeEcho_probes (p : ParsedFrame) (s : State) : ((judgeEcho p s).state).probes = s.probes := by
  simp [judgeEcho, apply_ite Judged.state, apply_ite State.probes]
@[simp] theorem judgeEcho_arb (p : ParsedFrame) (s : State) : ((judgeEcho p s).state).arb = s.arb := by
  simp [judgeEcho, apply_ite Judged.state, apply_ite State.arb]
@[simp] theorem judgeEcho_bank (p : ParsedFrame) (s : State) : ((judgeEcho p s).state).bank = s.bank := by
  simp [judgeEcho, apply_ite Judged.state, apply_ite State.bank]
@[simp] theorem judgeEcho_wake (p : ParsedFrame) (s : State) : ((judgeEcho p s).state).wake = s.wake := by
  simp [judgeEcho, apply_ite Judged.state, apply_ite State.wake]
@[simp] theorem judgeEcho_hold (p : ParsedFrame) (s : State) : ((judgeEcho p s).state).hold = s.hold := by
  simp [judgeEcho, apply_ite Judged.state, apply_ite State.hold]
@[simp] theorem judgeEcho_sys (p : ParsedFrame) (s : State) : ((judgeEcho p s).state).sys = s.sys := by
  simp [judgeEcho, apply_ite Judged.state, apply_ite State.sys]
@[simp] theorem holdVerdict_pending (p : ParsedFrame) (s : State) : (holdVerdict p s).pending = s.pending := by
  simp only [holdVerdict]
  repeat' split
  all_goals simp
@[simp] theorem holdVerdict_modeCtl (p : ParsedFrame) (s : State) : (holdVerdict p s).modeCtl = s.modeCtl := by
  simp only [holdVerdict]
  repeat' split
  all_goals simp
@[simp] theorem holdVerdict_linePort (p : ParsedFrame) (s : State) : (holdVerdict p s).linePort = s.linePort := by
  simp only [holdVerdict]
  repeat' split
  all_goals simp
@[simp] theorem holdVerdict_guardPath (p : ParsedFrame) (s : State) : (holdVerdict p s).guardPath = s.guardPath := by
  simp only [holdVerdict]
  repeat' split
  all_goals simp
@[simp] theorem holdVerdict_matchTable (p : ParsedFrame) (s : State) : (holdVerdict p s).matchTable = s.matchTable := by
  simp only [holdVerdict]
  repeat' split
  all_goals simp
@[simp] theorem holdVerdict_identities (p : ParsedFrame) (s : State) : (holdVerdict p s).identities = s.identities := by
  simp only [holdVerdict]
  repeat' split
  all_goals simp
@[simp] theorem holdVerdict_names (p : ParsedFrame) (s : State) : (holdVerdict p s).names = s.names := by
  simp only [holdVerdict]
  repeat' split
  all_goals simp
@[simp] theorem holdVerdict_sessions (p : ParsedFrame) (s : State) : (holdVerdict p s).sessions = s.sessions := by
  simp only [holdVerdict]
  repeat' split
  all_goals simp
@[simp] theorem holdVerdict_probes (p : ParsedFrame) (s : State) : (holdVerdict p s).probes = s.probes := by
  simp only [holdVerdict]
  repeat' split
  all_goals simp
@[simp] theorem holdVerdict_reply (p : ParsedFrame) (s : State) : (holdVerdict p s).reply = s.reply := by
  simp only [holdVerdict]
  repeat' split
  all_goals simp
@[simp] theorem holdVerdict_arb (p : ParsedFrame) (s : State) : (holdVerdict p s).arb = s.arb := by
  simp only [holdVerdict]
  repeat' split
  all_goals simp
@[simp] theorem holdVerdict_bank (p : ParsedFrame) (s : State) : (holdVerdict p s).bank = s.bank := by
  simp only [holdVerdict]
  repeat' split
  all_goals simp
@[simp] theorem holdVerdict_wake (p : ParsedFrame) (s : State) : (holdVerdict p s).wake = s.wake := by
  simp only [holdVerdict]
  repeat' split
  all_goals simp
@[simp] theorem holdVerdict_sys (p : ParsedFrame) (s : State) : (holdVerdict p s).sys = s.sys := by
  simp only [holdVerdict]
  repeat' split
  all_goals simp
@[simp] theorem holdVerdict_ctl (p : ParsedFrame) (s : State) : (holdVerdict p s).ctl = s.ctl := by
  simp only [holdVerdict]
  repeat' split
  all_goals simp
@[simp] theorem judgeAddress_pending (p : ParsedFrame) (s : State) : ((judgeAddress p s).state).pending = s.pending := by
  unfold judgeAddress
  cases addressKind p.fv with
  | none => simp
  | some k =>
    cases k
    · cases arpConflict s p <;> simp
    · simp
    · simp
@[simp] theorem judgeAddress_modeCtl (p : ParsedFrame) (s : State) : ((judgeAddress p s).state).modeCtl = s.modeCtl := by
  unfold judgeAddress
  cases addressKind p.fv with
  | none => simp
  | some k =>
    cases k
    · cases arpConflict s p <;> simp
    · simp
    · simp
@[simp] theorem judgeAddress_linePort (p : ParsedFrame) (s : State) : ((judgeAddress p s).state).linePort = s.linePort := by
  unfold judgeAddress
  cases addressKind p.fv with
  | none => simp
  | some k =>
    cases k
    · cases arpConflict s p <;> simp
    · simp
    · simp
@[simp] theorem judgeAddress_guardPath (p : ParsedFrame) (s : State) : ((judgeAddress p s).state).guardPath = s.guardPath := by
  unfold judgeAddress
  cases addressKind p.fv with
  | none => simp
  | some k =>
    cases k
    · cases arpConflict s p <;> simp
    · simp
    · simp
@[simp] theorem judgeAddress_matchTable (p : ParsedFrame) (s : State) : ((judgeAddress p s).state).matchTable = s.matchTable := by
  unfold judgeAddress
  cases addressKind p.fv with
  | none => simp
  | some k =>
    cases k
    · cases arpConflict s p <;> simp
    · simp
    · simp
@[simp] theorem judgeAddress_names (p : ParsedFrame) (s : State) : ((judgeAddress p s).state).names = s.names := by
  unfold judgeAddress
  cases addressKind p.fv with
  | none => simp
  | some k =>
    cases k
    · cases arpConflict s p <;> simp
    · simp
    · simp
@[simp] theorem judgeAddress_arb (p : ParsedFrame) (s : State) : ((judgeAddress p s).state).arb = s.arb := by
  unfold judgeAddress
  cases addressKind p.fv with
  | none => simp
  | some k =>
    cases k
    · cases arpConflict s p <;> simp
    · simp
    · simp
@[simp] theorem judgeAddress_sys (p : ParsedFrame) (s : State) : ((judgeAddress p s).state).sys = s.sys := by
  unfold judgeAddress
  cases addressKind p.fv with
  | none => simp
  | some k =>
    cases k
    · cases arpConflict s p <;> simp
    · simp
    · simp
@[simp] theorem judgeQuery_pending (a b : Bool) (p : ParsedFrame) (s : State) : ((judgeQuery a b p s).state).pending = s.pending := by
  simp only [judgeQuery, apply_ite Judged.state, apply_ite State.pending]
  cases readQuestion (slice p.bytes p.pos.pay p.fv.l4len) with
  | none => simp
  | some q =>
    cases h1 : matchingName s.names q.name with
    | none => simp [h1]
    | some k =>
      cases h2 : answerTarget s.ctl.cfg a p q <;> cases h3 : answerSource s a b p <;>
        simp [h1, h2, h3, apply_ite Judged.state, apply_ite State.pending]
@[simp] theorem judgeQuery_modeCtl (a b : Bool) (p : ParsedFrame) (s : State) : ((judgeQuery a b p s).state).modeCtl = s.modeCtl := by
  simp only [judgeQuery, apply_ite Judged.state, apply_ite State.modeCtl]
  cases readQuestion (slice p.bytes p.pos.pay p.fv.l4len) with
  | none => simp
  | some q =>
    cases h1 : matchingName s.names q.name with
    | none => simp [h1]
    | some k =>
      cases h2 : answerTarget s.ctl.cfg a p q <;> cases h3 : answerSource s a b p <;>
        simp [h1, h2, h3, apply_ite Judged.state, apply_ite State.modeCtl]
@[simp] theorem judgeQuery_linePort (a b : Bool) (p : ParsedFrame) (s : State) : ((judgeQuery a b p s).state).linePort = s.linePort := by
  simp only [judgeQuery, apply_ite Judged.state, apply_ite State.linePort]
  cases readQuestion (slice p.bytes p.pos.pay p.fv.l4len) with
  | none => simp
  | some q =>
    cases h1 : matchingName s.names q.name with
    | none => simp [h1]
    | some k =>
      cases h2 : answerTarget s.ctl.cfg a p q <;> cases h3 : answerSource s a b p <;>
        simp [h1, h2, h3, apply_ite Judged.state, apply_ite State.linePort]
@[simp] theorem judgeQuery_guardPath (a b : Bool) (p : ParsedFrame) (s : State) : ((judgeQuery a b p s).state).guardPath = s.guardPath := by
  simp only [judgeQuery, apply_ite Judged.state, apply_ite State.guardPath]
  cases readQuestion (slice p.bytes p.pos.pay p.fv.l4len) with
  | none => simp
  | some q =>
    cases h1 : matchingName s.names q.name with
    | none => simp [h1]
    | some k =>
      cases h2 : answerTarget s.ctl.cfg a p q <;> cases h3 : answerSource s a b p <;>
        simp [h1, h2, h3, apply_ite Judged.state, apply_ite State.guardPath]
@[simp] theorem judgeQuery_matchTable (a b : Bool) (p : ParsedFrame) (s : State) : ((judgeQuery a b p s).state).matchTable = s.matchTable := by
  simp only [judgeQuery, apply_ite Judged.state, apply_ite State.matchTable]
  cases readQuestion (slice p.bytes p.pos.pay p.fv.l4len) with
  | none => simp
  | some q =>
    cases h1 : matchingName s.names q.name with
    | none => simp [h1]
    | some k =>
      cases h2 : answerTarget s.ctl.cfg a p q <;> cases h3 : answerSource s a b p <;>
        simp [h1, h2, h3, apply_ite Judged.state, apply_ite State.matchTable]
@[simp] theorem judgeQuery_identities (a b : Bool) (p : ParsedFrame) (s : State) : ((judgeQuery a b p s).state).identities = s.identities := by
  simp only [judgeQuery, apply_ite Judged.state, apply_ite State.identities]
  cases readQuestion (slice p.bytes p.pos.pay p.fv.l4len) with
  | none => simp
  | some q =>
    cases h1 : matchingName s.names q.name with
    | none => simp [h1]
    | some k =>
      cases h2 : answerTarget s.ctl.cfg a p q <;> cases h3 : answerSource s a b p <;>
        simp [h1, h2, h3, apply_ite Judged.state, apply_ite State.identities]
@[simp] theorem judgeQuery_sessions (a b : Bool) (p : ParsedFrame) (s : State) : ((judgeQuery a b p s).state).sessions = s.sessions := by
  simp only [judgeQuery, apply_ite Judged.state, apply_ite State.sessions]
  cases readQuestion (slice p.bytes p.pos.pay p.fv.l4len) with
  | none => simp
  | some q =>
    cases h1 : matchingName s.names q.name with
    | none => simp [h1]
    | some k =>
      cases h2 : answerTarget s.ctl.cfg a p q <;> cases h3 : answerSource s a b p <;>
        simp [h1, h2, h3, apply_ite Judged.state, apply_ite State.sessions]
@[simp] theorem judgeQuery_probes (a b : Bool) (p : ParsedFrame) (s : State) : ((judgeQuery a b p s).state).probes = s.probes := by
  simp only [judgeQuery, apply_ite Judged.state, apply_ite State.probes]
  cases readQuestion (slice p.bytes p.pos.pay p.fv.l4len) with
  | none => simp
  | some q =>
    cases h1 : matchingName s.names q.name with
    | none => simp [h1]
    | some k =>
      cases h2 : answerTarget s.ctl.cfg a p q <;> cases h3 : answerSource s a b p <;>
        simp [h1, h2, h3, apply_ite Judged.state, apply_ite State.probes]
@[simp] theorem judgeQuery_arb (a b : Bool) (p : ParsedFrame) (s : State) : ((judgeQuery a b p s).state).arb = s.arb := by
  simp only [judgeQuery, apply_ite Judged.state, apply_ite State.arb]
  cases readQuestion (slice p.bytes p.pos.pay p.fv.l4len) with
  | none => simp
  | some q =>
    cases h1 : matchingName s.names q.name with
    | none => simp [h1]
    | some k =>
      cases h2 : answerTarget s.ctl.cfg a p q <;> cases h3 : answerSource s a b p <;>
        simp [h1, h2, h3, apply_ite Judged.state, apply_ite State.arb]
@[simp] theorem judgeQuery_bank (a b : Bool) (p : ParsedFrame) (s : State) : ((judgeQuery a b p s).state).bank = s.bank := by
  simp only [judgeQuery, apply_ite Judged.state, apply_ite State.bank]
  cases readQuestion (slice p.bytes p.pos.pay p.fv.l4len) with
  | none => simp
  | some q =>
    cases h1 : matchingName s.names q.name with
    | none => simp [h1]
    | some k =>
      cases h2 : answerTarget s.ctl.cfg a p q <;> cases h3 : answerSource s a b p <;>
        simp [h1, h2, h3, apply_ite Judged.state, apply_ite State.bank]
@[simp] theorem judgeQuery_wake (a b : Bool) (p : ParsedFrame) (s : State) : ((judgeQuery a b p s).state).wake = s.wake := by
  simp only [judgeQuery, apply_ite Judged.state, apply_ite State.wake]
  cases readQuestion (slice p.bytes p.pos.pay p.fv.l4len) with
  | none => simp
  | some q =>
    cases h1 : matchingName s.names q.name with
    | none => simp [h1]
    | some k =>
      cases h2 : answerTarget s.ctl.cfg a p q <;> cases h3 : answerSource s a b p <;>
        simp [h1, h2, h3, apply_ite Judged.state, apply_ite State.wake]
@[simp] theorem judgeQuery_hold (a b : Bool) (p : ParsedFrame) (s : State) : ((judgeQuery a b p s).state).hold = s.hold := by
  simp only [judgeQuery, apply_ite Judged.state, apply_ite State.hold]
  cases readQuestion (slice p.bytes p.pos.pay p.fv.l4len) with
  | none => simp
  | some q =>
    cases h1 : matchingName s.names q.name with
    | none => simp [h1]
    | some k =>
      cases h2 : answerTarget s.ctl.cfg a p q <;> cases h3 : answerSource s a b p <;>
        simp [h1, h2, h3, apply_ite Judged.state, apply_ite State.hold]
@[simp] theorem judgeQuery_sys (a b : Bool) (p : ParsedFrame) (s : State) : ((judgeQuery a b p s).state).sys = s.sys := by
  simp only [judgeQuery, apply_ite Judged.state, apply_ite State.sys]
  cases readQuestion (slice p.bytes p.pos.pay p.fv.l4len) with
  | none => simp
  | some q =>
    cases h1 : matchingName s.names q.name with
    | none => simp [h1]
    | some k =>
      cases h2 : answerTarget s.ctl.cfg a p q <;> cases h3 : answerSource s a b p <;>
        simp [h1, h2, h3, apply_ite Judged.state, apply_ite State.sys]
@[simp] theorem judgeName_pending (p : ParsedFrame) (s : State) : ((judgeName p s).state).pending = s.pending := by
  simp [judgeName, apply_ite Judged.state, apply_ite State.pending]
@[simp] theorem judgeName_modeCtl (p : ParsedFrame) (s : State) : ((judgeName p s).state).modeCtl = s.modeCtl := by
  simp [judgeName, apply_ite Judged.state, apply_ite State.modeCtl]
@[simp] theorem judgeName_linePort (p : ParsedFrame) (s : State) : ((judgeName p s).state).linePort = s.linePort := by
  simp [judgeName, apply_ite Judged.state, apply_ite State.linePort]
@[simp] theorem judgeName_guardPath (p : ParsedFrame) (s : State) : ((judgeName p s).state).guardPath = s.guardPath := by
  simp [judgeName, apply_ite Judged.state, apply_ite State.guardPath]
@[simp] theorem judgeName_matchTable (p : ParsedFrame) (s : State) : ((judgeName p s).state).matchTable = s.matchTable := by
  simp [judgeName, apply_ite Judged.state, apply_ite State.matchTable]
@[simp] theorem judgeName_identities (p : ParsedFrame) (s : State) : ((judgeName p s).state).identities = s.identities := by
  simp [judgeName, apply_ite Judged.state, apply_ite State.identities]
@[simp] theorem judgeName_sessions (p : ParsedFrame) (s : State) : ((judgeName p s).state).sessions = s.sessions := by
  simp [judgeName, apply_ite Judged.state, apply_ite State.sessions]
@[simp] theorem judgeName_probes (p : ParsedFrame) (s : State) : ((judgeName p s).state).probes = s.probes := by
  simp [judgeName, apply_ite Judged.state, apply_ite State.probes]
@[simp] theorem judgeName_arb (p : ParsedFrame) (s : State) : ((judgeName p s).state).arb = s.arb := by
  simp [judgeName, apply_ite Judged.state, apply_ite State.arb]
@[simp] theorem judgeName_bank (p : ParsedFrame) (s : State) : ((judgeName p s).state).bank = s.bank := by
  simp [judgeName, apply_ite Judged.state, apply_ite State.bank]
@[simp] theorem judgeName_wake (p : ParsedFrame) (s : State) : ((judgeName p s).state).wake = s.wake := by
  simp [judgeName, apply_ite Judged.state, apply_ite State.wake]
@[simp] theorem judgeName_hold (p : ParsedFrame) (s : State) : ((judgeName p s).state).hold = s.hold := by
  simp [judgeName, apply_ite Judged.state, apply_ite State.hold]
@[simp] theorem judgeName_sys (p : ParsedFrame) (s : State) : ((judgeName p s).state).sys = s.sys := by
  simp [judgeName, apply_ite Judged.state, apply_ite State.sys]
@[simp] theorem wakeVerdict_pending (c : WakeCause) (n cls : Nat) (p : ParsedFrame) (s : State) : (wakeVerdict c n cls p s).pending = s.pending := by
  simp only [wakeVerdict]
  repeat' split
  all_goals simp
@[simp] theorem wakeVerdict_modeCtl (c : WakeCause) (n cls : Nat) (p : ParsedFrame) (s : State) : (wakeVerdict c n cls p s).modeCtl = s.modeCtl := by
  simp only [wakeVerdict]
  repeat' split
  all_goals simp
@[simp] theorem wakeVerdict_linePort (c : WakeCause) (n cls : Nat) (p : ParsedFrame) (s : State) : (wakeVerdict c n cls p s).linePort = s.linePort := by
  simp only [wakeVerdict]
  repeat' split
  all_goals simp
@[simp] theorem wakeVerdict_guardPath (c : WakeCause) (n cls : Nat) (p : ParsedFrame) (s : State) : (wakeVerdict c n cls p s).guardPath = s.guardPath := by
  simp only [wakeVerdict]
  repeat' split
  all_goals simp
@[simp] theorem wakeVerdict_matchTable (c : WakeCause) (n cls : Nat) (p : ParsedFrame) (s : State) : (wakeVerdict c n cls p s).matchTable = s.matchTable := by
  simp only [wakeVerdict]
  repeat' split
  all_goals simp
@[simp] theorem wakeVerdict_identities (c : WakeCause) (n cls : Nat) (p : ParsedFrame) (s : State) : (wakeVerdict c n cls p s).identities = s.identities := by
  simp only [wakeVerdict]
  repeat' split
  all_goals simp
@[simp] theorem wakeVerdict_names (c : WakeCause) (n cls : Nat) (p : ParsedFrame) (s : State) : (wakeVerdict c n cls p s).names = s.names := by
  simp only [wakeVerdict]
  repeat' split
  all_goals simp
@[simp] theorem wakeVerdict_sessions (c : WakeCause) (n cls : Nat) (p : ParsedFrame) (s : State) : (wakeVerdict c n cls p s).sessions = s.sessions := by
  simp only [wakeVerdict]
  repeat' split
  all_goals simp
@[simp] theorem wakeVerdict_probes (c : WakeCause) (n cls : Nat) (p : ParsedFrame) (s : State) : (wakeVerdict c n cls p s).probes = s.probes := by
  simp only [wakeVerdict]
  repeat' split
  all_goals simp
@[simp] theorem wakeVerdict_reply (c : WakeCause) (n cls : Nat) (p : ParsedFrame) (s : State) : (wakeVerdict c n cls p s).reply = s.reply := by
  simp only [wakeVerdict]
  repeat' split
  all_goals simp
@[simp] theorem wakeVerdict_arb (c : WakeCause) (n cls : Nat) (p : ParsedFrame) (s : State) : (wakeVerdict c n cls p s).arb = s.arb := by
  simp only [wakeVerdict]
  repeat' split
  all_goals simp
@[simp] theorem wakeVerdict_bank (c : WakeCause) (n cls : Nat) (p : ParsedFrame) (s : State) : (wakeVerdict c n cls p s).bank = s.bank := by
  simp only [wakeVerdict]
  repeat' split
  all_goals simp
@[simp] theorem wakeVerdict_sys (c : WakeCause) (n cls : Nat) (p : ParsedFrame) (s : State) : (wakeVerdict c n cls p s).sys = s.sys := by
  simp only [wakeVerdict]
  repeat' split
  all_goals simp
@[simp] theorem wakeVerdict_ctl (c : WakeCause) (n cls : Nat) (p : ParsedFrame) (s : State) : (wakeVerdict c n cls p s).ctl = s.ctl := by
  simp only [wakeVerdict]
  repeat' split
  all_goals simp
@[simp] theorem applyFallback_pending (n : Nat) (e : MatchEntry) (p : ParsedFrame) (s : State) : (applyFallback n e p s).pending = s.pending := by
  unfold applyFallback
  cases e.fallback <;> simp
@[simp] theorem applyFallback_modeCtl (n : Nat) (e : MatchEntry) (p : ParsedFrame) (s : State) : (applyFallback n e p s).modeCtl = s.modeCtl := by
  unfold applyFallback
  cases e.fallback <;> simp
@[simp] theorem applyFallback_linePort (n : Nat) (e : MatchEntry) (p : ParsedFrame) (s : State) : (applyFallback n e p s).linePort = s.linePort := by
  unfold applyFallback
  cases e.fallback <;> simp
@[simp] theorem applyFallback_guardPath (n : Nat) (e : MatchEntry) (p : ParsedFrame) (s : State) : (applyFallback n e p s).guardPath = s.guardPath := by
  unfold applyFallback
  cases e.fallback <;> simp
@[simp] theorem applyFallback_matchTable (n : Nat) (e : MatchEntry) (p : ParsedFrame) (s : State) : (applyFallback n e p s).matchTable = s.matchTable := by
  unfold applyFallback
  cases e.fallback <;> simp
@[simp] theorem applyFallback_identities (n : Nat) (e : MatchEntry) (p : ParsedFrame) (s : State) : (applyFallback n e p s).identities = s.identities := by
  unfold applyFallback
  cases e.fallback <;> simp
@[simp] theorem applyFallback_names (n : Nat) (e : MatchEntry) (p : ParsedFrame) (s : State) : (applyFallback n e p s).names = s.names := by
  unfold applyFallback
  cases e.fallback <;> simp
@[simp] theorem applyFallback_sessions (n : Nat) (e : MatchEntry) (p : ParsedFrame) (s : State) : (applyFallback n e p s).sessions = s.sessions := by
  unfold applyFallback
  cases e.fallback <;> simp
@[simp] theorem applyFallback_probes (n : Nat) (e : MatchEntry) (p : ParsedFrame) (s : State) : (applyFallback n e p s).probes = s.probes := by
  unfold applyFallback
  cases e.fallback <;> simp
@[simp] theorem applyFallback_reply (n : Nat) (e : MatchEntry) (p : ParsedFrame) (s : State) : (applyFallback n e p s).reply = s.reply := by
  unfold applyFallback
  cases e.fallback <;> simp
@[simp] theorem applyFallback_arb (n : Nat) (e : MatchEntry) (p : ParsedFrame) (s : State) : (applyFallback n e p s).arb = s.arb := by
  unfold applyFallback
  cases e.fallback <;> simp
@[simp] theorem applyFallback_bank (n : Nat) (e : MatchEntry) (p : ParsedFrame) (s : State) : (applyFallback n e p s).bank = s.bank := by
  unfold applyFallback
  cases e.fallback <;> simp
@[simp] theorem applyFallback_sys (n : Nat) (e : MatchEntry) (p : ParsedFrame) (s : State) : (applyFallback n e p s).sys = s.sys := by
  unfold applyFallback
  cases e.fallback <;> simp
@[simp] theorem applyFallback_ctl (n : Nat) (e : MatchEntry) (p : ParsedFrame) (s : State) : (applyFallback n e p s).ctl = s.ctl := by
  unfold applyFallback
  cases e.fallback <;> simp
@[simp] theorem carryOut_pending (n : Nat) (e : MatchEntry) (p : ParsedFrame) (s : State) : (carryOut n e p s).pending = s.pending := by
  unfold carryOut afterResponder
  cases e.action <;> simp [apply_ite State.pending]
@[simp] theorem carryOut_modeCtl (n : Nat) (e : MatchEntry) (p : ParsedFrame) (s : State) : (carryOut n e p s).modeCtl = s.modeCtl := by
  unfold carryOut afterResponder
  cases e.action <;> simp [apply_ite State.modeCtl]
@[simp] theorem carryOut_linePort (n : Nat) (e : MatchEntry) (p : ParsedFrame) (s : State) : (carryOut n e p s).linePort = s.linePort := by
  unfold carryOut afterResponder
  cases e.action <;> simp [apply_ite State.linePort]
@[simp] theorem carryOut_guardPath (n : Nat) (e : MatchEntry) (p : ParsedFrame) (s : State) : (carryOut n e p s).guardPath = s.guardPath := by
  unfold carryOut afterResponder
  cases e.action <;> simp [apply_ite State.guardPath]
@[simp] theorem carryOut_matchTable (n : Nat) (e : MatchEntry) (p : ParsedFrame) (s : State) : (carryOut n e p s).matchTable = s.matchTable := by
  unfold carryOut afterResponder
  cases e.action <;> simp [apply_ite State.matchTable]
@[simp] theorem carryOut_arb (n : Nat) (e : MatchEntry) (p : ParsedFrame) (s : State) : (carryOut n e p s).arb = s.arb := by
  unfold carryOut afterResponder
  cases e.action <;> simp [apply_ite State.arb]
@[simp] theorem carryOut_sys (n : Nat) (e : MatchEntry) (p : ParsedFrame) (s : State) : (carryOut n e p s).sys = s.sys := by
  unfold carryOut afterResponder
  cases e.action <;> simp [apply_ite State.sys]
@[simp] theorem classify_pending (p : ParsedFrame) (s : State) : (classify p s).pending = s.pending := by
  unfold classify
  cases firstMatch s.matchTable p.fv <;> simp [apply_ite State.pending]
@[simp] theorem classify_modeCtl (p : ParsedFrame) (s : State) : (classify p s).modeCtl = s.modeCtl := by
  unfold classify
  cases firstMatch s.matchTable p.fv <;> simp [apply_ite State.modeCtl]
@[simp] theorem classify_linePort (p : ParsedFrame) (s : State) : (classify p s).linePort = s.linePort := by
  unfold classify
  cases firstMatch s.matchTable p.fv <;> simp [apply_ite State.linePort]
@[simp] theorem classify_guardPath (p : ParsedFrame) (s : State) : (classify p s).guardPath = s.guardPath := by
  unfold classify
  cases firstMatch s.matchTable p.fv <;> simp [apply_ite State.guardPath]
@[simp] theorem classify_arb (p : ParsedFrame) (s : State) : (classify p s).arb = s.arb := by
  unfold classify
  cases firstMatch s.matchTable p.fv <;> simp [apply_ite State.arb]
@[simp] theorem classify_sys (p : ParsedFrame) (s : State) : (classify p s).sys = s.sys := by
  unfold classify
  cases firstMatch s.matchTable p.fv <;> simp [apply_ite State.sys]
@[simp] theorem softResetGuard_pending (s : State) : (softResetGuard s).pending = s.pending := by simp [softResetGuard]
@[simp] theorem softResetGuard_linePort (s : State) : (softResetGuard s).linePort = s.linePort := by simp [softResetGuard]
@[simp] theorem softResetGuard_matchTable (s : State) : (softResetGuard s).matchTable = s.matchTable := by simp [softResetGuard]
@[simp] theorem softResetGuard_names (s : State) : (softResetGuard s).names = s.names := by simp [softResetGuard]
@[simp] theorem softResetGuard_reply (s : State) : (softResetGuard s).reply = s.reply := by simp [softResetGuard]
@[simp] theorem softResetGuard_arb (s : State) : (softResetGuard s).arb = s.arb := by simp [softResetGuard]
@[simp] theorem softResetGuard_bank (s : State) : (softResetGuard s).bank = s.bank := by simp [softResetGuard]
@[simp] theorem softResetGuard_wake (s : State) : (softResetGuard s).wake = s.wake := by simp [softResetGuard]
@[simp] theorem softResetGuard_hold (s : State) : (softResetGuard s).hold = s.hold := by simp [softResetGuard]
@[simp] theorem softResetGuard_sys (s : State) : (softResetGuard s).sys = s.sys := by simp [softResetGuard]
@[simp] theorem softResetGuard_ctl (s : State) : (softResetGuard s).ctl = s.ctl := by simp [softResetGuard]
@[simp] theorem softResetReplies_pending (s : State) : (softResetReplies s).pending = s.pending := by simp [softResetReplies]
@[simp] theorem softResetReplies_modeCtl (s : State) : (softResetReplies s).modeCtl = s.modeCtl := by simp [softResetReplies]
@[simp] theorem softResetReplies_linePort (s : State) : (softResetReplies s).linePort = s.linePort := by simp [softResetReplies]
@[simp] theorem softResetReplies_guardPath (s : State) : (softResetReplies s).guardPath = s.guardPath := by simp [softResetReplies]
@[simp] theorem softResetReplies_matchTable (s : State) : (softResetReplies s).matchTable = s.matchTable := by simp [softResetReplies]
@[simp] theorem softResetReplies_identities (s : State) : (softResetReplies s).identities = s.identities := by simp [softResetReplies]
@[simp] theorem softResetReplies_names (s : State) : (softResetReplies s).names = s.names := by simp [softResetReplies]
@[simp] theorem softResetReplies_sessions (s : State) : (softResetReplies s).sessions = s.sessions := by simp [softResetReplies]
@[simp] theorem softResetReplies_probes (s : State) : (softResetReplies s).probes = s.probes := by simp [softResetReplies]
@[simp] theorem softResetReplies_wake (s : State) : (softResetReplies s).wake = s.wake := by simp [softResetReplies]
@[simp] theorem softResetReplies_hold (s : State) : (softResetReplies s).hold = s.hold := by simp [softResetReplies]
@[simp] theorem softResetReplies_sys (s : State) : (softResetReplies s).sys = s.sys := by simp [softResetReplies]
@[simp] theorem softResetReplies_ctl (s : State) : (softResetReplies s).ctl = s.ctl := by simp [softResetReplies]
@[simp] theorem softResetDelivery_pending (s : State) : (softResetDelivery s).pending = s.pending := by simp [softResetDelivery]
@[simp] theorem softResetDelivery_modeCtl (s : State) : (softResetDelivery s).modeCtl = s.modeCtl := by simp [softResetDelivery]
@[simp] theorem softResetDelivery_linePort (s : State) : (softResetDelivery s).linePort = s.linePort := by simp [softResetDelivery]
@[simp] theorem softResetDelivery_guardPath (s : State) : (softResetDelivery s).guardPath = s.guardPath := by simp [softResetDelivery]
@[simp] theorem softResetDelivery_matchTable (s : State) : (softResetDelivery s).matchTable = s.matchTable := by simp [softResetDelivery]
@[simp] theorem softResetDelivery_identities (s : State) : (softResetDelivery s).identities = s.identities := by simp [softResetDelivery]
@[simp] theorem softResetDelivery_names (s : State) : (softResetDelivery s).names = s.names := by simp [softResetDelivery]
@[simp] theorem softResetDelivery_sessions (s : State) : (softResetDelivery s).sessions = s.sessions := by simp [softResetDelivery]
@[simp] theorem softResetDelivery_probes (s : State) : (softResetDelivery s).probes = s.probes := by simp [softResetDelivery]
@[simp] theorem softResetDelivery_reply (s : State) : (softResetDelivery s).reply = s.reply := by simp [softResetDelivery]
@[simp] theorem softResetDelivery_arb (s : State) : (softResetDelivery s).arb = s.arb := by simp [softResetDelivery]
@[simp] theorem softResetDelivery_bank (s : State) : (softResetDelivery s).bank = s.bank := by simp [softResetDelivery]
@[simp] theorem softResetDelivery_ctl (s : State) : (softResetDelivery s).ctl = s.ctl := by simp [softResetDelivery]
@[simp] theorem softReset_pending (s : State) : (softReset s).pending = s.pending := by simp [softReset]
@[simp] theorem softReset_linePort (s : State) : (softReset s).linePort = s.linePort := by simp [softReset]
@[simp] theorem softReset_matchTable (s : State) : (softReset s).matchTable = s.matchTable := by simp [softReset]
@[simp] theorem softReset_names (s : State) : (softReset s).names = s.names := by simp [softReset]
@[simp] theorem softReset_ctl (s : State) : (softReset s).ctl = s.ctl := by simp [softReset]
@[simp] theorem clearLatch_pending (s : State) : (clearLatch s).pending = s.pending := by
  simp only [clearLatch]
  repeat' split
  all_goals simp
@[simp] theorem clearLatch_modeCtl (s : State) : (clearLatch s).modeCtl = s.modeCtl := by
  simp only [clearLatch]
  repeat' split
  all_goals simp
@[simp] theorem clearLatch_guardPath (s : State) : (clearLatch s).guardPath = s.guardPath := by
  simp only [clearLatch]
  repeat' split
  all_goals simp
@[simp] theorem clearLatch_matchTable (s : State) : (clearLatch s).matchTable = s.matchTable := by
  simp only [clearLatch]
  repeat' split
  all_goals simp
@[simp] theorem clearLatch_identities (s : State) : (clearLatch s).identities = s.identities := by
  simp only [clearLatch]
  repeat' split
  all_goals simp
@[simp] theorem clearLatch_names (s : State) : (clearLatch s).names = s.names := by
  simp only [clearLatch]
  repeat' split
  all_goals simp
@[simp] theorem clearLatch_sessions (s : State) : (clearLatch s).sessions = s.sessions := by
  simp only [clearLatch]
  repeat' split
  all_goals simp
@[simp] theorem clearLatch_probes (s : State) : (clearLatch s).probes = s.probes := by
  simp only [clearLatch]
  repeat' split
  all_goals simp
@[simp] theorem clearLatch_reply (s : State) : (clearLatch s).reply = s.reply := by
  simp only [clearLatch]
  repeat' split
  all_goals simp
@[simp] theorem clearLatch_arb (s : State) : (clearLatch s).arb = s.arb := by
  simp only [clearLatch]
  repeat' split
  all_goals simp
@[simp] theorem clearLatch_bank (s : State) : (clearLatch s).bank = s.bank := by
  simp only [clearLatch]
  repeat' split
  all_goals simp
@[simp] theorem clearLatch_wake (s : State) : (clearLatch s).wake = s.wake := by
  simp only [clearLatch]
  repeat' split
  all_goals simp
@[simp] theorem clearLatch_hold (s : State) : (clearLatch s).hold = s.hold := by
  simp only [clearLatch]
  repeat' split
  all_goals simp
@[simp] theorem clearLatch_sys (s : State) : (clearLatch s).sys = s.sys := by
  simp only [clearLatch]
  repeat' split
  all_goals simp
@[simp] theorem clearLatch_ctl (s : State) : (clearLatch s).ctl = s.ctl := by
  simp only [clearLatch]
  repeat' split
  all_goals simp
@[simp] theorem installConfig_pending (c : ConfigRecord) (s : State) : (installConfig c s).pending = s.pending := by simp [installConfig]
@[simp] theorem installConfig_modeCtl (c : ConfigRecord) (s : State) : (installConfig c s).modeCtl = s.modeCtl := by simp [installConfig]
@[simp] theorem installConfig_linePort (c : ConfigRecord) (s : State) : (installConfig c s).linePort = s.linePort := by simp [installConfig]
@[simp] theorem installConfig_matchTable (c : ConfigRecord) (s : State) : (installConfig c s).matchTable = s.matchTable := by simp [installConfig]
@[simp] theorem installConfig_identities (c : ConfigRecord) (s : State) : (installConfig c s).identities = s.identities := by simp [installConfig]
@[simp] theorem installConfig_names (c : ConfigRecord) (s : State) : (installConfig c s).names = s.names := by simp [installConfig]
@[simp] theorem installConfig_sessions (c : ConfigRecord) (s : State) : (installConfig c s).sessions = s.sessions := by simp [installConfig]
@[simp] theorem installConfig_probes (c : ConfigRecord) (s : State) : (installConfig c s).probes = s.probes := by simp [installConfig]
@[simp] theorem installConfig_reply (c : ConfigRecord) (s : State) : (installConfig c s).reply = s.reply := by simp [installConfig]
@[simp] theorem installConfig_arb (c : ConfigRecord) (s : State) : (installConfig c s).arb = s.arb := by simp [installConfig]
@[simp] theorem installConfig_bank (c : ConfigRecord) (s : State) : (installConfig c s).bank = s.bank := by simp [installConfig]
@[simp] theorem installConfig_hold (c : ConfigRecord) (s : State) : (installConfig c s).hold = s.hold := by simp [installConfig]
@[simp] theorem installConfig_sys (c : ConfigRecord) (s : State) : (installConfig c s).sys = s.sys := by simp [installConfig]
@[simp] theorem storeMatch_pending (i : Nat) (e : MatchEntry) (s : State) : (storeMatch i e s).pending = s.pending := by simp [storeMatch]
@[simp] theorem storeMatch_modeCtl (i : Nat) (e : MatchEntry) (s : State) : (storeMatch i e s).modeCtl = s.modeCtl := by simp [storeMatch]
@[simp] theorem storeMatch_linePort (i : Nat) (e : MatchEntry) (s : State) : (storeMatch i e s).linePort = s.linePort := by simp [storeMatch]
@[simp] theorem storeMatch_guardPath (i : Nat) (e : MatchEntry) (s : State) : (storeMatch i e s).guardPath = s.guardPath := by simp [storeMatch]
@[simp] theorem storeMatch_identities (i : Nat) (e : MatchEntry) (s : State) : (storeMatch i e s).identities = s.identities := by simp [storeMatch]
@[simp] theorem storeMatch_names (i : Nat) (e : MatchEntry) (s : State) : (storeMatch i e s).names = s.names := by simp [storeMatch]
@[simp] theorem storeMatch_sessions (i : Nat) (e : MatchEntry) (s : State) : (storeMatch i e s).sessions = s.sessions := by simp [storeMatch]
@[simp] theorem storeMatch_probes (i : Nat) (e : MatchEntry) (s : State) : (storeMatch i e s).probes = s.probes := by simp [storeMatch]
@[simp] theorem storeMatch_reply (i : Nat) (e : MatchEntry) (s : State) : (storeMatch i e s).reply = s.reply := by simp [storeMatch]
@[simp] theorem storeMatch_arb (i : Nat) (e : MatchEntry) (s : State) : (storeMatch i e s).arb = s.arb := by simp [storeMatch]
@[simp] theorem storeMatch_bank (i : Nat) (e : MatchEntry) (s : State) : (storeMatch i e s).bank = s.bank := by simp [storeMatch]
@[simp] theorem storeMatch_wake (i : Nat) (e : MatchEntry) (s : State) : (storeMatch i e s).wake = s.wake := by simp [storeMatch]
@[simp] theorem storeMatch_hold (i : Nat) (e : MatchEntry) (s : State) : (storeMatch i e s).hold = s.hold := by simp [storeMatch]
@[simp] theorem storeMatch_sys (i : Nat) (e : MatchEntry) (s : State) : (storeMatch i e s).sys = s.sys := by simp [storeMatch]
@[simp] theorem storeMatch_ctl (i : Nat) (e : MatchEntry) (s : State) : (storeMatch i e s).ctl = s.ctl := by simp [storeMatch]
@[simp] theorem storeIdentity_pending (i : Nat) (e : Identity) (s : State) : (storeIdentity i e s).pending = s.pending := by simp [storeIdentity]
@[simp] theorem storeIdentity_modeCtl (i : Nat) (e : Identity) (s : State) : (storeIdentity i e s).modeCtl = s.modeCtl := by simp [storeIdentity]
@[simp] theorem storeIdentity_linePort (i : Nat) (e : Identity) (s : State) : (storeIdentity i e s).linePort = s.linePort := by simp [storeIdentity]
@[simp] theorem storeIdentity_matchTable (i : Nat) (e : Identity) (s : State) : (storeIdentity i e s).matchTable = s.matchTable := by simp [storeIdentity]
@[simp] theorem storeIdentity_names (i : Nat) (e : Identity) (s : State) : (storeIdentity i e s).names = s.names := by simp [storeIdentity]
@[simp] theorem storeIdentity_sessions (i : Nat) (e : Identity) (s : State) : (storeIdentity i e s).sessions = s.sessions := by simp [storeIdentity]
@[simp] theorem storeIdentity_probes (i : Nat) (e : Identity) (s : State) : (storeIdentity i e s).probes = s.probes := by simp [storeIdentity]
@[simp] theorem storeIdentity_reply (i : Nat) (e : Identity) (s : State) : (storeIdentity i e s).reply = s.reply := by simp [storeIdentity]
@[simp] theorem storeIdentity_arb (i : Nat) (e : Identity) (s : State) : (storeIdentity i e s).arb = s.arb := by simp [storeIdentity]
@[simp] theorem storeIdentity_bank (i : Nat) (e : Identity) (s : State) : (storeIdentity i e s).bank = s.bank := by simp [storeIdentity]
@[simp] theorem storeIdentity_wake (i : Nat) (e : Identity) (s : State) : (storeIdentity i e s).wake = s.wake := by simp [storeIdentity]
@[simp] theorem storeIdentity_hold (i : Nat) (e : Identity) (s : State) : (storeIdentity i e s).hold = s.hold := by simp [storeIdentity]
@[simp] theorem storeIdentity_sys (i : Nat) (e : Identity) (s : State) : (storeIdentity i e s).sys = s.sys := by simp [storeIdentity]
@[simp] theorem storeIdentity_ctl (i : Nat) (e : Identity) (s : State) : (storeIdentity i e s).ctl = s.ctl := by simp [storeIdentity]
@[simp] theorem storeName_pending (i : Nat) (e : NameEntry) (s : State) : (storeName i e s).pending = s.pending := by simp [storeName]
@[simp] theorem storeName_modeCtl (i : Nat) (e : NameEntry) (s : State) : (storeName i e s).modeCtl = s.modeCtl := by simp [storeName]
@[simp] theorem storeName_linePort (i : Nat) (e : NameEntry) (s : State) : (storeName i e s).linePort = s.linePort := by simp [storeName]
@[simp] theorem storeName_guardPath (i : Nat) (e : NameEntry) (s : State) : (storeName i e s).guardPath = s.guardPath := by simp [storeName]
@[simp] theorem storeName_matchTable (i : Nat) (e : NameEntry) (s : State) : (storeName i e s).matchTable = s.matchTable := by simp [storeName]
@[simp] theorem storeName_identities (i : Nat) (e : NameEntry) (s : State) : (storeName i e s).identities = s.identities := by simp [storeName]
@[simp] theorem storeName_sessions (i : Nat) (e : NameEntry) (s : State) : (storeName i e s).sessions = s.sessions := by simp [storeName]
@[simp] theorem storeName_probes (i : Nat) (e : NameEntry) (s : State) : (storeName i e s).probes = s.probes := by simp [storeName]
@[simp] theorem storeName_reply (i : Nat) (e : NameEntry) (s : State) : (storeName i e s).reply = s.reply := by simp [storeName]
@[simp] theorem storeName_arb (i : Nat) (e : NameEntry) (s : State) : (storeName i e s).arb = s.arb := by simp [storeName]
@[simp] theorem storeName_bank (i : Nat) (e : NameEntry) (s : State) : (storeName i e s).bank = s.bank := by simp [storeName]
@[simp] theorem storeName_wake (i : Nat) (e : NameEntry) (s : State) : (storeName i e s).wake = s.wake := by simp [storeName]
@[simp] theorem storeName_hold (i : Nat) (e : NameEntry) (s : State) : (storeName i e s).hold = s.hold := by simp [storeName]
@[simp] theorem storeName_sys (i : Nat) (e : NameEntry) (s : State) : (storeName i e s).sys = s.sys := by simp [storeName]
@[simp] theorem storeName_ctl (i : Nat) (e : NameEntry) (s : State) : (storeName i e s).ctl = s.ctl := by simp [storeName]
@[simp] theorem storeSession_pending (i : Nat) (e : Session) (s : State) : (storeSession i e s).pending = s.pending := by simp [storeSession]
@[simp] theorem storeSession_modeCtl (i : Nat) (e : Session) (s : State) : (storeSession i e s).modeCtl = s.modeCtl := by simp [storeSession]
@[simp] theorem storeSession_linePort (i : Nat) (e : Session) (s : State) : (storeSession i e s).linePort = s.linePort := by simp [storeSession]
@[simp] theorem storeSession_guardPath (i : Nat) (e : Session) (s : State) : (storeSession i e s).guardPath = s.guardPath := by simp [storeSession]
@[simp] theorem storeSession_matchTable (i : Nat) (e : Session) (s : State) : (storeSession i e s).matchTable = s.matchTable := by simp [storeSession]
@[simp] theorem storeSession_identities (i : Nat) (e : Session) (s : State) : (storeSession i e s).identities = s.identities := by simp [storeSession]
@[simp] theorem storeSession_names (i : Nat) (e : Session) (s : State) : (storeSession i e s).names = s.names := by simp [storeSession]
@[simp] theorem storeSession_probes (i : Nat) (e : Session) (s : State) : (storeSession i e s).probes = s.probes := by simp [storeSession]
@[simp] theorem storeSession_reply (i : Nat) (e : Session) (s : State) : (storeSession i e s).reply = s.reply := by simp [storeSession]
@[simp] theorem storeSession_arb (i : Nat) (e : Session) (s : State) : (storeSession i e s).arb = s.arb := by simp [storeSession]
@[simp] theorem storeSession_bank (i : Nat) (e : Session) (s : State) : (storeSession i e s).bank = s.bank := by simp [storeSession]
@[simp] theorem storeSession_wake (i : Nat) (e : Session) (s : State) : (storeSession i e s).wake = s.wake := by simp [storeSession]
@[simp] theorem storeSession_hold (i : Nat) (e : Session) (s : State) : (storeSession i e s).hold = s.hold := by simp [storeSession]
@[simp] theorem storeSession_sys (i : Nat) (e : Session) (s : State) : (storeSession i e s).sys = s.sys := by simp [storeSession]
@[simp] theorem storeSession_ctl (i : Nat) (e : Session) (s : State) : (storeSession i e s).ctl = s.ctl := by simp [storeSession]
@[simp] theorem storeAlarm_pending (i : Nat) (e : Alarm) (s : State) : (storeAlarm i e s).pending = s.pending := by simp [storeAlarm]
@[simp] theorem storeAlarm_modeCtl (i : Nat) (e : Alarm) (s : State) : (storeAlarm i e s).modeCtl = s.modeCtl := by simp [storeAlarm]
@[simp] theorem storeAlarm_linePort (i : Nat) (e : Alarm) (s : State) : (storeAlarm i e s).linePort = s.linePort := by simp [storeAlarm]
@[simp] theorem storeAlarm_guardPath (i : Nat) (e : Alarm) (s : State) : (storeAlarm i e s).guardPath = s.guardPath := by simp [storeAlarm]
@[simp] theorem storeAlarm_matchTable (i : Nat) (e : Alarm) (s : State) : (storeAlarm i e s).matchTable = s.matchTable := by simp [storeAlarm]
@[simp] theorem storeAlarm_identities (i : Nat) (e : Alarm) (s : State) : (storeAlarm i e s).identities = s.identities := by simp [storeAlarm]
@[simp] theorem storeAlarm_names (i : Nat) (e : Alarm) (s : State) : (storeAlarm i e s).names = s.names := by simp [storeAlarm]
@[simp] theorem storeAlarm_sessions (i : Nat) (e : Alarm) (s : State) : (storeAlarm i e s).sessions = s.sessions := by simp [storeAlarm]
@[simp] theorem storeAlarm_probes (i : Nat) (e : Alarm) (s : State) : (storeAlarm i e s).probes = s.probes := by simp [storeAlarm]
@[simp] theorem storeAlarm_reply (i : Nat) (e : Alarm) (s : State) : (storeAlarm i e s).reply = s.reply := by simp [storeAlarm]
@[simp] theorem storeAlarm_arb (i : Nat) (e : Alarm) (s : State) : (storeAlarm i e s).arb = s.arb := by simp [storeAlarm]
@[simp] theorem storeAlarm_wake (i : Nat) (e : Alarm) (s : State) : (storeAlarm i e s).wake = s.wake := by simp [storeAlarm]
@[simp] theorem storeAlarm_hold (i : Nat) (e : Alarm) (s : State) : (storeAlarm i e s).hold = s.hold := by simp [storeAlarm]
@[simp] theorem storeAlarm_sys (i : Nat) (e : Alarm) (s : State) : (storeAlarm i e s).sys = s.sys := by simp [storeAlarm]
@[simp] theorem storeAlarm_ctl (i : Nat) (e : Alarm) (s : State) : (storeAlarm i e s).ctl = s.ctl := by simp [storeAlarm]
@[simp] theorem startSessionTimers_pending (i : Nat) (l : List Session) (s : State) : (startSessionTimers i l s).pending = s.pending := by
  induction l generalizing i s <;> simp_all [startSessionTimers] <;> (try split) <;> simp_all
@[simp] theorem startSessionTimers_modeCtl (i : Nat) (l : List Session) (s : State) : (startSessionTimers i l s).modeCtl = s.modeCtl := by
  induction l generalizing i s <;> simp_all [startSessionTimers] <;> (try split) <;> simp_all
@[simp] theorem startSessionTimers_linePort (i : Nat) (l : List Session) (s : State) : (startSessionTimers i l s).linePort = s.linePort := by
  induction l generalizing i s <;> simp_all [startSessionTimers] <;> (try split) <;> simp_all
@[simp] theorem startSessionTimers_guardPath (i : Nat) (l : List Session) (s : State) : (startSessionTimers i l s).guardPath = s.guardPath := by
  induction l generalizing i s <;> simp_all [startSessionTimers] <;> (try split) <;> simp_all
@[simp] theorem startSessionTimers_matchTable (i : Nat) (l : List Session) (s : State) : (startSessionTimers i l s).matchTable = s.matchTable := by
  induction l generalizing i s <;> simp_all [startSessionTimers] <;> (try split) <;> simp_all
@[simp] theorem startSessionTimers_identities (i : Nat) (l : List Session) (s : State) : (startSessionTimers i l s).identities = s.identities := by
  induction l generalizing i s <;> simp_all [startSessionTimers] <;> (try split) <;> simp_all
@[simp] theorem startSessionTimers_names (i : Nat) (l : List Session) (s : State) : (startSessionTimers i l s).names = s.names := by
  induction l generalizing i s <;> simp_all [startSessionTimers] <;> (try split) <;> simp_all
@[simp] theorem startSessionTimers_sessions (i : Nat) (l : List Session) (s : State) : (startSessionTimers i l s).sessions = s.sessions := by
  induction l generalizing i s <;> simp_all [startSessionTimers] <;> (try split) <;> simp_all
@[simp] theorem startSessionTimers_probes (i : Nat) (l : List Session) (s : State) : (startSessionTimers i l s).probes = s.probes := by
  induction l generalizing i s <;> simp_all [startSessionTimers] <;> (try split) <;> simp_all
@[simp] theorem startSessionTimers_reply (i : Nat) (l : List Session) (s : State) : (startSessionTimers i l s).reply = s.reply := by
  induction l generalizing i s <;> simp_all [startSessionTimers] <;> (try split) <;> simp_all
@[simp] theorem startSessionTimers_arb (i : Nat) (l : List Session) (s : State) : (startSessionTimers i l s).arb = s.arb := by
  induction l generalizing i s <;> simp_all [startSessionTimers] <;> (try split) <;> simp_all
@[simp] theorem startSessionTimers_wake (i : Nat) (l : List Session) (s : State) : (startSessionTimers i l s).wake = s.wake := by
  induction l generalizing i s <;> simp_all [startSessionTimers] <;> (try split) <;> simp_all
@[simp] theorem startSessionTimers_hold (i : Nat) (l : List Session) (s : State) : (startSessionTimers i l s).hold = s.hold := by
  induction l generalizing i s <;> simp_all [startSessionTimers] <;> (try split) <;> simp_all
@[simp] theorem startSessionTimers_sys (i : Nat) (l : List Session) (s : State) : (startSessionTimers i l s).sys = s.sys := by
  induction l generalizing i s <;> simp_all [startSessionTimers] <;> (try split) <;> simp_all
@[simp] theorem startSessionTimers_ctl (i : Nat) (l : List Session) (s : State) : (startSessionTimers i l s).ctl = s.ctl := by
  induction l generalizing i s <;> simp_all [startSessionTimers] <;> (try split) <;> simp_all
@[simp] theorem startAlarmTimers_pending (i : Nat) (l : List Alarm) (s : State) : (startAlarmTimers i l s).pending = s.pending := by
  induction l generalizing i s <;> simp_all [startAlarmTimers] <;> (try split) <;> simp_all
@[simp] theorem startAlarmTimers_modeCtl (i : Nat) (l : List Alarm) (s : State) : (startAlarmTimers i l s).modeCtl = s.modeCtl := by
  induction l generalizing i s <;> simp_all [startAlarmTimers] <;> (try split) <;> simp_all
@[simp] theorem startAlarmTimers_linePort (i : Nat) (l : List Alarm) (s : State) : (startAlarmTimers i l s).linePort = s.linePort := by
  induction l generalizing i s <;> simp_all [startAlarmTimers] <;> (try split) <;> simp_all
@[simp] theorem startAlarmTimers_guardPath (i : Nat) (l : List Alarm) (s : State) : (startAlarmTimers i l s).guardPath = s.guardPath := by
  induction l generalizing i s <;> simp_all [startAlarmTimers] <;> (try split) <;> simp_all
@[simp] theorem startAlarmTimers_matchTable (i : Nat) (l : List Alarm) (s : State) : (startAlarmTimers i l s).matchTable = s.matchTable := by
  induction l generalizing i s <;> simp_all [startAlarmTimers] <;> (try split) <;> simp_all
@[simp] theorem startAlarmTimers_identities (i : Nat) (l : List Alarm) (s : State) : (startAlarmTimers i l s).identities = s.identities := by
  induction l generalizing i s <;> simp_all [startAlarmTimers] <;> (try split) <;> simp_all
@[simp] theorem startAlarmTimers_names (i : Nat) (l : List Alarm) (s : State) : (startAlarmTimers i l s).names = s.names := by
  induction l generalizing i s <;> simp_all [startAlarmTimers] <;> (try split) <;> simp_all
@[simp] theorem startAlarmTimers_sessions (i : Nat) (l : List Alarm) (s : State) : (startAlarmTimers i l s).sessions = s.sessions := by
  induction l generalizing i s <;> simp_all [startAlarmTimers] <;> (try split) <;> simp_all
@[simp] theorem startAlarmTimers_probes (i : Nat) (l : List Alarm) (s : State) : (startAlarmTimers i l s).probes = s.probes := by
  induction l generalizing i s <;> simp_all [startAlarmTimers] <;> (try split) <;> simp_all
@[simp] theorem startAlarmTimers_reply (i : Nat) (l : List Alarm) (s : State) : (startAlarmTimers i l s).reply = s.reply := by
  induction l generalizing i s <;> simp_all [startAlarmTimers] <;> (try split) <;> simp_all
@[simp] theorem startAlarmTimers_arb (i : Nat) (l : List Alarm) (s : State) : (startAlarmTimers i l s).arb = s.arb := by
  induction l generalizing i s <;> simp_all [startAlarmTimers] <;> (try split) <;> simp_all
@[simp] theorem startAlarmTimers_wake (i : Nat) (l : List Alarm) (s : State) : (startAlarmTimers i l s).wake = s.wake := by
  induction l generalizing i s <;> simp_all [startAlarmTimers] <;> (try split) <;> simp_all
@[simp] theorem startAlarmTimers_hold (i : Nat) (l : List Alarm) (s : State) : (startAlarmTimers i l s).hold = s.hold := by
  induction l generalizing i s <;> simp_all [startAlarmTimers] <;> (try split) <;> simp_all
@[simp] theorem startAlarmTimers_sys (i : Nat) (l : List Alarm) (s : State) : (startAlarmTimers i l s).sys = s.sys := by
  induction l generalizing i s <;> simp_all [startAlarmTimers] <;> (try split) <;> simp_all
@[simp] theorem startAlarmTimers_ctl (i : Nat) (l : List Alarm) (s : State) : (startAlarmTimers i l s).ctl = s.ctl := by
  induction l generalizing i s <;> simp_all [startAlarmTimers] <;> (try split) <;> simp_all
@[simp] theorem enterTimers_pending (s : State) : (enterTimers s).pending = s.pending := by simp [enterTimers]
@[simp] theorem enterTimers_modeCtl (s : State) : (enterTimers s).modeCtl = s.modeCtl := by simp [enterTimers]
@[simp] theorem enterTimers_linePort (s : State) : (enterTimers s).linePort = s.linePort := by simp [enterTimers]
@[simp] theorem enterTimers_guardPath (s : State) : (enterTimers s).guardPath = s.guardPath := by simp [enterTimers]
@[simp] theorem enterTimers_matchTable (s : State) : (enterTimers s).matchTable = s.matchTable := by simp [enterTimers]
@[simp] theorem enterTimers_identities (s : State) : (enterTimers s).identities = s.identities := by simp [enterTimers]
@[simp] theorem enterTimers_names (s : State) : (enterTimers s).names = s.names := by simp [enterTimers]
@[simp] theorem enterTimers_sessions (s : State) : (enterTimers s).sessions = s.sessions := by simp [enterTimers]
@[simp] theorem enterTimers_probes (s : State) : (enterTimers s).probes = s.probes := by simp [enterTimers]
@[simp] theorem enterTimers_reply (s : State) : (enterTimers s).reply = s.reply := by simp [enterTimers]
@[simp] theorem enterTimers_arb (s : State) : (enterTimers s).arb = s.arb := by simp [enterTimers]
@[simp] theorem enterTimers_wake (s : State) : (enterTimers s).wake = s.wake := by simp [enterTimers]
@[simp] theorem enterTimers_hold (s : State) : (enterTimers s).hold = s.hold := by simp [enterTimers]
@[simp] theorem enterTimers_sys (s : State) : (enterTimers s).sys = s.sys := by simp [enterTimers]
@[simp] theorem enterTimers_ctl (s : State) : (enterTimers s).ctl = s.ctl := by simp [enterTimers]
@[simp] theorem guardExit_pending (s : State) : (guardExit s).pending = s.pending := by simp [guardExit]
@[simp] theorem guardExit_linePort (s : State) : (guardExit s).linePort = s.linePort := by simp [guardExit]
@[simp] theorem guardExit_guardPath (s : State) : (guardExit s).guardPath = s.guardPath := by simp [guardExit]
@[simp] theorem guardExit_matchTable (s : State) : (guardExit s).matchTable = s.matchTable := by simp [guardExit]
@[simp] theorem guardExit_identities (s : State) : (guardExit s).identities = s.identities := by simp [guardExit]
@[simp] theorem guardExit_names (s : State) : (guardExit s).names = s.names := by simp [guardExit]
@[simp] theorem guardExit_reply (s : State) : (guardExit s).reply = s.reply := by simp [guardExit]
@[simp] theorem guardExit_arb (s : State) : (guardExit s).arb = s.arb := by simp [guardExit]
@[simp] theorem guardExit_hold (s : State) : (guardExit s).hold = s.hold := by simp [guardExit]
@[simp] theorem guardExit_sys (s : State) : (guardExit s).sys = s.sys := by simp [guardExit]
@[simp] theorem guardExit_ctl (s : State) : (guardExit s).ctl = s.ctl := by simp [guardExit]
@[simp] theorem clearCounters_pending (s : State) : (clearCounters s).pending = s.pending := by simp [clearCounters]
@[simp] theorem clearCounters_modeCtl (s : State) : (clearCounters s).modeCtl = s.modeCtl := by simp [clearCounters]
@[simp] theorem clearCounters_linePort (s : State) : (clearCounters s).linePort = s.linePort := by simp [clearCounters]
@[simp] theorem clearCounters_guardPath (s : State) : (clearCounters s).guardPath = s.guardPath := by simp [clearCounters]
@[simp] theorem clearCounters_matchTable (s : State) : (clearCounters s).matchTable = s.matchTable := by simp [clearCounters]
@[simp] theorem clearCounters_identities (s : State) : (clearCounters s).identities = s.identities := by simp [clearCounters]
@[simp] theorem clearCounters_names (s : State) : (clearCounters s).names = s.names := by simp [clearCounters]
@[simp] theorem clearCounters_sessions (s : State) : (clearCounters s).sessions = s.sessions := by simp [clearCounters]
@[simp] theorem clearCounters_probes (s : State) : (clearCounters s).probes = s.probes := by simp [clearCounters]
@[simp] theorem clearCounters_reply (s : State) : (clearCounters s).reply = s.reply := by simp [clearCounters]
@[simp] theorem clearCounters_arb (s : State) : (clearCounters s).arb = s.arb := by simp [clearCounters]
@[simp] theorem clearCounters_bank (s : State) : (clearCounters s).bank = s.bank := by simp [clearCounters]
@[simp] theorem clearCounters_wake (s : State) : (clearCounters s).wake = s.wake := by simp [clearCounters]
@[simp] theorem clearCounters_hold (s : State) : (clearCounters s).hold = s.hold := by simp [clearCounters]
@[simp] theorem clearCounters_sys (s : State) : (clearCounters s).sys = s.sys := by simp [clearCounters]

end Sys2Proof.Machine
end

