-- ==== Sys2Proof/Laws/Parts.lean ====
section
/-! SUPPORT. Frames of the shared operations, finer: where an operation changes a block, the parts of that
block (the configuration and the response, the tick count and E, pressure and wake record, records and serial)
that it leaves as they are. -/

namespace Sys2Proof.Machine

@[simp] theorem setMode_ctl_cfg (m : Mode) (s : State) : (setMode m s).ctl.cfg = s.ctl.cfg := by simp [setMode]
@[simp] theorem setMode_ctl_response (m : Mode) (s : State) : (setMode m s).ctl.response = s.ctl.response := by simp [setMode]
@[simp] theorem setMode_bank_tick (m : Mode) (s : State) : (setMode m s).bank.tick = s.bank.tick := by simp [setMode]
@[simp] theorem setMode_bank_elapsed (m : Mode) (s : State) : (setMode m s).bank.elapsed = s.bank.elapsed := by simp [setMode]
@[simp] theorem setMode_wake_pressure (m : Mode) (s : State) : (setMode m s).wake.pressure = s.wake.pressure := by simp [setMode]
@[simp] theorem setMode_wake_pstate (m : Mode) (s : State) : (setMode m s).wake.pstate = s.wake.pstate := by simp [setMode]
@[simp] theorem setMode_wake_record (m : Mode) (s : State) : (setMode m s).wake.record = s.wake.record := by simp [setMode]
@[simp] theorem setMode_hold_records (m : Mode) (s : State) : (setMode m s).hold.records = s.hold.records := by simp [setMode]
@[simp] theorem setMode_hold_serial (m : Mode) (s : State) : (setMode m s).hold.serial = s.hold.serial := by simp [setMode]
@[simp] theorem bump_ctl_cfg (c : Counter) (s : State) : (bump c s).ctl.cfg = s.ctl.cfg := by simp [bump]
@[simp] theorem bump_ctl_response (c : Counter) (s : State) : (bump c s).ctl.response = s.ctl.response := by simp [bump]
@[simp] theorem bump_bank_tick (c : Counter) (s : State) : (bump c s).bank.tick = s.bank.tick := by simp [bump]
@[simp] theorem bump_bank_elapsed (c : Counter) (s : State) : (bump c s).bank.elapsed = s.bank.elapsed := by simp [bump]
@[simp] theorem bump_wake_pressure (c : Counter) (s : State) : (bump c s).wake.pressure = s.wake.pressure := by simp [bump]
@[simp] theorem bump_wake_pstate (c : Counter) (s : State) : (bump c s).wake.pstate = s.wake.pstate := by simp [bump]
@[simp] theorem bump_wake_record (c : Counter) (s : State) : (bump c s).wake.record = s.wake.record := by simp [bump]
@[simp] theorem bump_hold_records (c : Counter) (s : State) : (bump c s).hold.records = s.hold.records := by simp [bump]
@[simp] theorem bump_hold_serial (c : Counter) (s : State) : (bump c s).hold.serial = s.hold.serial := by simp [bump]
@[simp] theorem bumpIf_ctl_cfg (p : Bool) (c : Counter) (s : State) : (bumpIf p c s).ctl.cfg = s.ctl.cfg := by
  simp only [bumpIf]
  repeat' split
  all_goals simp
@[simp] theorem bumpIf_ctl_response (p : Bool) (c : Counter) (s : State) : (bumpIf p c s).ctl.response = s.ctl.response := by
  simp only [bumpIf]
  repeat' split
  all_goals simp
@[simp] theorem bumpIf_bank_tick (p : Bool) (c : Counter) (s : State) : (bumpIf p c s).bank.tick = s.bank.tick := by
  simp only [bumpIf]
  repeat' split
  all_goals simp
@[simp] theorem bumpIf_bank_elapsed (p : Bool) (c : Counter) (s : State) : (bumpIf p c s).bank.elapsed = s.bank.elapsed := by
  simp only [bumpIf]
  repeat' split
  all_goals simp
@[simp] theorem bumpIf_wake_pressure (p : Bool) (c : Counter) (s : State) : (bumpIf p c s).wake.pressure = s.wake.pressure := by
  simp only [bumpIf]
  repeat' split
  all_goals simp
@[simp] theorem bumpIf_wake_pstate (p : Bool) (c : Counter) (s : State) : (bumpIf p c s).wake.pstate = s.wake.pstate := by
  simp only [bumpIf]
  repeat' split
  all_goals simp
@[simp] theorem bumpIf_wake_record (p : Bool) (c : Counter) (s : State) : (bumpIf p c s).wake.record = s.wake.record := by
  simp only [bumpIf]
  repeat' split
  all_goals simp
@[simp] theorem bumpIf_hold_records (p : Bool) (c : Counter) (s : State) : (bumpIf p c s).hold.records = s.hold.records := by
  simp only [bumpIf]
  repeat' split
  all_goals simp
@[simp] theorem bumpIf_hold_serial (p : Bool) (c : Counter) (s : State) : (bumpIf p c s).hold.serial = s.hold.serial := by
  simp only [bumpIf]
  repeat' split
  all_goals simp
@[simp] theorem modifyIdentity_ctl_cfg (i : Nat) (f : Identity → Identity) (s : State) : (modifyIdentity i f s).ctl.cfg = s.ctl.cfg := by simp [modifyIdentity]
@[simp] theorem modifyIdentity_ctl_response (i : Nat) (f : Identity → Identity) (s : State) : (modifyIdentity i f s).ctl.response = s.ctl.response := by simp [modifyIdentity]
@[simp] theorem modifyIdentity_bank_tick (i : Nat) (f : Identity → Identity) (s : State) : (modifyIdentity i f s).bank.tick = s.bank.tick := by simp [modifyIdentity]
@[simp] theorem modifyIdentity_bank_elapsed (i : Nat) (f : Identity → Identity) (s : State) : (modifyIdentity i f s).bank.elapsed = s.bank.elapsed := by simp [modifyIdentity]
@[simp] theorem modifyIdentity_wake_pressure (i : Nat) (f : Identity → Identity) (s : State) : (modifyIdentity i f s).wake.pressure = s.wake.pressure := by simp [modifyIdentity]
@[simp] theorem modifyIdentity_wake_pstate (i : Nat) (f : Identity → Identity) (s : State) : (modifyIdentity i f s).wake.pstate = s.wake.pstate := by simp [modifyIdentity]
@[simp] theorem modifyIdentity_wake_record (i : Nat) (f : Identity → Identity) (s : State) : (modifyIdentity i f s).wake.record = s.wake.record := by simp [modifyIdentity]
@[simp] theorem modifyIdentity_hold_records (i : Nat) (f : Identity → Identity) (s : State) : (modifyIdentity i f s).hold.records = s.hold.records := by simp [modifyIdentity]
@[simp] theorem modifyIdentity_hold_serial (i : Nat) (f : Identity → Identity) (s : State) : (modifyIdentity i f s).hold.serial = s.hold.serial := by simp [modifyIdentity]
@[simp] theorem modifySession_ctl_cfg (i : Nat) (f : Session → Session) (s : State) : (modifySession i f s).ctl.cfg = s.ctl.cfg := by simp [modifySession]
@[simp] theorem modifySession_ctl_response (i : Nat) (f : Session → Session) (s : State) : (modifySession i f s).ctl.response = s.ctl.response := by simp [modifySession]
@[simp] theorem modifySession_bank_tick (i : Nat) (f : Session → Session) (s : State) : (modifySession i f s).bank.tick = s.bank.tick := by simp [modifySession]
@[simp] theorem modifySession_bank_elapsed (i : Nat) (f : Session → Session) (s : State) : (modifySession i f s).bank.elapsed = s.bank.elapsed := by simp [modifySession]
@[simp] theorem modifySession_wake_pressure (i : Nat) (f : Session → Session) (s : State) : (modifySession i f s).wake.pressure = s.wake.pressure := by simp [modifySession]
@[simp] theorem modifySession_wake_pstate (i : Nat) (f : Session → Session) (s : State) : (modifySession i f s).wake.pstate = s.wake.pstate := by simp [modifySession]
@[simp] theorem modifySession_wake_record (i : Nat) (f : Session → Session) (s : State) : (modifySession i f s).wake.record = s.wake.record := by simp [modifySession]
@[simp] theorem modifySession_hold_records (i : Nat) (f : Session → Session) (s : State) : (modifySession i f s).hold.records = s.hold.records := by simp [modifySession]
@[simp] theorem modifySession_hold_serial (i : Nat) (f : Session → Session) (s : State) : (modifySession i f s).hold.serial = s.hold.serial := by simp [modifySession]
@[simp] theorem modifyTimer_ctl_cfg (i : Nat) (f : Timer → Timer) (s : State) : (modifyTimer i f s).ctl.cfg = s.ctl.cfg := by simp [modifyTimer]
@[simp] theorem modifyTimer_ctl_response (i : Nat) (f : Timer → Timer) (s : State) : (modifyTimer i f s).ctl.response = s.ctl.response := by simp [modifyTimer]
@[simp] theorem modifyTimer_bank_tick (i : Nat) (f : Timer → Timer) (s : State) : (modifyTimer i f s).bank.tick = s.bank.tick := by simp [modifyTimer]
@[simp] theorem modifyTimer_bank_elapsed (i : Nat) (f : Timer → Timer) (s : State) : (modifyTimer i f s).bank.elapsed = s.bank.elapsed := by simp [modifyTimer]
@[simp] theorem modifyTimer_wake_pressure (i : Nat) (f : Timer → Timer) (s : State) : (modifyTimer i f s).wake.pressure = s.wake.pressure := by simp [modifyTimer]
@[simp] theorem modifyTimer_wake_pstate (i : Nat) (f : Timer → Timer) (s : State) : (modifyTimer i f s).wake.pstate = s.wake.pstate := by simp [modifyTimer]
@[simp] theorem modifyTimer_wake_record (i : Nat) (f : Timer → Timer) (s : State) : (modifyTimer i f s).wake.record = s.wake.record := by simp [modifyTimer]
@[simp] theorem modifyTimer_hold_records (i : Nat) (f : Timer → Timer) (s : State) : (modifyTimer i f s).hold.records = s.hold.records := by simp [modifyTimer]
@[simp] theorem modifyTimer_hold_serial (i : Nat) (f : Timer → Timer) (s : State) : (modifyTimer i f s).hold.serial = s.hold.serial := by simp [modifyTimer]
@[simp] theorem modifyAlarm_ctl_cfg (i : Nat) (f : Alarm → Alarm) (s : State) : (modifyAlarm i f s).ctl.cfg = s.ctl.cfg := by simp [modifyAlarm]
@[simp] theorem modifyAlarm_ctl_response (i : Nat) (f : Alarm → Alarm) (s : State) : (modifyAlarm i f s).ctl.response = s.ctl.response := by simp [modifyAlarm]
@[simp] theorem modifyAlarm_bank_tick (i : Nat) (f : Alarm → Alarm) (s : State) : (modifyAlarm i f s).bank.tick = s.bank.tick := by simp [modifyAlarm]
@[simp] theorem modifyAlarm_bank_elapsed (i : Nat) (f : Alarm → Alarm) (s : State) : (modifyAlarm i f s).bank.elapsed = s.bank.elapsed := by simp [modifyAlarm]
@[simp] theorem modifyAlarm_wake_pressure (i : Nat) (f : Alarm → Alarm) (s : State) : (modifyAlarm i f s).wake.pressure = s.wake.pressure := by simp [modifyAlarm]
@[simp] theorem modifyAlarm_wake_pstate (i : Nat) (f : Alarm → Alarm) (s : State) : (modifyAlarm i f s).wake.pstate = s.wake.pstate := by simp [modifyAlarm]
@[simp] theorem modifyAlarm_wake_record (i : Nat) (f : Alarm → Alarm) (s : State) : (modifyAlarm i f s).wake.record = s.wake.record := by simp [modifyAlarm]
@[simp] theorem modifyAlarm_hold_records (i : Nat) (f : Alarm → Alarm) (s : State) : (modifyAlarm i f s).hold.records = s.hold.records := by simp [modifyAlarm]
@[simp] theorem modifyAlarm_hold_serial (i : Nat) (f : Alarm → Alarm) (s : State) : (modifyAlarm i f s).hold.serial = s.hold.serial := by simp [modifyAlarm]
@[simp] theorem startTimer_ctl_cfg (i count reload : Nat) (m : TimerMode) (s : State) : (startTimer i count reload m s).ctl.cfg = s.ctl.cfg := by simp [startTimer]
@[simp] theorem startTimer_ctl_response (i count reload : Nat) (m : TimerMode) (s : State) : (startTimer i count reload m s).ctl.response = s.ctl.response := by simp [startTimer]
@[simp] theorem startTimer_bank_tick (i count reload : Nat) (m : TimerMode) (s : State) : (startTimer i count reload m s).bank.tick = s.bank.tick := by simp [startTimer]
@[simp] theorem startTimer_bank_elapsed (i count reload : Nat) (m : TimerMode) (s : State) : (startTimer i count reload m s).bank.elapsed = s.bank.elapsed := by simp [startTimer]
@[simp] theorem startTimer_wake_pressure (i count reload : Nat) (m : TimerMode) (s : State) : (startTimer i count reload m s).wake.pressure = s.wake.pressure := by simp [startTimer]
@[simp] theorem startTimer_wake_pstate (i count reload : Nat) (m : TimerMode) (s : State) : (startTimer i count reload m s).wake.pstate = s.wake.pstate := by simp [startTimer]
@[simp] theorem startTimer_wake_record (i count reload : Nat) (m : TimerMode) (s : State) : (startTimer i count reload m s).wake.record = s.wake.record := by simp [startTimer]
@[simp] theorem startTimer_hold_records (i count reload : Nat) (m : TimerMode) (s : State) : (startTimer i count reload m s).hold.records = s.hold.records := by simp [startTimer]
@[simp] theorem startTimer_hold_serial (i count reload : Nat) (m : TimerMode) (s : State) : (startTimer i count reload m s).hold.serial = s.hold.serial := by simp [startTimer]
@[simp] theorem stageTimer_ctl_cfg (i v : Nat) (s : State) : (stageTimer i v s).ctl.cfg = s.ctl.cfg := by simp [stageTimer]
@[simp] theorem stageTimer_ctl_response (i v : Nat) (s : State) : (stageTimer i v s).ctl.response = s.ctl.response := by simp [stageTimer]
@[simp] theorem stageTimer_bank_tick (i v : Nat) (s : State) : (stageTimer i v s).bank.tick = s.bank.tick := by simp [stageTimer]
@[simp] theorem stageTimer_bank_elapsed (i v : Nat) (s : State) : (stageTimer i v s).bank.elapsed = s.bank.elapsed := by simp [stageTimer]
@[simp] theorem stageTimer_wake_pressure (i v : Nat) (s : State) : (stageTimer i v s).wake.pressure = s.wake.pressure := by simp [stageTimer]
@[simp] theorem stageTimer_wake_pstate (i v : Nat) (s : State) : (stageTimer i v s).wake.pstate = s.wake.pstate := by simp [stageTimer]
@[simp] theorem stageTimer_wake_record (i v : Nat) (s : State) : (stageTimer i v s).wake.record = s.wake.record := by simp [stageTimer]
@[simp] theorem stageTimer_hold_records (i v : Nat) (s : State) : (stageTimer i v s).hold.records = s.hold.records := by simp [stageTimer]
@[simp] theorem stageTimer_hold_serial (i v : Nat) (s : State) : (stageTimer i v s).hold.serial = s.hold.serial := by simp [stageTimer]
@[simp] theorem stopTimer_ctl_cfg (i : Nat) (s : State) : (stopTimer i s).ctl.cfg = s.ctl.cfg := by simp [stopTimer]
@[simp] theorem stopTimer_ctl_response (i : Nat) (s : State) : (stopTimer i s).ctl.response = s.ctl.response := by simp [stopTimer]
@[simp] theorem stopTimer_bank_tick (i : Nat) (s : State) : (stopTimer i s).bank.tick = s.bank.tick := by simp [stopTimer]
@[simp] theorem stopTimer_bank_elapsed (i : Nat) (s : State) : (stopTimer i s).bank.elapsed = s.bank.elapsed := by simp [stopTimer]
@[simp] theorem stopTimer_wake_pressure (i : Nat) (s : State) : (stopTimer i s).wake.pressure = s.wake.pressure := by simp [stopTimer]
@[simp] theorem stopTimer_wake_pstate (i : Nat) (s : State) : (stopTimer i s).wake.pstate = s.wake.pstate := by simp [stopTimer]
@[simp] theorem stopTimer_wake_record (i : Nat) (s : State) : (stopTimer i s).wake.record = s.wake.record := by simp [stopTimer]
@[simp] theorem stopTimer_hold_records (i : Nat) (s : State) : (stopTimer i s).hold.records = s.hold.records := by simp [stopTimer]
@[simp] theorem stopTimer_hold_serial (i : Nat) (s : State) : (stopTimer i s).hold.serial = s.hold.serial := by simp [stopTimer]
@[simp] theorem stopAllTimers_ctl_cfg (s : State) : (stopAllTimers s).ctl.cfg = s.ctl.cfg := by simp [stopAllTimers]
@[simp] theorem stopAllTimers_ctl_response (s : State) : (stopAllTimers s).ctl.response = s.ctl.response := by simp [stopAllTimers]
@[simp] theorem stopAllTimers_bank_tick (s : State) : (stopAllTimers s).bank.tick = s.bank.tick := by simp [stopAllTimers]
@[simp] theorem stopAllTimers_bank_elapsed (s : State) : (stopAllTimers s).bank.elapsed = s.bank.elapsed := by simp [stopAllTimers]
@[simp] theorem stopAllTimers_wake_pressure (s : State) : (stopAllTimers s).wake.pressure = s.wake.pressure := by simp [stopAllTimers]
@[simp] theorem stopAllTimers_wake_pstate (s : State) : (stopAllTimers s).wake.pstate = s.wake.pstate := by simp [stopAllTimers]
@[simp] theorem stopAllTimers_wake_record (s : State) : (stopAllTimers s).wake.record = s.wake.record := by simp [stopAllTimers]
@[simp] theorem stopAllTimers_hold_records (s : State) : (stopAllTimers s).hold.records = s.hold.records := by simp [stopAllTimers]
@[simp] theorem stopAllTimers_hold_serial (s : State) : (stopAllTimers s).hold.serial = s.hold.serial := by simp [stopAllTimers]
@[simp] theorem sendRequest_ctl_cfg (r : WakeRequest) (s : State) : (sendRequest r s).ctl.cfg = s.ctl.cfg := by simp [sendRequest]
@[simp] theorem sendRequest_ctl_response (r : WakeRequest) (s : State) : (sendRequest r s).ctl.response = s.ctl.response := by simp [sendRequest]
@[simp] theorem sendRequest_bank_tick (r : WakeRequest) (s : State) : (sendRequest r s).bank.tick = s.bank.tick := by simp [sendRequest]
@[simp] theorem sendRequest_bank_elapsed (r : WakeRequest) (s : State) : (sendRequest r s).bank.elapsed = s.bank.elapsed := by simp [sendRequest]
@[simp] theorem sendRequest_wake_pressure (r : WakeRequest) (s : State) : (sendRequest r s).wake.pressure = s.wake.pressure := by simp [sendRequest]
@[simp] theorem sendRequest_wake_pstate (r : WakeRequest) (s : State) : (sendRequest r s).wake.pstate = s.wake.pstate := by simp [sendRequest]
@[simp] theorem sendRequest_wake_record (r : WakeRequest) (s : State) : (sendRequest r s).wake.record = s.wake.record := by simp [sendRequest]
@[simp] theorem sendRequest_hold_records (r : WakeRequest) (s : State) : (sendRequest r s).hold.records = s.hold.records := by simp [sendRequest]
@[simp] theorem sendRequest_hold_serial (r : WakeRequest) (s : State) : (sendRequest r s).hold.serial = s.hold.serial := by simp [sendRequest]
@[simp] theorem handToHold_ctl_cfg (o : Origin) (f : HeldFrame) (s : State) : (handToHold o f s).ctl.cfg = s.ctl.cfg := by simp [handToHold]
@[simp] theorem handToHold_ctl_response (o : Origin) (f : HeldFrame) (s : State) : (handToHold o f s).ctl.response = s.ctl.response := by simp [handToHold]
@[simp] theorem handToHold_bank_tick (o : Origin) (f : HeldFrame) (s : State) : (handToHold o f s).bank.tick = s.bank.tick := by simp [handToHold]
@[simp] theorem handToHold_bank_elapsed (o : Origin) (f : HeldFrame) (s : State) : (handToHold o f s).bank.elapsed = s.bank.elapsed := by simp [handToHold]
@[simp] theorem handToHold_wake_pressure (o : Origin) (f : HeldFrame) (s : State) : (handToHold o f s).wake.pressure = s.wake.pressure := by simp [handToHold]
@[simp] theorem handToHold_wake_pstate (o : Origin) (f : HeldFrame) (s : State) : (handToHold o f s).wake.pstate = s.wake.pstate := by simp [handToHold]
@[simp] theorem handToHold_wake_record (o : Origin) (f : HeldFrame) (s : State) : (handToHold o f s).wake.record = s.wake.record := by simp [handToHold]
@[simp] theorem handToHold_hold_records (o : Origin) (f : HeldFrame) (s : State) : (handToHold o f s).hold.records = s.hold.records := by simp [handToHold]
@[simp] theorem handToHold_hold_serial (o : Origin) (f : HeldFrame) (s : State) : (handToHold o f s).hold.serial = s.hold.serial := by simp [handToHold]
@[simp] theorem endDrain_ctl_cfg (s : State) : (endDrain s).ctl.cfg = s.ctl.cfg := by
  simp only [endDrain]
  repeat' split
  all_goals simp
@[simp] theorem endDrain_ctl_response (s : State) : (endDrain s).ctl.response = s.ctl.response := by
  simp only [endDrain]
  repeat' split
  all_goals simp
@[simp] theorem endDrain_bank_tick (s : State) : (endDrain s).bank.tick = s.bank.tick := by
  simp only [endDrain]
  repeat' split
  all_goals simp
@[simp] theorem endDrain_bank_elapsed (s : State) : (endDrain s).bank.elapsed = s.bank.elapsed := by
  simp only [endDrain]
  repeat' split
  all_goals simp
@[simp] theorem endDrain_wake_pressure (s : State) : (endDrain s).wake.pressure = s.wake.pressure := by
  simp only [endDrain]
  repeat' split
  all_goals simp
@[simp] theorem endDrain_wake_pstate (s : State) : (endDrain s).wake.pstate = s.wake.pstate := by
  simp only [endDrain]
  repeat' split
  all_goals simp
@[simp] theorem endDrain_wake_record (s : State) : (endDrain s).wake.record = s.wake.record := by
  simp only [endDrain]
  repeat' split
  all_goals simp
@[simp] theorem endDrain_hold_records (s : State) : (endDrain s).hold.records = s.hold.records := by
  simp only [endDrain]
  repeat' split
  all_goals simp
@[simp] theorem endDrain_hold_serial (s : State) : (endDrain s).hold.serial = s.hold.serial := by
  simp only [endDrain]
  repeat' split
  all_goals simp
@[simp] theorem refreshListed_ctl_cfg (s : State) : (refreshListed s).ctl.cfg = s.ctl.cfg := by simp [refreshListed]
@[simp] theorem refreshListed_ctl_response (s : State) : (refreshListed s).ctl.response = s.ctl.response := by simp [refreshListed]
@[simp] theorem refreshListed_bank_tick (s : State) : (refreshListed s).bank.tick = s.bank.tick := by simp [refreshListed]
@[simp] theorem refreshListed_bank_elapsed (s : State) : (refreshListed s).bank.elapsed = s.bank.elapsed := by simp [refreshListed]
@[simp] theorem refreshListed_wake_pressure (s : State) : (refreshListed s).wake.pressure = s.wake.pressure := by simp [refreshListed]
@[simp] theorem refreshListed_wake_pstate (s : State) : (refreshListed s).wake.pstate = s.wake.pstate := by simp [refreshListed]
@[simp] theorem refreshListed_wake_record (s : State) : (refreshListed s).wake.record = s.wake.record := by simp [refreshListed]
@[simp] theorem refreshListed_hold_records (s : State) : (refreshListed s).hold.records = s.hold.records := by simp [refreshListed]
@[simp] theorem refreshListed_hold_serial (s : State) : (refreshListed s).hold.serial = s.hold.serial := by simp [refreshListed]
@[simp] theorem bumpTimes_ctl_cfg (l : Nat) (c : Counter) (s : State) : (bumpTimes l c s).ctl.cfg = s.ctl.cfg := by
  induction l generalizing s <;> simp_all [bumpTimes]
@[simp] theorem bumpTimes_ctl_response (l : Nat) (c : Counter) (s : State) : (bumpTimes l c s).ctl.response = s.ctl.response := by
  induction l generalizing s <;> simp_all [bumpTimes]
@[simp] theorem bumpTimes_bank_tick (l : Nat) (c : Counter) (s : State) : (bumpTimes l c s).bank.tick = s.bank.tick := by
  induction l generalizing s <;> simp_all [bumpTimes]
@[simp] theorem bumpTimes_bank_elapsed (l : Nat) (c : Counter) (s : State) : (bumpTimes l c s).bank.elapsed = s.bank.elapsed := by
  induction l generalizing s <;> simp_all [bumpTimes]
@[simp] theorem bumpTimes_wake_pressure (l : Nat) (c : Counter) (s : State) : (bumpTimes l c s).wake.pressure = s.wake.pressure := by
  induction l generalizing s <;> simp_all [bumpTimes]
@[simp] theorem bumpTimes_wake_pstate (l : Nat) (c : Counter) (s : State) : (bumpTimes l c s).wake.pstate = s.wake.pstate := by
  induction l generalizing s <;> simp_all [bumpTimes]
@[simp] theorem bumpTimes_wake_record (l : Nat) (c : Counter) (s : State) : (bumpTimes l c s).wake.record = s.wake.record := by
  induction l generalizing s <;> simp_all [bumpTimes]
@[simp] theorem bumpTimes_hold_records (l : Nat) (c : Counter) (s : State) : (bumpTimes l c s).hold.records = s.hold.records := by
  induction l generalizing s <;> simp_all [bumpTimes]
@[simp] theorem bumpTimes_hold_serial (l : Nat) (c : Counter) (s : State) : (bumpTimes l c s).hold.serial = s.hold.serial := by
  induction l generalizing s <;> simp_all [bumpTimes]
@[simp] theorem holdAppend_ctl_cfg (o : Origin) (f : HeldFrame) (s : State) : ((holdAppend o f s).1).ctl.cfg = s.ctl.cfg := by
  simp only [holdAppend]
  repeat' split
  all_goals simp
@[simp] theorem holdAppend_ctl_response (o : Origin) (f : HeldFrame) (s : State) : ((holdAppend o f s).1).ctl.response = s.ctl.response := by
  simp only [holdAppend]
  repeat' split
  all_goals simp
@[simp] theorem holdAppend_bank_tick (o : Origin) (f : HeldFrame) (s : State) : ((holdAppend o f s).1).bank.tick = s.bank.tick := by
  simp only [holdAppend]
  repeat' split
  all_goals simp
@[simp] theorem holdAppend_bank_elapsed (o : Origin) (f : HeldFrame) (s : State) : ((holdAppend o f s).1).bank.elapsed = s.bank.elapsed := by
  simp only [holdAppend]
  repeat' split
  all_goals simp
@[simp] theorem holdAppend_wake_pressure (o : Origin) (f : HeldFrame) (s : State) : ((holdAppend o f s).1).wake.pressure = s.wake.pressure := by
  simp only [holdAppend]
  repeat' split
  all_goals simp
@[simp] theorem holdAppend_wake_pstate (o : Origin) (f : HeldFrame) (s : State) : ((holdAppend o f s).1).wake.pstate = s.wake.pstate := by
  simp only [holdAppend]
  repeat' split
  all_goals simp
@[simp] theorem holdAppend_wake_record (o : Origin) (f : HeldFrame) (s : State) : ((holdAppend o f s).1).wake.record = s.wake.record := by
  simp only [holdAppend]
  repeat' split
  all_goals simp
@[simp] theorem fillSlot_ctl_cfg (i : Nat) (d : SlotDest) (k : ReplyKind) (n : Option Nat) (t : Bool) (b : Frame) (s : State) : (fillSlot i d k n t b s).ctl.cfg = s.ctl.cfg := by simp [fillSlot]
@[simp] theorem fillSlot_ctl_response (i : Nat) (d : SlotDest) (k : ReplyKind) (n : Option Nat) (t : Bool) (b : Frame) (s : State) : (fillSlot i d k n t b s).ctl.response = s.ctl.response := by simp [fillSlot]
@[simp] theorem fillSlot_bank_tick (i : Nat) (d : SlotDest) (k : ReplyKind) (n : Option Nat) (t : Bool) (b : Frame) (s : State) : (fillSlot i d k n t b s).bank.tick = s.bank.tick := by simp [fillSlot]
@[simp] theorem fillSlot_bank_elapsed (i : Nat) (d : SlotDest) (k : ReplyKind) (n : Option Nat) (t : Bool) (b : Frame) (s : State) : (fillSlot i d k n t b s).bank.elapsed = s.bank.elapsed := by simp [fillSlot]
@[simp] theorem fillSlot_wake_pressure (i : Nat) (d : SlotDest) (k : ReplyKind) (n : Option Nat) (t : Bool) (b : Frame) (s : State) : (fillSlot i d k n t b s).wake.pressure = s.wake.pressure := by simp [fillSlot]
@[simp] theorem fillSlot_wake_pstate (i : Nat) (d : SlotDest) (k : ReplyKind) (n : Option Nat) (t : Bool) (b : Frame) (s : State) : (fillSlot i d k n t b s).wake.pstate = s.wake.pstate := by simp [fillSlot]
@[simp] theorem fillSlot_wake_record (i : Nat) (d : SlotDest) (k : ReplyKind) (n : Option Nat) (t : Bool) (b : Frame) (s : State) : (fillSlot i d k n t b s).wake.record = s.wake.record := by simp [fillSlot]
@[simp] theorem fillSlot_hold_records (i : Nat) (d : SlotDest) (k : ReplyKind) (n : Option Nat) (t : Bool) (b : Frame) (s : State) : (fillSlot i d k n t b s).hold.records = s.hold.records := by simp [fillSlot]
@[simp] theorem fillSlot_hold_serial (i : Nat) (d : SlotDest) (k : ReplyKind) (n : Option Nat) (t : Bool) (b : Frame) (s : State) : (fillSlot i d k n t b s).hold.serial = s.hold.serial := by simp [fillSlot]
@[simp] theorem skipReply_ctl_cfg (p : Path) (s : State) : (skipReply p s).ctl.cfg = s.ctl.cfg := by simp [skipReply]
@[simp] theorem skipReply_ctl_response (p : Path) (s : State) : (skipReply p s).ctl.response = s.ctl.response := by simp [skipReply]
@[simp] theorem buildProbe_ctl_cfg (slot i : Nat) (s : State) : (buildProbe slot i s).ctl.cfg = s.ctl.cfg := by simp [buildProbe]
@[simp] theorem buildProbe_ctl_response (slot i : Nat) (s : State) : (buildProbe slot i s).ctl.response = s.ctl.response := by simp [buildProbe]
@[simp] theorem buildProbe_bank_tick (slot i : Nat) (s : State) : (buildProbe slot i s).bank.tick = s.bank.tick := by simp [buildProbe]
@[simp] theorem buildProbe_bank_elapsed (slot i : Nat) (s : State) : (buildProbe slot i s).bank.elapsed = s.bank.elapsed := by simp [buildProbe]
@[simp] theorem buildProbe_wake_pressure (slot i : Nat) (s : State) : (buildProbe slot i s).wake.pressure = s.wake.pressure := by simp [buildProbe]
@[simp] theorem buildProbe_wake_pstate (slot i : Nat) (s : State) : (buildProbe slot i s).wake.pstate = s.wake.pstate := by simp [buildProbe]
@[simp] theorem buildProbe_wake_record (slot i : Nat) (s : State) : (buildProbe slot i s).wake.record = s.wake.record := by simp [buildProbe]
@[simp] theorem buildProbe_hold_records (slot i : Nat) (s : State) : (buildProbe slot i s).hold.records = s.hold.records := by simp [buildProbe]
@[simp] theorem buildProbe_hold_serial (slot i : Nat) (s : State) : (buildProbe slot i s).hold.serial = s.hold.serial := by simp [buildProbe]
@[simp] theorem freeAndHandOn_ctl_cfg (i : Nat) (s : State) : (freeAndHandOn i s).ctl.cfg = s.ctl.cfg := by
  simp only [freeAndHandOn, State.setReply_probes]
  split
  all_goals simp
@[simp] theorem freeAndHandOn_ctl_response (i : Nat) (s : State) : (freeAndHandOn i s).ctl.response = s.ctl.response := by
  simp only [freeAndHandOn, State.setReply_probes]
  split
  all_goals simp
@[simp] theorem freeAndHandOn_bank_tick (i : Nat) (s : State) : (freeAndHandOn i s).bank.tick = s.bank.tick := by
  simp only [freeAndHandOn, State.setReply_probes]
  split
  all_goals simp
@[simp] theorem freeAndHandOn_bank_elapsed (i : Nat) (s : State) : (freeAndHandOn i s).bank.elapsed = s.bank.elapsed := by
  simp only [freeAndHandOn, State.setReply_probes]
  split
  all_goals simp
@[simp] theorem freeAndHandOn_wake_pressure (i : Nat) (s : State) : (freeAndHandOn i s).wake.pressure = s.wake.pressure := by
  simp only [freeAndHandOn, State.setReply_probes]
  split
  all_goals simp
@[simp] theorem freeAndHandOn_wake_pstate (i : Nat) (s : State) : (freeAndHandOn i s).wake.pstate = s.wake.pstate := by
  simp only [freeAndHandOn, State.setReply_probes]
  split
  all_goals simp
@[simp] theorem freeAndHandOn_wake_record (i : Nat) (s : State) : (freeAndHandOn i s).wake.record = s.wake.record := by
  simp only [freeAndHandOn, State.setReply_probes]
  split
  all_goals simp
@[simp] theorem freeAndHandOn_hold_records (i : Nat) (s : State) : (freeAndHandOn i s).hold.records = s.hold.records := by
  simp only [freeAndHandOn, State.setReply_probes]
  split
  all_goals simp
@[simp] theorem freeAndHandOn_hold_serial (i : Nat) (s : State) : (freeAndHandOn i s).hold.serial = s.hold.serial := by
  simp only [freeAndHandOn, State.setReply_probes]
  split
  all_goals simp
@[simp] theorem freeAllAndHandOn_ctl_cfg (l : List Nat) (s : State) : (freeAllAndHandOn l s).ctl.cfg = s.ctl.cfg := by
  induction l generalizing s <;> simp_all [freeAllAndHandOn]
@[simp] theorem freeAllAndHandOn_ctl_response (l : List Nat) (s : State) : (freeAllAndHandOn l s).ctl.response = s.ctl.response := by
  induction l generalizing s <;> simp_all [freeAllAndHandOn]
@[simp] theorem freeAllAndHandOn_bank_tick (l : List Nat) (s : State) : (freeAllAndHandOn l s).bank.tick = s.bank.tick := by
  induction l generalizing s <;> simp_all [freeAllAndHandOn]
@[simp] theorem freeAllAndHandOn_bank_elapsed (l : List Nat) (s : State) : (freeAllAndHandOn l s).bank.elapsed = s.bank.elapsed := by
  induction l generalizing s <;> simp_all [freeAllAndHandOn]
@[simp] theorem freeAllAndHandOn_wake_pressure (l : List Nat) (s : State) : (freeAllAndHandOn l s).wake.pressure = s.wake.pressure := by
  induction l generalizing s <;> simp_all [freeAllAndHandOn]
@[simp] theorem freeAllAndHandOn_wake_pstate (l : List Nat) (s : State) : (freeAllAndHandOn l s).wake.pstate = s.wake.pstate := by
  induction l generalizing s <;> simp_all [freeAllAndHandOn]
@[simp] theorem freeAllAndHandOn_wake_record (l : List Nat) (s : State) : (freeAllAndHandOn l s).wake.record = s.wake.record := by
  induction l generalizing s <;> simp_all [freeAllAndHandOn]
@[simp] theorem freeAllAndHandOn_hold_records (l : List Nat) (s : State) : (freeAllAndHandOn l s).hold.records = s.hold.records := by
  induction l generalizing s <;> simp_all [freeAllAndHandOn]
@[simp] theorem freeAllAndHandOn_hold_serial (l : List Nat) (s : State) : (freeAllAndHandOn l s).hold.serial = s.hold.serial := by
  induction l generalizing s <;> simp_all [freeAllAndHandOn]
@[simp] theorem countDiscarded_ctl_cfg (l : List Nat) (s : State) : (countDiscarded l s).ctl.cfg = s.ctl.cfg := by
  induction l generalizing s <;> simp_all [countDiscarded]
@[simp] theorem countDiscarded_ctl_response (l : List Nat) (s : State) : (countDiscarded l s).ctl.response = s.ctl.response := by
  induction l generalizing s <;> simp_all [countDiscarded]
@[simp] theorem countDiscarded_bank_tick (l : List Nat) (s : State) : (countDiscarded l s).bank.tick = s.bank.tick := by
  induction l generalizing s <;> simp_all [countDiscarded]
@[simp] theorem countDiscarded_bank_elapsed (l : List Nat) (s : State) : (countDiscarded l s).bank.elapsed = s.bank.elapsed := by
  induction l generalizing s <;> simp_all [countDiscarded]
@[simp] theorem countDiscarded_wake_pressure (l : List Nat) (s : State) : (countDiscarded l s).wake.pressure = s.wake.pressure := by
  induction l generalizing s <;> simp_all [countDiscarded]
@[simp] theorem countDiscarded_wake_pstate (l : List Nat) (s : State) : (countDiscarded l s).wake.pstate = s.wake.pstate := by
  induction l generalizing s <;> simp_all [countDiscarded]
@[simp] theorem countDiscarded_wake_record (l : List Nat) (s : State) : (countDiscarded l s).wake.record = s.wake.record := by
  induction l generalizing s <;> simp_all [countDiscarded]
@[simp] theorem countDiscarded_hold_records (l : List Nat) (s : State) : (countDiscarded l s).hold.records = s.hold.records := by
  induction l generalizing s <;> simp_all [countDiscarded]
@[simp] theorem countDiscarded_hold_serial (l : List Nat) (s : State) : (countDiscarded l s).hold.serial = s.hold.serial := by
  induction l generalizing s <;> simp_all [countDiscarded]
@[simp] theorem discardLineReplies_ctl_cfg (s : State) : (discardLineReplies s).ctl.cfg = s.ctl.cfg := by simp [discardLineReplies]
@[simp] theorem discardLineReplies_ctl_response (s : State) : (discardLineReplies s).ctl.response = s.ctl.response := by simp [discardLineReplies]
@[simp] theorem discardLineReplies_bank_tick (s : State) : (discardLineReplies s).bank.tick = s.bank.tick := by simp [discardLineReplies]
@[simp] theorem discardLineReplies_bank_elapsed (s : State) : (discardLineReplies s).bank.elapsed = s.bank.elapsed := by simp [discardLineReplies]
@[simp] theorem discardLineReplies_wake_pressure (s : State) : (discardLineReplies s).wake.pressure = s.wake.pressure := by simp [discardLineReplies]
@[simp] theorem discardLineReplies_wake_pstate (s : State) : (discardLineReplies s).wake.pstate = s.wake.pstate := by simp [discardLineReplies]
@[simp] theorem discardLineReplies_wake_record (s : State) : (discardLineReplies s).wake.record = s.wake.record := by simp [discardLineReplies]
@[simp] theorem discardLineReplies_hold_records (s : State) : (discardLineReplies s).hold.records = s.hold.records := by simp [discardLineReplies]
@[simp] theorem discardLineReplies_hold_serial (s : State) : (discardLineReplies s).hold.serial = s.hold.serial := by simp [discardLineReplies]
@[simp] theorem probeDue_ctl_cfg (i : Nat) (s : State) : (probeDue i s).ctl.cfg = s.ctl.cfg := by
  unfold probeDue
  repeat' split
  all_goals simp_all
@[simp] theorem probeDue_ctl_response (i : Nat) (s : State) : (probeDue i s).ctl.response = s.ctl.response := by
  unfold probeDue
  repeat' split
  all_goals simp_all
@[simp] theorem probeDue_bank_tick (i : Nat) (s : State) : (probeDue i s).bank.tick = s.bank.tick := by
  unfold probeDue
  repeat' split
  all_goals simp_all
@[simp] theorem probeDue_bank_elapsed (i : Nat) (s : State) : (probeDue i s).bank.elapsed = s.bank.elapsed := by
  unfold probeDue
  repeat' split
  all_goals simp_all
@[simp] theorem probeDue_wake_pressure (i : Nat) (s : State) : (probeDue i s).wake.pressure = s.wake.pressure := by
  unfold probeDue
  repeat' split
  all_goals simp_all
@[simp] theorem probeDue_wake_pstate (i : Nat) (s : State) : (probeDue i s).wake.pstate = s.wake.pstate := by
  unfold probeDue
  repeat' split
  all_goals simp_all
@[simp] theorem probeDue_wake_record (i : Nat) (s : State) : (probeDue i s).wake.record = s.wake.record := by
  unfold probeDue
  repeat' split
  all_goals simp_all
@[simp] theorem probeDue_hold_records (i : Nat) (s : State) : (probeDue i s).hold.records = s.hold.records := by
  unfold probeDue
  repeat' split
  all_goals simp_all
@[simp] theorem probeDue_hold_serial (i : Nat) (s : State) : (probeDue i s).hold.serial = s.hold.serial := by
  unfold probeDue
  repeat' split
  all_goals simp_all
@[simp] theorem leaveRunning_ctl_cfg (i : Nat) (newState : SessionState) (s : State) : (leaveRunning i newState s).ctl.cfg = s.ctl.cfg := by simp [leaveRunning]
@[simp] theorem leaveRunning_ctl_response (i : Nat) (newState : SessionState) (s : State) : (leaveRunning i newState s).ctl.response = s.ctl.response := by simp [leaveRunning]
@[simp] theorem leaveRunning_bank_tick (i : Nat) (newState : SessionState) (s : State) : (leaveRunning i newState s).bank.tick = s.bank.tick := by simp [leaveRunning]
@[simp] theorem leaveRunning_bank_elapsed (i : Nat) (newState : SessionState) (s : State) : (leaveRunning i newState s).bank.elapsed = s.bank.elapsed := by simp [leaveRunning]
@[simp] theorem leaveRunning_wake_pressure (i : Nat) (newState : SessionState) (s : State) : (leaveRunning i newState s).wake.pressure = s.wake.pressure := by simp [leaveRunning]
@[simp] theorem leaveRunning_wake_pstate (i : Nat) (newState : SessionState) (s : State) : (leaveRunning i newState s).wake.pstate = s.wake.pstate := by simp [leaveRunning]
@[simp] theorem leaveRunning_wake_record (i : Nat) (newState : SessionState) (s : State) : (leaveRunning i newState s).wake.record = s.wake.record := by simp [leaveRunning]
@[simp] theorem leaveRunning_hold_records (i : Nat) (newState : SessionState) (s : State) : (leaveRunning i newState s).hold.records = s.hold.records := by simp [leaveRunning]
@[simp] theorem leaveRunning_hold_serial (i : Nat) (newState : SessionState) (s : State) : (leaveRunning i newState s).hold.serial = s.hold.serial := by simp [leaveRunning]
@[simp] theorem leaveRunningAll_ctl_cfg (l : List Nat) (newState : SessionState) (s : State) : (leaveRunningAll newState l s).ctl.cfg = s.ctl.cfg := by
  induction l generalizing s <;> simp_all [leaveRunningAll]
@[simp] theorem leaveRunningAll_ctl_response (l : List Nat) (newState : SessionState) (s : State) : (leaveRunningAll newState l s).ctl.response = s.ctl.response := by
  induction l generalizing s <;> simp_all [leaveRunningAll]
@[simp] theorem leaveRunningAll_bank_tick (l : List Nat) (newState : SessionState) (s : State) : (leaveRunningAll newState l s).bank.tick = s.bank.tick := by
  induction l generalizing s <;> simp_all [leaveRunningAll]
@[simp] theorem leaveRunningAll_bank_elapsed (l : List Nat) (newState : SessionState) (s : State) : (leaveRunningAll newState l s).bank.elapsed = s.bank.elapsed := by
  induction l generalizing s <;> simp_all [leaveRunningAll]
@[simp] theorem leaveRunningAll_wake_pressure (l : List Nat) (newState : SessionState) (s : State) : (leaveRunningAll newState l s).wake.pressure = s.wake.pressure := by
  induction l generalizing s <;> simp_all [leaveRunningAll]
@[simp] theorem leaveRunningAll_wake_pstate (l : List Nat) (newState : SessionState) (s : State) : (leaveRunningAll newState l s).wake.pstate = s.wake.pstate := by
  induction l generalizing s <;> simp_all [leaveRunningAll]
@[simp] theorem leaveRunningAll_wake_record (l : List Nat) (newState : SessionState) (s : State) : (leaveRunningAll newState l s).wake.record = s.wake.record := by
  induction l generalizing s <;> simp_all [leaveRunningAll]
@[simp] theorem leaveRunningAll_hold_records (l : List Nat) (newState : SessionState) (s : State) : (leaveRunningAll newState l s).hold.records = s.hold.records := by
  induction l generalizing s <;> simp_all [leaveRunningAll]
@[simp] theorem leaveRunningAll_hold_serial (l : List Nat) (newState : SessionState) (s : State) : (leaveRunningAll newState l s).hold.serial = s.hold.serial := by
  induction l generalizing s <;> simp_all [leaveRunningAll]
@[simp] theorem detachIdentity_ctl_cfg (id : Nat) (s : State) : (detachIdentity id s).ctl.cfg = s.ctl.cfg := by simp [detachIdentity]
@[simp] theorem detachIdentity_ctl_response (id : Nat) (s : State) : (detachIdentity id s).ctl.response = s.ctl.response := by simp [detachIdentity]
@[simp] theorem detachIdentity_bank_tick (id : Nat) (s : State) : (detachIdentity id s).bank.tick = s.bank.tick := by simp [detachIdentity]
@[simp] theorem detachIdentity_bank_elapsed (id : Nat) (s : State) : (detachIdentity id s).bank.elapsed = s.bank.elapsed := by simp [detachIdentity]
@[simp] theorem detachIdentity_wake_pressure (id : Nat) (s : State) : (detachIdentity id s).wake.pressure = s.wake.pressure := by simp [detachIdentity]
@[simp] theorem detachIdentity_wake_pstate (id : Nat) (s : State) : (detachIdentity id s).wake.pstate = s.wake.pstate := by simp [detachIdentity]
@[simp] theorem detachIdentity_wake_record (id : Nat) (s : State) : (detachIdentity id s).wake.record = s.wake.record := by simp [detachIdentity]
@[simp] theorem detachIdentity_hold_records (id : Nat) (s : State) : (detachIdentity id s).hold.records = s.hold.records := by simp [detachIdentity]
@[simp] theorem detachIdentity_hold_serial (id : Nat) (s : State) : (detachIdentity id s).hold.serial = s.hold.serial := by simp [detachIdentity]
@[simp] theorem inspectOutbound_ctl_cfg (b : Frame) (s : State) : (inspectOutbound b s).ctl.cfg = s.ctl.cfg := by
  simp only [inspectOutbound]
  repeat' split
  all_goals simp
@[simp] theorem inspectOutbound_ctl_response (b : Frame) (s : State) : (inspectOutbound b s).ctl.response = s.ctl.response := by
  simp only [inspectOutbound]
  repeat' split
  all_goals simp
@[simp] theorem inspectOutbound_bank_tick (b : Frame) (s : State) : (inspectOutbound b s).bank.tick = s.bank.tick := by
  simp only [inspectOutbound]
  repeat' split
  all_goals simp
@[simp] theorem inspectOutbound_bank_elapsed (b : Frame) (s : State) : (inspectOutbound b s).bank.elapsed = s.bank.elapsed := by
  simp only [inspectOutbound]
  repeat' split
  all_goals simp
@[simp] theorem inspectOutbound_wake_pressure (b : Frame) (s : State) : (inspectOutbound b s).wake.pressure = s.wake.pressure := by
  simp only [inspectOutbound]
  repeat' split
  all_goals simp
@[simp] theorem inspectOutbound_wake_pstate (b : Frame) (s : State) : (inspectOutbound b s).wake.pstate = s.wake.pstate := by
  simp only [inspectOutbound]
  repeat' split
  all_goals simp
@[simp] theorem inspectOutbound_wake_record (b : Frame) (s : State) : (inspectOutbound b s).wake.record = s.wake.record := by
  simp only [inspectOutbound]
  repeat' split
  all_goals simp
@[simp] theorem inspectOutbound_hold_records (b : Frame) (s : State) : (inspectOutbound b s).hold.records = s.hold.records := by
  simp only [inspectOutbound]
  repeat' split
  all_goals simp
@[simp] theorem inspectOutbound_hold_serial (b : Frame) (s : State) : (inspectOutbound b s).hold.serial = s.hold.serial := by
  simp only [inspectOutbound]
  repeat' split
  all_goals simp
@[simp] theorem expiryAlive_ctl_cfg (i : Nat) (b : Bool) (s : State) : (expiryAlive i b s).ctl.cfg = s.ctl.cfg := by
  simp only [expiryAlive]
  repeat' split
  all_goals simp
@[simp] theorem expiryAlive_ctl_response (i : Nat) (b : Bool) (s : State) : (expiryAlive i b s).ctl.response = s.ctl.response := by
  simp only [expiryAlive]
  repeat' split
  all_goals simp
@[simp] theorem expiryAlive_bank_tick (i : Nat) (b : Bool) (s : State) : (expiryAlive i b s).bank.tick = s.bank.tick := by
  simp only [expiryAlive]
  repeat' split
  all_goals simp
@[simp] theorem expiryAlive_bank_elapsed (i : Nat) (b : Bool) (s : State) : (expiryAlive i b s).bank.elapsed = s.bank.elapsed := by
  simp only [expiryAlive]
  repeat' split
  all_goals simp
@[simp] theorem expiryAlive_wake_pressure (i : Nat) (b : Bool) (s : State) : (expiryAlive i b s).wake.pressure = s.wake.pressure := by
  simp only [expiryAlive]
  repeat' split
  all_goals simp
@[simp] theorem expiryAlive_wake_pstate (i : Nat) (b : Bool) (s : State) : (expiryAlive i b s).wake.pstate = s.wake.pstate := by
  simp only [expiryAlive]
  repeat' split
  all_goals simp
@[simp] theorem expiryAlive_wake_record (i : Nat) (b : Bool) (s : State) : (expiryAlive i b s).wake.record = s.wake.record := by
  simp only [expiryAlive]
  repeat' split
  all_goals simp
@[simp] theorem expiryAlive_hold_records (i : Nat) (b : Bool) (s : State) : (expiryAlive i b s).hold.records = s.hold.records := by
  simp only [expiryAlive]
  repeat' split
  all_goals simp
@[simp] theorem expiryAlive_hold_serial (i : Nat) (b : Bool) (s : State) : (expiryAlive i b s).hold.serial = s.hold.serial := by
  simp only [expiryAlive]
  repeat' split
  all_goals simp
@[simp] theorem expiryProbing_ctl_cfg (i : Nat) (s : State) : (expiryProbing i s).ctl.cfg = s.ctl.cfg := by
  simp only [expiryProbing]
  repeat' split
  all_goals simp
@[simp] theorem expiryProbing_ctl_response (i : Nat) (s : State) : (expiryProbing i s).ctl.response = s.ctl.response := by
  simp only [expiryProbing]
  repeat' split
  all_goals simp
@[simp] theorem expiryProbing_bank_tick (i : Nat) (s : State) : (expiryProbing i s).bank.tick = s.bank.tick := by
  simp only [expiryProbing]
  repeat' split
  all_goals simp
@[simp] theorem expiryProbing_bank_elapsed (i : Nat) (s : State) : (expiryProbing i s).bank.elapsed = s.bank.elapsed := by
  simp only [expiryProbing]
  repeat' split
  all_goals simp
@[simp] theorem expiryProbing_wake_pressure (i : Nat) (s : State) : (expiryProbing i s).wake.pressure = s.wake.pressure := by
  simp only [expiryProbing]
  repeat' split
  all_goals simp
@[simp] theorem expiryProbing_wake_pstate (i : Nat) (s : State) : (expiryProbing i s).wake.pstate = s.wake.pstate := by
  simp only [expiryProbing]
  repeat' split
  all_goals simp
@[simp] theorem expiryProbing_wake_record (i : Nat) (s : State) : (expiryProbing i s).wake.record = s.wake.record := by
  simp only [expiryProbing]
  repeat' split
  all_goals simp
@[simp] theorem expiryProbing_hold_records (i : Nat) (s : State) : (expiryProbing i s).hold.records = s.hold.records := by
  simp only [expiryProbing]
  repeat' split
  all_goals simp
@[simp] theorem expiryProbing_hold_serial (i : Nat) (s : State) : (expiryProbing i s).hold.serial = s.hold.serial := by
  simp only [expiryProbing]
  repeat' split
  all_goals simp
@[simp] theorem windowEndInGap_ctl_cfg (s : State) : (windowEndInGap s).ctl.cfg = s.ctl.cfg := by
  simp only [windowEndInGap]
  repeat' split
  all_goals simp
@[simp] theorem windowEndInGap_ctl_response (s : State) : (windowEndInGap s).ctl.response = s.ctl.response := by
  simp only [windowEndInGap]
  repeat' split
  all_goals simp
@[simp] theorem windowEndInGap_bank_tick (s : State) : (windowEndInGap s).bank.tick = s.bank.tick := by
  simp only [windowEndInGap]
  repeat' split
  all_goals simp
@[simp] theorem windowEndInGap_bank_elapsed (s : State) : (windowEndInGap s).bank.elapsed = s.bank.elapsed := by
  simp only [windowEndInGap]
  repeat' split
  all_goals simp
@[simp] theorem windowEndInGap_wake_pressure (s : State) : (windowEndInGap s).wake.pressure = s.wake.pressure := by
  simp only [windowEndInGap]
  repeat' split
  all_goals simp
@[simp] theorem windowEndInGap_wake_pstate (s : State) : (windowEndInGap s).wake.pstate = s.wake.pstate := by
  simp only [windowEndInGap]
  repeat' split
  all_goals simp
@[simp] theorem windowEndInGap_wake_record (s : State) : (windowEndInGap s).wake.record = s.wake.record := by
  simp only [windowEndInGap]
  repeat' split
  all_goals simp
@[simp] theorem windowEndInGap_hold_records (s : State) : (windowEndInGap s).hold.records = s.hold.records := by
  simp only [windowEndInGap]
  repeat' split
  all_goals simp
@[simp] theorem windowEndInGap_hold_serial (s : State) : (windowEndInGap s).hold.serial = s.hold.serial := by
  simp only [windowEndInGap]
  repeat' split
  all_goals simp
@[simp] theorem pulseEnd_ctl_cfg (s : State) : (pulseEnd s).ctl.cfg = s.ctl.cfg := by
  simp only [pulseEnd]
  repeat' split
  all_goals simp
@[simp] theorem pulseEnd_ctl_response (s : State) : (pulseEnd s).ctl.response = s.ctl.response := by
  simp only [pulseEnd]
  repeat' split
  all_goals simp
@[simp] theorem pulseEnd_bank_tick (s : State) : (pulseEnd s).bank.tick = s.bank.tick := by
  simp only [pulseEnd]
  repeat' split
  all_goals simp
@[simp] theorem pulseEnd_bank_elapsed (s : State) : (pulseEnd s).bank.elapsed = s.bank.elapsed := by
  simp only [pulseEnd]
  repeat' split
  all_goals simp
@[simp] theorem pulseEnd_wake_pressure (s : State) : (pulseEnd s).wake.pressure = s.wake.pressure := by
  simp only [pulseEnd]
  repeat' split
  all_goals simp
@[simp] theorem pulseEnd_wake_pstate (s : State) : (pulseEnd s).wake.pstate = s.wake.pstate := by
  simp only [pulseEnd]
  repeat' split
  all_goals simp
@[simp] theorem pulseEnd_wake_record (s : State) : (pulseEnd s).wake.record = s.wake.record := by
  simp only [pulseEnd]
  repeat' split
  all_goals simp
@[simp] theorem pulseEnd_hold_records (s : State) : (pulseEnd s).hold.records = s.hold.records := by
  simp only [pulseEnd]
  repeat' split
  all_goals simp
@[simp] theorem pulseEnd_hold_serial (s : State) : (pulseEnd s).hold.serial = s.hold.serial := by
  simp only [pulseEnd]
  repeat' split
  all_goals simp
@[simp] theorem resumeWindowEnd_ctl_cfg (s : State) : (resumeWindowEnd s).ctl.cfg = s.ctl.cfg := by
  simp only [resumeWindowEnd]
  repeat' split
  all_goals simp
@[simp] theorem resumeWindowEnd_ctl_response (s : State) : (resumeWindowEnd s).ctl.response = s.ctl.response := by
  simp only [resumeWindowEnd]
  repeat' split
  all_goals simp
@[simp] theorem resumeWindowEnd_bank_tick (s : State) : (resumeWindowEnd s).bank.tick = s.bank.tick := by
  simp only [resumeWindowEnd]
  repeat' split
  all_goals simp
@[simp] theorem resumeWindowEnd_bank_elapsed (s : State) : (resumeWindowEnd s).bank.elapsed = s.bank.elapsed := by
  simp only [resumeWindowEnd]
  repeat' split
  all_goals simp
@[simp] theorem resumeWindowEnd_wake_pressure (s : State) : (resumeWindowEnd s).wake.pressure = s.wake.pressure := by
  simp only [resumeWindowEnd]
  repeat' split
  all_goals simp
@[simp] theorem resumeWindowEnd_wake_pstate (s : State) : (resumeWindowEnd s).wake.pstate = s.wake.pstate := by
  simp only [resumeWindowEnd]
  repeat' split
  all_goals simp
@[simp] theorem resumeWindowEnd_wake_record (s : State) : (resumeWindowEnd s).wake.record = s.wake.record := by
  simp only [resumeWindowEnd]
  repeat' split
  all_goals simp
@[simp] theorem resumeWindowEnd_hold_records (s : State) : (resumeWindowEnd s).hold.records = s.hold.records := by
  simp only [resumeWindowEnd]
  repeat' split
  all_goals simp
@[simp] theorem resumeWindowEnd_hold_serial (s : State) : (resumeWindowEnd s).hold.serial = s.hold.serial := by
  simp only [resumeWindowEnd]
  repeat' split
  all_goals simp
@[simp] theorem assertWake_ctl_cfg (cls : Nat) (k : WakeCause) (n : Nat) (f : Option HeldFrame) (s : State) : (assertWake cls k n f s).ctl.cfg = s.ctl.cfg := by
  unfold assertWake
  repeat' split
  all_goals simp_all
@[simp] theorem assertWake_ctl_response (cls : Nat) (k : WakeCause) (n : Nat) (f : Option HeldFrame) (s : State) : (assertWake cls k n f s).ctl.response = s.ctl.response := by
  unfold assertWake
  repeat' split
  all_goals simp_all
@[simp] theorem assertWake_bank_tick (cls : Nat) (k : WakeCause) (n : Nat) (f : Option HeldFrame) (s : State) : (assertWake cls k n f s).bank.tick = s.bank.tick := by
  unfold assertWake
  repeat' split
  all_goals simp_all
@[simp] theorem assertWake_bank_elapsed (cls : Nat) (k : WakeCause) (n : Nat) (f : Option HeldFrame) (s : State) : (assertWake cls k n f s).bank.elapsed = s.bank.elapsed := by
  unfold assertWake
  repeat' split
  all_goals simp_all
@[simp] theorem holdRequestFrame_ctl_cfg (o : Origin) (r : WakeRequest) (s : State) : (holdRequestFrame o r s).ctl.cfg = s.ctl.cfg := by
  unfold holdRequestFrame
  repeat' split
  all_goals simp_all
@[simp] theorem holdRequestFrame_ctl_response (o : Origin) (r : WakeRequest) (s : State) : (holdRequestFrame o r s).ctl.response = s.ctl.response := by
  unfold holdRequestFrame
  repeat' split
  all_goals simp_all
@[simp] theorem holdRequestFrame_bank_tick (o : Origin) (r : WakeRequest) (s : State) : (holdRequestFrame o r s).bank.tick = s.bank.tick := by
  unfold holdRequestFrame
  repeat' split
  all_goals simp_all
@[simp] theorem holdRequestFrame_bank_elapsed (o : Origin) (r : WakeRequest) (s : State) : (holdRequestFrame o r s).bank.elapsed = s.bank.elapsed := by
  unfold holdRequestFrame
  repeat' split
  all_goals simp_all
@[simp] theorem holdRequestFrame_wake_pressure (o : Origin) (r : WakeRequest) (s : State) : (holdRequestFrame o r s).wake.pressure = s.wake.pressure := by
  unfold holdRequestFrame
  repeat' split
  all_goals simp_all
@[simp] theorem holdRequestFrame_wake_pstate (o : Origin) (r : WakeRequest) (s : State) : (holdRequestFrame o r s).wake.pstate = s.wake.pstate := by
  unfold holdRequestFrame
  repeat' split
  all_goals simp_all
@[simp] theorem holdRequestFrame_wake_record (o : Origin) (r : WakeRequest) (s : State) : (holdRequestFrame o r s).wake.record = s.wake.record := by
  unfold holdRequestFrame
  repeat' split
  all_goals simp_all
@[simp] theorem suppressRequest_ctl_cfg (r : WakeRequest) (s : State) : (suppressRequest r s).ctl.cfg = s.ctl.cfg := by
  simp only [suppressRequest]
  repeat' split
  all_goals simp
@[simp] theorem suppressRequest_ctl_response (r : WakeRequest) (s : State) : (suppressRequest r s).ctl.response = s.ctl.response := by
  simp only [suppressRequest]
  repeat' split
  all_goals simp
@[simp] theorem suppressRequest_bank_tick (r : WakeRequest) (s : State) : (suppressRequest r s).bank.tick = s.bank.tick := by
  simp only [suppressRequest]
  repeat' split
  all_goals simp
@[simp] theorem suppressRequest_bank_elapsed (r : WakeRequest) (s : State) : (suppressRequest r s).bank.elapsed = s.bank.elapsed := by
  simp only [suppressRequest]
  repeat' split
  all_goals simp
@[simp] theorem suppressRequest_wake_pressure (r : WakeRequest) (s : State) : (suppressRequest r s).wake.pressure = s.wake.pressure := by
  simp only [suppressRequest]
  repeat' split
  all_goals simp
@[simp] theorem suppressRequest_wake_pstate (r : WakeRequest) (s : State) : (suppressRequest r s).wake.pstate = s.wake.pstate := by
  simp only [suppressRequest]
  repeat' split
  all_goals simp
@[simp] theorem suppressRequest_wake_record (r : WakeRequest) (s : State) : (suppressRequest r s).wake.record = s.wake.record := by
  simp only [suppressRequest]
  repeat' split
  all_goals simp
@[simp] theorem laterCause_ctl_cfg (r : WakeRequest) (s : State) : (laterCause r s).ctl.cfg = s.ctl.cfg := by
  simp only [laterCause]
  repeat' split
  all_goals simp
@[simp] theorem laterCause_ctl_response (r : WakeRequest) (s : State) : (laterCause r s).ctl.response = s.ctl.response := by
  simp only [laterCause]
  repeat' split
  all_goals simp
@[simp] theorem laterCause_bank_tick (r : WakeRequest) (s : State) : (laterCause r s).bank.tick = s.bank.tick := by
  simp only [laterCause]
  repeat' split
  all_goals simp
@[simp] theorem laterCause_bank_elapsed (r : WakeRequest) (s : State) : (laterCause r s).bank.elapsed = s.bank.elapsed := by
  simp only [laterCause]
  repeat' split
  all_goals simp
@[simp] theorem laterCause_wake_pressure (r : WakeRequest) (s : State) : (laterCause r s).wake.pressure = s.wake.pressure := by
  simp only [laterCause]
  repeat' split
  all_goals simp
@[simp] theorem laterCause_wake_pstate (r : WakeRequest) (s : State) : (laterCause r s).wake.pstate = s.wake.pstate := by
  simp only [laterCause]
  repeat' split
  all_goals simp
@[simp] theorem judgeRequest_ctl_cfg (r : WakeRequest) (s : State) : (judgeRequest r s).ctl.cfg = s.ctl.cfg := by
  unfold judgeRequest
  repeat' split
  all_goals simp_all
@[simp] theorem judgeRequest_ctl_response (r : WakeRequest) (s : State) : (judgeRequest r s).ctl.response = s.ctl.response := by
  unfold judgeRequest
  repeat' split
  all_goals simp_all
@[simp] theorem judgeRequest_bank_tick (r : WakeRequest) (s : State) : (judgeRequest r s).bank.tick = s.bank.tick := by
  unfold judgeRequest
  repeat' split
  all_goals simp_all
@[simp] theorem judgeRequest_bank_elapsed (r : WakeRequest) (s : State) : (judgeRequest r s).bank.elapsed = s.bank.elapsed := by
  unfold judgeRequest
  repeat' split
  all_goals simp_all
@[simp] theorem deferredWake_ctl_cfg (b : Nat) (s : State) : (deferredWake b s).ctl.cfg = s.ctl.cfg := by
  simp only [deferredWake]
  repeat' split
  all_goals simp
@[simp] theorem deferredWake_ctl_response (b : Nat) (s : State) : (deferredWake b s).ctl.response = s.ctl.response := by
  simp only [deferredWake]
  repeat' split
  all_goals simp
@[simp] theorem deferredWake_bank_tick (b : Nat) (s : State) : (deferredWake b s).bank.tick = s.bank.tick := by
  simp only [deferredWake]
  repeat' split
  all_goals simp
@[simp] theorem deferredWake_bank_elapsed (b : Nat) (s : State) : (deferredWake b s).bank.elapsed = s.bank.elapsed := by
  simp only [deferredWake]
  repeat' split
  all_goals simp
@[simp] theorem endQuietInterval_ctl_cfg (s : State) : (endQuietInterval s).ctl.cfg = s.ctl.cfg := by simp [endQuietInterval]
@[simp] theorem endQuietInterval_ctl_response (s : State) : (endQuietInterval s).ctl.response = s.ctl.response := by simp [endQuietInterval]
@[simp] theorem endQuietInterval_bank_tick (s : State) : (endQuietInterval s).bank.tick = s.bank.tick := by simp [endQuietInterval]
@[simp] theorem endQuietInterval_bank_elapsed (s : State) : (endQuietInterval s).bank.elapsed = s.bank.elapsed := by simp [endQuietInterval]
@[simp] theorem takeHeldTick_ctl_cfg (s : State) : (takeHeldTick s).ctl.cfg = s.ctl.cfg := by
  simp only [takeHeldTick]
  repeat' split
  all_goals simp
@[simp] theorem takeHeldTick_ctl_response (s : State) : (takeHeldTick s).ctl.response = s.ctl.response := by
  simp only [takeHeldTick]
  repeat' split
  all_goals simp
@[simp] theorem takeHeldTick_bank_tick (s : State) : (takeHeldTick s).bank.tick = s.bank.tick := by
  simp only [takeHeldTick]
  repeat' split
  all_goals simp
@[simp] theorem takeHeldTick_bank_elapsed (s : State) : (takeHeldTick s).bank.elapsed = s.bank.elapsed := by
  simp only [takeHeldTick]
  repeat' split
  all_goals simp
@[simp] theorem settleTick_ctl_cfg (s : State) : (settleTick s).ctl.cfg = s.ctl.cfg := by simp [settleTick]
@[simp] theorem settleTick_ctl_response (s : State) : (settleTick s).ctl.response = s.ctl.response := by simp [settleTick]
@[simp] theorem settleTick_bank_tick (s : State) : (settleTick s).bank.tick = s.bank.tick := by simp [settleTick]
@[simp] theorem settleTick_bank_elapsed (s : State) : (settleTick s).bank.elapsed = s.bank.elapsed := by simp [settleTick]
@[simp] theorem countTick_ctl_cfg (s : State) : (countTick s).ctl.cfg = s.ctl.cfg := by simp [countTick]
@[simp] theorem countTick_ctl_response (s : State) : (countTick s).ctl.response = s.ctl.response := by simp [countTick]
@[simp] theorem countTick_hold_records (s : State) : (countTick s).hold.records = s.hold.records := by simp [countTick]
@[simp] theorem countTick_hold_serial (s : State) : (countTick s).hold.serial = s.hold.serial := by simp [countTick]
@[simp] theorem alarmExpires_ctl_cfg (n : Nat) (s : State) : (alarmExpires n s).ctl.cfg = s.ctl.cfg := by
  simp only [alarmExpires]
  repeat' split
  all_goals simp
@[simp] theorem alarmExpires_ctl_response (n : Nat) (s : State) : (alarmExpires n s).ctl.response = s.ctl.response := by
  simp only [alarmExpires]
  repeat' split
  all_goals simp
@[simp] theorem alarmExpires_bank_tick (n : Nat) (s : State) : (alarmExpires n s).bank.tick = s.bank.tick := by
  simp only [alarmExpires]
  repeat' split
  all_goals simp
@[simp] theorem alarmExpires_bank_elapsed (n : Nat) (s : State) : (alarmExpires n s).bank.elapsed = s.bank.elapsed := by
  simp only [alarmExpires]
  repeat' split
  all_goals simp
@[simp] theorem alarmExpires_wake_pressure (n : Nat) (s : State) : (alarmExpires n s).wake.pressure = s.wake.pressure := by
  simp only [alarmExpires]
  repeat' split
  all_goals simp
@[simp] theorem alarmExpires_wake_pstate (n : Nat) (s : State) : (alarmExpires n s).wake.pstate = s.wake.pstate := by
  simp only [alarmExpires]
  repeat' split
  all_goals simp
@[simp] theorem alarmExpires_wake_record (n : Nat) (s : State) : (alarmExpires n s).wake.record = s.wake.record := by
  simp only [alarmExpires]
  repeat' split
  all_goals simp
@[simp] theorem alarmExpires_hold_records (n : Nat) (s : State) : (alarmExpires n s).hold.records = s.hold.records := by
  simp only [alarmExpires]
  repeat' split
  all_goals simp
@[simp] theorem alarmExpires_hold_serial (n : Nat) (s : State) : (alarmExpires n s).hold.serial = s.hold.serial := by
  simp only [alarmExpires]
  repeat' split
  all_goals simp
@[simp] theorem liveness_ctl_cfg (i : Nat) (v : Option (BitVec 32)) (s : State) : (liveness i v s).ctl.cfg = s.ctl.cfg := by simp [liveness]
@[simp] theorem liveness_ctl_response (i : Nat) (v : Option (BitVec 32)) (s : State) : (liveness i v s).ctl.response = s.ctl.response := by simp [liveness]
@[simp] theorem liveness_bank_tick (i : Nat) (v : Option (BitVec 32)) (s : State) : (liveness i v s).bank.tick = s.bank.tick := by simp [liveness]
@[simp] theorem liveness_bank_elapsed (i : Nat) (v : Option (BitVec 32)) (s : State) : (liveness i v s).bank.elapsed = s.bank.elapsed := by simp [liveness]
@[simp] theorem liveness_wake_pressure (i : Nat) (v : Option (BitVec 32)) (s : State) : (liveness i v s).wake.pressure = s.wake.pressure := by simp [liveness]
@[simp] theorem liveness_wake_pstate (i : Nat) (v : Option (BitVec 32)) (s : State) : (liveness i v s).wake.pstate = s.wake.pstate := by simp [liveness]
@[simp] theorem liveness_wake_record (i : Nat) (v : Option (BitVec 32)) (s : State) : (liveness i v s).wake.record = s.wake.record := by simp [liveness]
@[simp] theorem liveness_hold_records (i : Nat) (v : Option (BitVec 32)) (s : State) : (liveness i v s).hold.records = s.hold.records := by simp [liveness]
@[simp] theorem liveness_hold_serial (i : Nat) (v : Option (BitVec 32)) (s : State) : (liveness i v s).hold.serial = s.hold.serial := by simp [liveness]
@[simp] theorem takeHead_ctl_cfg (s : State) : (takeHead s).ctl.cfg = s.ctl.cfg := by simp [takeHead]
@[simp] theorem takeHead_ctl_response (s : State) : (takeHead s).ctl.response = s.ctl.response := by simp [takeHead]
@[simp] theorem takeHead_bank_tick (s : State) : (takeHead s).bank.tick = s.bank.tick := by simp [takeHead]
@[simp] theorem takeHead_bank_elapsed (s : State) : (takeHead s).bank.elapsed = s.bank.elapsed := by simp [takeHead]
@[simp] theorem takeHead_wake_pressure (s : State) : (takeHead s).wake.pressure = s.wake.pressure := by simp [takeHead]
@[simp] theorem takeHead_wake_pstate (s : State) : (takeHead s).wake.pstate = s.wake.pstate := by simp [takeHead]
@[simp] theorem takeHead_wake_record (s : State) : (takeHead s).wake.record = s.wake.record := by simp [takeHead]
@[simp] theorem takeHead_hold_records (s : State) : (takeHead s).hold.records = s.hold.records := by simp [takeHead]
@[simp] theorem takeHead_hold_serial (s : State) : (takeHead s).hold.serial = s.hold.serial := by simp [takeHead]
@[simp] theorem grantReply_ctl_cfg (i : Nat) (s : State) : (grantReply i s).ctl.cfg = s.ctl.cfg := by simp [grantReply]
@[simp] theorem grantReply_ctl_response (i : Nat) (s : State) : (grantReply i s).ctl.response = s.ctl.response := by simp [grantReply]
@[simp] theorem grantReply_bank_tick (i : Nat) (s : State) : (grantReply i s).bank.tick = s.bank.tick := by simp [grantReply]
@[simp] theorem grantReply_bank_elapsed (i : Nat) (s : State) : (grantReply i s).bank.elapsed = s.bank.elapsed := by simp [grantReply]
@[simp] theorem grantReply_wake_pressure (i : Nat) (s : State) : (grantReply i s).wake.pressure = s.wake.pressure := by simp [grantReply]
@[simp] theorem grantReply_wake_pstate (i : Nat) (s : State) : (grantReply i s).wake.pstate = s.wake.pstate := by simp [grantReply]
@[simp] theorem grantReply_wake_record (i : Nat) (s : State) : (grantReply i s).wake.record = s.wake.record := by simp [grantReply]
@[simp] theorem grantReply_hold_records (i : Nat) (s : State) : (grantReply i s).hold.records = s.hold.records := by simp [grantReply]
@[simp] theorem grantReply_hold_serial (i : Nat) (s : State) : (grantReply i s).hold.serial = s.hold.serial := by simp [grantReply]
@[simp] theorem grantSystem_ctl_cfg (f : Frame) (s : State) : (grantSystem f s).ctl.cfg = s.ctl.cfg := by simp [grantSystem]
@[simp] theorem grantSystem_ctl_response (f : Frame) (s : State) : (grantSystem f s).ctl.response = s.ctl.response := by simp [grantSystem]
@[simp] theorem grantSystem_bank_tick (f : Frame) (s : State) : (grantSystem f s).bank.tick = s.bank.tick := by simp [grantSystem]
@[simp] theorem grantSystem_bank_elapsed (f : Frame) (s : State) : (grantSystem f s).bank.elapsed = s.bank.elapsed := by simp [grantSystem]
@[simp] theorem grantSystem_wake_pressure (f : Frame) (s : State) : (grantSystem f s).wake.pressure = s.wake.pressure := by simp [grantSystem]
@[simp] theorem grantSystem_wake_pstate (f : Frame) (s : State) : (grantSystem f s).wake.pstate = s.wake.pstate := by simp [grantSystem]
@[simp] theorem grantSystem_wake_record (f : Frame) (s : State) : (grantSystem f s).wake.record = s.wake.record := by simp [grantSystem]
@[simp] theorem grantSystem_hold_records (f : Frame) (s : State) : (grantSystem f s).hold.records = s.hold.records := by simp [grantSystem]
@[simp] theorem grantSystem_hold_serial (f : Frame) (s : State) : (grantSystem f s).hold.serial = s.hold.serial := by simp [grantSystem]
@[simp] theorem grantLine_ctl_cfg (s : State) : (grantLine s).ctl.cfg = s.ctl.cfg := by
  unfold grantLine
  repeat' split
  all_goals simp_all
@[simp] theorem grantLine_ctl_response (s : State) : (grantLine s).ctl.response = s.ctl.response := by
  unfold grantLine
  repeat' split
  all_goals simp_all
@[simp] theorem grantLine_bank_tick (s : State) : (grantLine s).bank.tick = s.bank.tick := by
  unfold grantLine
  repeat' split
  all_goals simp_all
@[simp] theorem grantLine_bank_elapsed (s : State) : (grantLine s).bank.elapsed = s.bank.elapsed := by
  unfold grantLine
  repeat' split
  all_goals simp_all
@[simp] theorem grantLine_wake_pressure (s : State) : (grantLine s).wake.pressure = s.wake.pressure := by
  unfold grantLine
  repeat' split
  all_goals simp_all
@[simp] theorem grantLine_wake_pstate (s : State) : (grantLine s).wake.pstate = s.wake.pstate := by
  unfold grantLine
  repeat' split
  all_goals simp_all
@[simp] theorem grantLine_wake_record (s : State) : (grantLine s).wake.record = s.wake.record := by
  unfold grantLine
  repeat' split
  all_goals simp_all
@[simp] theorem grantLine_hold_records (s : State) : (grantLine s).hold.records = s.hold.records := by
  unfold grantLine
  repeat' split
  all_goals simp_all
@[simp] theorem grantLine_hold_serial (s : State) : (grantLine s).hold.serial = s.hold.serial := by
  unfold grantLine
  repeat' split
  all_goals simp_all
@[simp] theorem offerGuardPath_ctl_cfg (p : Path) (b : Frame) (s : State) : (offerGuardPath p b s).ctl.cfg = s.ctl.cfg := by
  simp only [offerGuardPath]
  repeat' split
  all_goals simp
@[simp] theorem offerGuardPath_ctl_response (p : Path) (b : Frame) (s : State) : (offerGuardPath p b s).ctl.response = s.ctl.response := by
  simp only [offerGuardPath]
  repeat' split
  all_goals simp
@[simp] theorem offerGuardPath_bank_tick (p : Path) (b : Frame) (s : State) : (offerGuardPath p b s).bank.tick = s.bank.tick := by
  simp only [offerGuardPath]
  repeat' split
  all_goals simp
@[simp] theorem offerGuardPath_bank_elapsed (p : Path) (b : Frame) (s : State) : (offerGuardPath p b s).bank.elapsed = s.bank.elapsed := by
  simp only [offerGuardPath]
  repeat' split
  all_goals simp
@[simp] theorem offerGuardPath_wake_pressure (p : Path) (b : Frame) (s : State) : (offerGuardPath p b s).wake.pressure = s.wake.pressure := by
  simp only [offerGuardPath]
  repeat' split
  all_goals simp
@[simp] theorem offerGuardPath_wake_pstate (p : Path) (b : Frame) (s : State) : (offerGuardPath p b s).wake.pstate = s.wake.pstate := by
  simp only [offerGuardPath]
  repeat' split
  all_goals simp
@[simp] theorem offerGuardPath_wake_record (p : Path) (b : Frame) (s : State) : (offerGuardPath p b s).wake.record = s.wake.record := by
  simp only [offerGuardPath]
  repeat' split
  all_goals simp
@[simp] theorem offerGuardPath_hold_records (p : Path) (b : Frame) (s : State) : (offerGuardPath p b s).hold.records = s.hold.records := by
  simp only [offerGuardPath]
  repeat' split
  all_goals simp
@[simp] theorem offerGuardPath_hold_serial (p : Path) (b : Frame) (s : State) : (offerGuardPath p b s).hold.serial = s.hold.serial := by
  simp only [offerGuardPath]
  repeat' split
  all_goals simp
@[simp] theorem offerForward_ctl_cfg (b : Frame) (s : State) : (offerForward b s).ctl.cfg = s.ctl.cfg := by
  simp only [offerForward]
  repeat' split
  all_goals simp
@[simp] theorem offerForward_ctl_response (b : Frame) (s : State) : (offerForward b s).ctl.response = s.ctl.response := by
  simp only [offerForward]
  repeat' split
  all_goals simp
@[simp] theorem offerForward_bank_tick (b : Frame) (s : State) : (offerForward b s).bank.tick = s.bank.tick := by
  simp only [offerForward]
  repeat' split
  all_goals simp
@[simp] theorem offerForward_bank_elapsed (b : Frame) (s : State) : (offerForward b s).bank.elapsed = s.bank.elapsed := by
  simp only [offerForward]
  repeat' split
  all_goals simp
@[simp] theorem offerForward_wake_pressure (b : Frame) (s : State) : (offerForward b s).wake.pressure = s.wake.pressure := by
  simp only [offerForward]
  repeat' split
  all_goals simp
@[simp] theorem offerForward_wake_pstate (b : Frame) (s : State) : (offerForward b s).wake.pstate = s.wake.pstate := by
  simp only [offerForward]
  repeat' split
  all_goals simp
@[simp] theorem offerForward_wake_record (b : Frame) (s : State) : (offerForward b s).wake.record = s.wake.record := by
  simp only [offerForward]
  repeat' split
  all_goals simp
@[simp] theorem offerForward_hold_records (b : Frame) (s : State) : (offerForward b s).hold.records = s.hold.records := by
  simp only [offerForward]
  repeat' split
  all_goals simp
@[simp] theorem offerForward_hold_serial (b : Frame) (s : State) : (offerForward b s).hold.serial = s.hold.serial := by
  simp only [offerForward]
  repeat' split
  all_goals simp
@[simp] theorem offerCopy_ctl_cfg (b : Frame) (s : State) : (offerCopy b s).ctl.cfg = s.ctl.cfg := by
  simp only [offerCopy]
  repeat' split
  all_goals simp
@[simp] theorem offerCopy_ctl_response (b : Frame) (s : State) : (offerCopy b s).ctl.response = s.ctl.response := by
  simp only [offerCopy]
  repeat' split
  all_goals simp
@[simp] theorem offerCopy_bank_tick (b : Frame) (s : State) : (offerCopy b s).bank.tick = s.bank.tick := by
  simp only [offerCopy]
  repeat' split
  all_goals simp
@[simp] theorem offerCopy_bank_elapsed (b : Frame) (s : State) : (offerCopy b s).bank.elapsed = s.bank.elapsed := by
  simp only [offerCopy]
  repeat' split
  all_goals simp
@[simp] theorem offerCopy_wake_pressure (b : Frame) (s : State) : (offerCopy b s).wake.pressure = s.wake.pressure := by
  simp only [offerCopy]
  repeat' split
  all_goals simp
@[simp] theorem offerCopy_wake_pstate (b : Frame) (s : State) : (offerCopy b s).wake.pstate = s.wake.pstate := by
  simp only [offerCopy]
  repeat' split
  all_goals simp
@[simp] theorem offerCopy_wake_record (b : Frame) (s : State) : (offerCopy b s).wake.record = s.wake.record := by
  simp only [offerCopy]
  repeat' split
  all_goals simp
@[simp] theorem offerCopy_hold_records (b : Frame) (s : State) : (offerCopy b s).hold.records = s.hold.records := by
  simp only [offerCopy]
  repeat' split
  all_goals simp
@[simp] theorem offerCopy_hold_serial (b : Frame) (s : State) : (offerCopy b s).hold.serial = s.hold.serial := by
  simp only [offerCopy]
  repeat' split
  all_goals simp
@[simp] theorem releaseDrained_ctl_cfg (s : State) : (releaseDrained s).ctl.cfg = s.ctl.cfg := by simp [releaseDrained]
@[simp] theorem releaseDrained_ctl_response (s : State) : (releaseDrained s).ctl.response = s.ctl.response := by simp [releaseDrained]
@[simp] theorem releaseDrained_bank_tick (s : State) : (releaseDrained s).bank.tick = s.bank.tick := by simp [releaseDrained]
@[simp] theorem releaseDrained_bank_elapsed (s : State) : (releaseDrained s).bank.elapsed = s.bank.elapsed := by simp [releaseDrained]
@[simp] theorem releaseDrained_wake_pressure (s : State) : (releaseDrained s).wake.pressure = s.wake.pressure := by simp [releaseDrained]
@[simp] theorem releaseDrained_wake_pstate (s : State) : (releaseDrained s).wake.pstate = s.wake.pstate := by simp [releaseDrained]
@[simp] theorem releaseDrained_wake_record (s : State) : (releaseDrained s).wake.record = s.wake.record := by simp [releaseDrained]
@[simp] theorem releaseDrained_hold_records (s : State) : (releaseDrained s).hold.records = s.hold.records := by simp [releaseDrained]
@[simp] theorem releaseDrained_hold_serial (s : State) : (releaseDrained s).hold.serial = s.hold.serial := by simp [releaseDrained]
@[simp] theorem offerDrained_ctl_cfg (b : Frame) (s : State) : (offerDrained b s).ctl.cfg = s.ctl.cfg := by
  simp only [offerDrained]
  repeat' split
  all_goals simp
@[simp] theorem offerDrained_ctl_response (b : Frame) (s : State) : (offerDrained b s).ctl.response = s.ctl.response := by
  simp only [offerDrained]
  repeat' split
  all_goals simp
@[simp] theorem offerDrained_bank_tick (b : Frame) (s : State) : (offerDrained b s).bank.tick = s.bank.tick := by
  simp only [offerDrained]
  repeat' split
  all_goals simp
@[simp] theorem offerDrained_bank_elapsed (b : Frame) (s : State) : (offerDrained b s).bank.elapsed = s.bank.elapsed := by
  simp only [offerDrained]
  repeat' split
  all_goals simp
@[simp] theorem offerDrained_wake_pressure (b : Frame) (s : State) : (offerDrained b s).wake.pressure = s.wake.pressure := by
  simp only [offerDrained]
  repeat' split
  all_goals simp
@[simp] theorem offerDrained_wake_pstate (b : Frame) (s : State) : (offerDrained b s).wake.pstate = s.wake.pstate := by
  simp only [offerDrained]
  repeat' split
  all_goals simp
@[simp] theorem offerDrained_wake_record (b : Frame) (s : State) : (offerDrained b s).wake.record = s.wake.record := by
  simp only [offerDrained]
  repeat' split
  all_goals simp
@[simp] theorem offerDrained_hold_records (b : Frame) (s : State) : (offerDrained b s).hold.records = s.hold.records := by
  simp only [offerDrained]
  repeat' split
  all_goals simp
@[simp] theorem offerDrained_hold_serial (b : Frame) (s : State) : (offerDrained b s).hold.serial = s.hold.serial := by
  simp only [offerDrained]
  repeat' split
  all_goals simp
@[simp] theorem handOn_ctl_cfg (b : Frame) (s : State) : (handOn b s).ctl.cfg = s.ctl.cfg := by
  unfold handOn
  repeat' split
  all_goals simp_all
@[simp] theorem handOn_ctl_response (b : Frame) (s : State) : (handOn b s).ctl.response = s.ctl.response := by
  unfold handOn
  repeat' split
  all_goals simp_all
@[simp] theorem handOn_bank_tick (b : Frame) (s : State) : (handOn b s).bank.tick = s.bank.tick := by
  unfold handOn
  repeat' split
  all_goals simp_all
@[simp] theorem handOn_bank_elapsed (b : Frame) (s : State) : (handOn b s).bank.elapsed = s.bank.elapsed := by
  unfold handOn
  repeat' split
  all_goals simp_all
@[simp] theorem handOn_wake_pressure (b : Frame) (s : State) : (handOn b s).wake.pressure = s.wake.pressure := by
  unfold handOn
  repeat' split
  all_goals simp_all
@[simp] theorem handOn_wake_pstate (b : Frame) (s : State) : (handOn b s).wake.pstate = s.wake.pstate := by
  unfold handOn
  repeat' split
  all_goals simp_all
@[simp] theorem handOn_wake_record (b : Frame) (s : State) : (handOn b s).wake.record = s.wake.record := by
  unfold handOn
  repeat' split
  all_goals simp_all
@[simp] theorem handOn_hold_records (b : Frame) (s : State) : (handOn b s).hold.records = s.hold.records := by
  unfold handOn
  repeat' split
  all_goals simp_all
@[simp] theorem handOn_hold_serial (b : Frame) (s : State) : (handOn b s).hold.serial = s.hold.serial := by
  unfold handOn
  repeat' split
  all_goals simp_all
@[simp] theorem cutTransmission_ctl_cfg (s : State) : (cutTransmission s).ctl.cfg = s.ctl.cfg := by
  unfold cutTransmission
  repeat' split
  all_goals simp_all
@[simp] theorem cutTransmission_ctl_response (s : State) : (cutTransmission s).ctl.response = s.ctl.response := by
  unfold cutTransmission
  repeat' split
  all_goals simp_all
@[simp] theorem cutTransmission_bank_tick (s : State) : (cutTransmission s).bank.tick = s.bank.tick := by
  unfold cutTransmission
  repeat' split
  all_goals simp_all
@[simp] theorem cutTransmission_bank_elapsed (s : State) : (cutTransmission s).bank.elapsed = s.bank.elapsed := by
  unfold cutTransmission
  repeat' split
  all_goals simp_all
@[simp] theorem cutTransmission_wake_pressure (s : State) : (cutTransmission s).wake.pressure = s.wake.pressure := by
  unfold cutTransmission
  repeat' split
  all_goals simp_all
@[simp] theorem cutTransmission_wake_pstate (s : State) : (cutTransmission s).wake.pstate = s.wake.pstate := by
  unfold cutTransmission
  repeat' split
  all_goals simp_all
@[simp] theorem cutTransmission_wake_record (s : State) : (cutTransmission s).wake.record = s.wake.record := by
  unfold cutTransmission
  repeat' split
  all_goals simp_all
@[simp] theorem cutTransmission_hold_records (s : State) : (cutTransmission s).hold.records = s.hold.records := by
  unfold cutTransmission
  repeat' split
  all_goals simp_all
@[simp] theorem cutTransmission_hold_serial (s : State) : (cutTransmission s).hold.serial = s.hold.serial := by
  unfold cutTransmission
  repeat' split
  all_goals simp_all
@[simp] theorem linkLostRequest_ctl_cfg (s : State) : (linkLostRequest s).ctl.cfg = s.ctl.cfg := by
  simp only [linkLostRequest]
  repeat' split
  all_goals simp
@[simp] theorem linkLostRequest_ctl_response (s : State) : (linkLostRequest s).ctl.response = s.ctl.response := by
  simp only [linkLostRequest]
  repeat' split
  all_goals simp
@[simp] theorem linkLostRequest_bank_tick (s : State) : (linkLostRequest s).bank.tick = s.bank.tick := by
  simp only [linkLostRequest]
  repeat' split
  all_goals simp
@[simp] theorem linkLostRequest_bank_elapsed (s : State) : (linkLostRequest s).bank.elapsed = s.bank.elapsed := by
  simp only [linkLostRequest]
  repeat' split
  all_goals simp
@[simp] theorem linkLostRequest_wake_pressure (s : State) : (linkLostRequest s).wake.pressure = s.wake.pressure := by
  simp only [linkLostRequest]
  repeat' split
  all_goals simp
@[simp] theorem linkLostRequest_wake_pstate (s : State) : (linkLostRequest s).wake.pstate = s.wake.pstate := by
  simp only [linkLostRequest]
  repeat' split
  all_goals simp
@[simp] theorem linkLostRequest_wake_record (s : State) : (linkLostRequest s).wake.record = s.wake.record := by
  simp only [linkLostRequest]
  repeat' split
  all_goals simp
@[simp] theorem linkLostRequest_hold_records (s : State) : (linkLostRequest s).hold.records = s.hold.records := by
  simp only [linkLostRequest]
  repeat' split
  all_goals simp
@[simp] theorem linkLostRequest_hold_serial (s : State) : (linkLostRequest s).hold.serial = s.hold.serial := by
  simp only [linkLostRequest]
  repeat' split
  all_goals simp
@[simp] theorem linkLost_ctl_cfg (s : State) : (linkLost s).ctl.cfg = s.ctl.cfg := by simp [linkLost]
@[simp] theorem linkLost_ctl_response (s : State) : (linkLost s).ctl.response = s.ctl.response := by simp [linkLost]
@[simp] theorem linkLost_bank_tick (s : State) : (linkLost s).bank.tick = s.bank.tick := by simp [linkLost]
@[simp] theorem linkLost_bank_elapsed (s : State) : (linkLost s).bank.elapsed = s.bank.elapsed := by simp [linkLost]
@[simp] theorem linkLost_wake_pressure (s : State) : (linkLost s).wake.pressure = s.wake.pressure := by simp [linkLost]
@[simp] theorem linkLost_wake_pstate (s : State) : (linkLost s).wake.pstate = s.wake.pstate := by simp [linkLost]
@[simp] theorem linkLost_wake_record (s : State) : (linkLost s).wake.record = s.wake.record := by simp [linkLost]
@[simp] theorem linkLost_hold_records (s : State) : (linkLost s).hold.records = s.hold.records := by simp [linkLost]
@[simp] theorem linkLost_hold_serial (s : State) : (linkLost s).hold.serial = s.hold.serial := by simp [linkLost]
@[simp] theorem sendItem_ctl_cfg (e : EgressStream) (x : EgressTx) (s : State) : (sendItem e x s).ctl.cfg = s.ctl.cfg := by simp [sendItem]
@[simp] theorem sendItem_ctl_response (e : EgressStream) (x : EgressTx) (s : State) : (sendItem e x s).ctl.response = s.ctl.response := by simp [sendItem]
@[simp] theorem sendItem_bank_tick (e : EgressStream) (x : EgressTx) (s : State) : (sendItem e x s).bank.tick = s.bank.tick := by simp [sendItem]
@[simp] theorem sendItem_bank_elapsed (e : EgressStream) (x : EgressTx) (s : State) : (sendItem e x s).bank.elapsed = s.bank.elapsed := by simp [sendItem]
@[simp] theorem sendItem_wake_pressure (e : EgressStream) (x : EgressTx) (s : State) : (sendItem e x s).wake.pressure = s.wake.pressure := by simp [sendItem]
@[simp] theorem sendItem_wake_pstate (e : EgressStream) (x : EgressTx) (s : State) : (sendItem e x s).wake.pstate = s.wake.pstate := by simp [sendItem]
@[simp] theorem sendItem_wake_record (e : EgressStream) (x : EgressTx) (s : State) : (sendItem e x s).wake.record = s.wake.record := by simp [sendItem]
@[simp] theorem sendItem_hold_records (e : EgressStream) (x : EgressTx) (s : State) : (sendItem e x s).hold.records = s.hold.records := by simp [sendItem]
@[simp] theorem sendItem_hold_serial (e : EgressStream) (x : EgressTx) (s : State) : (sendItem e x s).hold.serial = s.hold.serial := by simp [sendItem]
@[simp] theorem grantEgress_ctl_cfg (s : State) : (grantEgress s).ctl.cfg = s.ctl.cfg := by
  unfold grantEgress
  repeat' split
  all_goals simp_all
@[simp] theorem grantEgress_ctl_response (s : State) : (grantEgress s).ctl.response = s.ctl.response := by
  unfold grantEgress
  repeat' split
  all_goals simp_all
@[simp] theorem grantEgress_bank_tick (s : State) : (grantEgress s).bank.tick = s.bank.tick := by
  unfold grantEgress
  repeat' split
  all_goals simp_all
@[simp] theorem grantEgress_bank_elapsed (s : State) : (grantEgress s).bank.elapsed = s.bank.elapsed := by
  unfold grantEgress
  repeat' split
  all_goals simp_all
@[simp] theorem grantEgress_wake_pressure (s : State) : (grantEgress s).wake.pressure = s.wake.pressure := by
  unfold grantEgress
  repeat' split
  all_goals simp_all
@[simp] theorem grantEgress_wake_pstate (s : State) : (grantEgress s).wake.pstate = s.wake.pstate := by
  unfold grantEgress
  repeat' split
  all_goals simp_all
@[simp] theorem grantEgress_wake_record (s : State) : (grantEgress s).wake.record = s.wake.record := by
  unfold grantEgress
  repeat' split
  all_goals simp_all
@[simp] theorem grantEgress_hold_records (s : State) : (grantEgress s).hold.records = s.hold.records := by
  unfold grantEgress
  repeat' split
  all_goals simp_all
@[simp] theorem grantEgress_hold_serial (s : State) : (grantEgress s).hold.serial = s.hold.serial := by
  unfold grantEgress
  repeat' split
  all_goals simp_all
@[simp] theorem completeItem_ctl_cfg (x : EgressItem) (s : State) : (completeItem x s).ctl.cfg = s.ctl.cfg := by
  unfold completeItem
  repeat' split
  all_goals simp_all
@[simp] theorem completeItem_bank_tick (x : EgressItem) (s : State) : (completeItem x s).bank.tick = s.bank.tick := by
  unfold completeItem
  repeat' split
  all_goals simp_all
@[simp] theorem completeItem_bank_elapsed (x : EgressItem) (s : State) : (completeItem x s).bank.elapsed = s.bank.elapsed := by
  unfold completeItem
  repeat' split
  all_goals simp_all
@[simp] theorem completeItem_wake_pressure (x : EgressItem) (s : State) : (completeItem x s).wake.pressure = s.wake.pressure := by
  unfold completeItem
  repeat' split
  all_goals simp_all
@[simp] theorem completeItem_wake_pstate (x : EgressItem) (s : State) : (completeItem x s).wake.pstate = s.wake.pstate := by
  unfold completeItem
  repeat' split
  all_goals simp_all
@[simp] theorem completeItem_wake_record (x : EgressItem) (s : State) : (completeItem x s).wake.record = s.wake.record := by
  unfold completeItem
  repeat' split
  all_goals simp_all
@[simp] theorem countParse_ctl_cfg (p : Path) (q : PStatus) (s : State) : (countParse p q s).ctl.cfg = s.ctl.cfg := by
  unfold countParse
  repeat' split
  all_goals simp_all
@[simp] theorem countParse_ctl_response (p : Path) (q : PStatus) (s : State) : (countParse p q s).ctl.response = s.ctl.response := by
  unfold countParse
  repeat' split
  all_goals simp_all
@[simp] theorem countParse_bank_tick (p : Path) (q : PStatus) (s : State) : (countParse p q s).bank.tick = s.bank.tick := by
  unfold countParse
  repeat' split
  all_goals simp_all
@[simp] theorem countParse_bank_elapsed (p : Path) (q : PStatus) (s : State) : (countParse p q s).bank.elapsed = s.bank.elapsed := by
  unfold countParse
  repeat' split
  all_goals simp_all
@[simp] theorem countParse_wake_pressure (p : Path) (q : PStatus) (s : State) : (countParse p q s).wake.pressure = s.wake.pressure := by
  unfold countParse
  repeat' split
  all_goals simp_all
@[simp] theorem countParse_wake_pstate (p : Path) (q : PStatus) (s : State) : (countParse p q s).wake.pstate = s.wake.pstate := by
  unfold countParse
  repeat' split
  all_goals simp_all
@[simp] theorem countParse_wake_record (p : Path) (q : PStatus) (s : State) : (countParse p q s).wake.record = s.wake.record := by
  unfold countParse
  repeat' split
  all_goals simp_all
@[simp] theorem countParse_hold_records (p : Path) (q : PStatus) (s : State) : (countParse p q s).hold.records = s.hold.records := by
  unfold countParse
  repeat' split
  all_goals simp_all
@[simp] theorem countParse_hold_serial (p : Path) (q : PStatus) (s : State) : (countParse p q s).hold.serial = s.hold.serial := by
  unfold countParse
  repeat' split
  all_goals simp_all
@[simp] theorem countConflict_ctl_cfg (i : Nat) (s : State) : (countConflict i s).ctl.cfg = s.ctl.cfg := by simp [countConflict]
@[simp] theorem countConflict_ctl_response (i : Nat) (s : State) : (countConflict i s).ctl.response = s.ctl.response := by simp [countConflict]
@[simp] theorem countConflict_bank_tick (i : Nat) (s : State) : (countConflict i s).bank.tick = s.bank.tick := by simp [countConflict]
@[simp] theorem countConflict_bank_elapsed (i : Nat) (s : State) : (countConflict i s).bank.elapsed = s.bank.elapsed := by simp [countConflict]
@[simp] theorem countConflict_wake_pressure (i : Nat) (s : State) : (countConflict i s).wake.pressure = s.wake.pressure := by simp [countConflict]
@[simp] theorem countConflict_wake_pstate (i : Nat) (s : State) : (countConflict i s).wake.pstate = s.wake.pstate := by simp [countConflict]
@[simp] theorem countConflict_wake_record (i : Nat) (s : State) : (countConflict i s).wake.record = s.wake.record := by simp [countConflict]
@[simp] theorem countConflict_hold_records (i : Nat) (s : State) : (countConflict i s).hold.records = s.hold.records := by simp [countConflict]
@[simp] theorem countConflict_hold_serial (i : Nat) (s : State) : (countConflict i s).hold.serial = s.hold.serial := by simp [countConflict]
@[simp] theorem defend_ctl_cfg (f : ConflictForm) (i : Identity) (p : ParsedFrame) (s : State) : (defend f i p s).ctl.cfg = s.ctl.cfg := by
  simp only [defend]
  repeat' split
  all_goals (try (rename_i h _; obtain ⟨_, -, rfl⟩ := buildReply_some h))
  all_goals (try (rename_i h; obtain ⟨_, -, rfl⟩ := buildReply_some h))
  all_goals simp
@[simp] theorem defend_ctl_response (f : ConflictForm) (i : Identity) (p : ParsedFrame) (s : State) : (defend f i p s).ctl.response = s.ctl.response := by
  simp only [defend]
  repeat' split
  all_goals (try (rename_i h _; obtain ⟨_, -, rfl⟩ := buildReply_some h))
  all_goals (try (rename_i h; obtain ⟨_, -, rfl⟩ := buildReply_some h))
  all_goals simp
@[simp] theorem answer_ctl_cfg (p : ParsedFrame) (c : Counter) (t : Bool) (fr : BitVec 16 → Frame) (s : State) : (answer p c t fr s).ctl.cfg = s.ctl.cfg := by
  simp only [answer]
  repeat' split
  all_goals (try (rename_i h _; obtain ⟨_, -, rfl⟩ := buildReply_some h))
  all_goals (try (rename_i h; obtain ⟨_, -, rfl⟩ := buildReply_some h))
  all_goals simp
@[simp] theorem answer_ctl_response (p : ParsedFrame) (c : Counter) (t : Bool) (fr : BitVec 16 → Frame) (s : State) : (answer p c t fr s).ctl.response = s.ctl.response := by
  simp only [answer]
  repeat' split
  all_goals (try (rename_i h _; obtain ⟨_, -, rfl⟩ := buildReply_some h))
  all_goals (try (rename_i h; obtain ⟨_, -, rfl⟩ := buildReply_some h))
  all_goals simp
@[simp] theorem answerName_ctl_cfg (p : ParsedFrame) (e : Nat) (t : Bool) (fr : BitVec 16 → Frame) (s : State) : (answerName p e t fr s).ctl.cfg = s.ctl.cfg := by
  simp only [answerName]
  repeat' split
  all_goals (try (rename_i h _; obtain ⟨_, -, rfl⟩ := buildReply_some h))
  all_goals (try (rename_i h; obtain ⟨_, -, rfl⟩ := buildReply_some h))
  all_goals simp
@[simp] theorem answerName_ctl_response (p : ParsedFrame) (e : Nat) (t : Bool) (fr : BitVec 16 → Frame) (s : State) : (answerName p e t fr s).ctl.response = s.ctl.response := by
  simp only [answerName]
  repeat' split
  all_goals (try (rename_i h _; obtain ⟨_, -, rfl⟩ := buildReply_some h))
  all_goals (try (rename_i h; obtain ⟨_, -, rfl⟩ := buildReply_some h))
  all_goals simp
@[simp] theorem ackReply_ctl_cfg (i : Nat) (p : ParsedFrame) (s : State) : (ackReply i p s).ctl.cfg = s.ctl.cfg := by
  simp only [ackReply]
  repeat' split
  all_goals (try (rename_i h _; obtain ⟨_, -, rfl⟩ := buildReply_some h))
  all_goals (try (rename_i h; obtain ⟨_, -, rfl⟩ := buildReply_some h))
  all_goals simp
@[simp] theorem ackReply_ctl_response (i : Nat) (p : ParsedFrame) (s : State) : (ackReply i p s).ctl.response = s.ctl.response := by
  simp only [ackReply]
  repeat' split
  all_goals (try (rename_i h _; obtain ⟨_, -, rfl⟩ := buildReply_some h))
  all_goals (try (rename_i h; obtain ⟨_, -, rfl⟩ := buildReply_some h))
  all_goals simp
@[simp] theorem Judged.decline_ctl_cfg (s : State) : ((Judged.decline s).state).ctl.cfg = s.ctl.cfg := by simp [Judged.decline]
@[simp] theorem Judged.decline_ctl_response (s : State) : ((Judged.decline s).state).ctl.response = s.ctl.response := by simp [Judged.decline]
@[simp] theorem Judged.decline_bank_tick (s : State) : ((Judged.decline s).state).bank.tick = s.bank.tick := by simp [Judged.decline]
@[simp] theorem Judged.decline_bank_elapsed (s : State) : ((Judged.decline s).state).bank.elapsed = s.bank.elapsed := by simp [Judged.decline]
@[simp] theorem Judged.decline_wake_pressure (s : State) : ((Judged.decline s).state).wake.pressure = s.wake.pressure := by simp [Judged.decline]
@[simp] theorem Judged.decline_wake_pstate (s : State) : ((Judged.decline s).state).wake.pstate = s.wake.pstate := by simp [Judged.decline]
@[simp] theorem Judged.decline_wake_record (s : State) : ((Judged.decline s).state).wake.record = s.wake.record := by simp [Judged.decline]
@[simp] theorem Judged.decline_hold_records (s : State) : ((Judged.decline s).state).hold.records = s.hold.records := by simp [Judged.decline]
@[simp] theorem Judged.decline_hold_serial (s : State) : ((Judged.decline s).state).hold.serial = s.hold.serial := by simp [Judged.decline]
@[simp] theorem Judged.done_ctl_cfg (s : State) : ((Judged.done s).state).ctl.cfg = s.ctl.cfg := by simp [Judged.done]
@[simp] theorem Judged.done_ctl_response (s : State) : ((Judged.done s).state).ctl.response = s.ctl.response := by simp [Judged.done]
@[simp] theorem Judged.done_bank_tick (s : State) : ((Judged.done s).state).bank.tick = s.bank.tick := by simp [Judged.done]
@[simp] theorem Judged.done_bank_elapsed (s : State) : ((Judged.done s).state).bank.elapsed = s.bank.elapsed := by simp [Judged.done]
@[simp] theorem Judged.done_wake_pressure (s : State) : ((Judged.done s).state).wake.pressure = s.wake.pressure := by simp [Judged.done]
@[simp] theorem Judged.done_wake_pstate (s : State) : ((Judged.done s).state).wake.pstate = s.wake.pstate := by simp [Judged.done]
@[simp] theorem Judged.done_wake_record (s : State) : ((Judged.done s).state).wake.record = s.wake.record := by simp [Judged.done]
@[simp] theorem Judged.done_hold_records (s : State) : ((Judged.done s).state).hold.records = s.hold.records := by simp [Judged.done]
@[simp] theorem Judged.done_hold_serial (s : State) : ((Judged.done s).state).hold.serial = s.hold.serial := by simp [Judged.done]
@[simp] theorem passOn_ctl_cfg (i : Nat) (newState : SessionState) (c : Nat) (k : WakeCause) (p : ParsedFrame) (s : State) : ((passOn i newState c k p s).state).ctl.cfg = s.ctl.cfg := by simp [passOn]
@[simp] theorem passOn_ctl_response (i : Nat) (newState : SessionState) (c : Nat) (k : WakeCause) (p : ParsedFrame) (s : State) : ((passOn i newState c k p s).state).ctl.response = s.ctl.response := by simp [passOn]
@[simp] theorem passOn_bank_tick (i : Nat) (newState : SessionState) (c : Nat) (k : WakeCause) (p : ParsedFrame) (s : State) : ((passOn i newState c k p s).state).bank.tick = s.bank.tick := by simp [passOn]
@[simp] theorem passOn_bank_elapsed (i : Nat) (newState : SessionState) (c : Nat) (k : WakeCause) (p : ParsedFrame) (s : State) : ((passOn i newState c k p s).state).bank.elapsed = s.bank.elapsed := by simp [passOn]
@[simp] theorem passOn_wake_pressure (i : Nat) (newState : SessionState) (c : Nat) (k : WakeCause) (p : ParsedFrame) (s : State) : ((passOn i newState c k p s).state).wake.pressure = s.wake.pressure := by simp [passOn]
@[simp] theorem passOn_wake_pstate (i : Nat) (newState : SessionState) (c : Nat) (k : WakeCause) (p : ParsedFrame) (s : State) : ((passOn i newState c k p s).state).wake.pstate = s.wake.pstate := by simp [passOn]
@[simp] theorem passOn_wake_record (i : Nat) (newState : SessionState) (c : Nat) (k : WakeCause) (p : ParsedFrame) (s : State) : ((passOn i newState c k p s).state).wake.record = s.wake.record := by simp [passOn]
@[simp] theorem passOn_hold_records (i : Nat) (newState : SessionState) (c : Nat) (k : WakeCause) (p : ParsedFrame) (s : State) : ((passOn i newState c k p s).state).hold.records = s.hold.records := by simp [passOn]
@[simp] theorem passOn_hold_serial (i : Nat) (newState : SessionState) (c : Nat) (k : WakeCause) (p : ParsedFrame) (s : State) : ((passOn i newState c k p s).state).hold.serial = s.hold.serial := by simp [passOn]
@[simp] theorem judgeSegment_ctl_cfg (i : Nat) (p : ParsedFrame) (s : State) : ((judgeSegment i p s).state).ctl.cfg = s.ctl.cfg := by
  simp [judgeSegment, apply_ite Judged.state, apply_ite State.ctl, apply_ite ControlUnit.cfg]
@[simp] theorem judgeSegment_ctl_response (i : Nat) (p : ParsedFrame) (s : State) : ((judgeSegment i p s).state).ctl.response = s.ctl.response := by
  simp [judgeSegment, apply_ite Judged.state, apply_ite State.ctl, apply_ite ControlUnit.response]
@[simp] theorem judgeSegment_bank_tick (i : Nat) (p : ParsedFrame) (s : State) : ((judgeSegment i p s).state).bank.tick = s.bank.tick := by
  simp [judgeSegment, apply_ite Judged.state, apply_ite State.bank, apply_ite TimerBank.tick]
@[simp] theorem judgeSegment_bank_elapsed (i : Nat) (p : ParsedFrame) (s : State) : ((judgeSegment i p s).state).bank.elapsed = s.bank.elapsed := by
  simp [judgeSegment, apply_ite Judged.state, apply_ite State.bank, apply_ite TimerBank.elapsed]
@[simp] theorem judgeSegment_wake_pressure (i : Nat) (p : ParsedFrame) (s : State) : ((judgeSegment i p s).state).wake.pressure = s.wake.pressure := by
  simp [judgeSegment, apply_ite Judged.state, apply_ite State.wake, apply_ite WakeCtl.pressure]
@[simp] theorem judgeSegment_wake_pstate (i : Nat) (p : ParsedFrame) (s : State) : ((judgeSegment i p s).state).wake.pstate = s.wake.pstate := by
  simp [judgeSegment, apply_ite Judged.state, apply_ite State.wake, apply_ite WakeCtl.pstate]
@[simp] theorem judgeSegment_wake_record (i : Nat) (p : ParsedFrame) (s : State) : ((judgeSegment i p s).state).wake.record = s.wake.record := by
  simp [judgeSegment, apply_ite Judged.state, apply_ite State.wake, apply_ite WakeCtl.record]
@[simp] theorem judgeSession_ctl_cfg (p : ParsedFrame) (s : State) : ((judgeSession p s).state).ctl.cfg = s.ctl.cfg := by
  simp [judgeSession, apply_ite Judged.state, apply_ite State.ctl, apply_ite ControlUnit.cfg]
@[simp] theorem judgeSession_ctl_response (p : ParsedFrame) (s : State) : ((judgeSession p s).state).ctl.response = s.ctl.response := by
  simp [judgeSession, apply_ite Judged.state, apply_ite State.ctl, apply_ite ControlUnit.response]
@[simp] theorem judgeSession_bank_tick (p : ParsedFrame) (s : State) : ((judgeSession p s).state).bank.tick = s.bank.tick := by
  simp [judgeSession, apply_ite Judged.state, apply_ite State.bank, apply_ite TimerBank.tick]
@[simp] theorem judgeSession_bank_elapsed (p : ParsedFrame) (s : State) : ((judgeSession p s).state).bank.elapsed = s.bank.elapsed := by
  simp [judgeSession, apply_ite Judged.state, apply_ite State.bank, apply_ite TimerBank.elapsed]
@[simp] theorem judgeSession_wake_pressure (p : ParsedFrame) (s : State) : ((judgeSession p s).state).wake.pressure = s.wake.pressure := by
  simp [judgeSession, apply_ite Judged.state, apply_ite State.wake, apply_ite WakeCtl.pressure]
@[simp] theorem judgeSession_wake_pstate (p : ParsedFrame) (s : State) : ((judgeSession p s).state).wake.pstate = s.wake.pstate := by
  simp [judgeSession, apply_ite Judged.state, apply_ite State.wake, apply_ite WakeCtl.pstate]
@[simp] theorem judgeSession_wake_record (p : ParsedFrame) (s : State) : ((judgeSession p s).state).wake.record = s.wake.record := by
  simp [judgeSession, apply_ite Judged.state, apply_ite State.wake, apply_ite WakeCtl.record]
@[simp] theorem handleConflict_ctl_cfg (i : Nat) (f : ConflictForm) (p : ParsedFrame) (s : State) : ((handleConflict i f p s).state).ctl.cfg = s.ctl.cfg := by
  simp [handleConflict, apply_ite Judged.state, apply_ite State.ctl, apply_ite ControlUnit.cfg]
@[simp] theorem handleConflict_ctl_response (i : Nat) (f : ConflictForm) (p : ParsedFrame) (s : State) : ((handleConflict i f p s).state).ctl.response = s.ctl.response := by
  simp [handleConflict, apply_ite Judged.state, apply_ite State.ctl, apply_ite ControlUnit.response]
@[simp] theorem handleConflict_bank_tick (i : Nat) (f : ConflictForm) (p : ParsedFrame) (s : State) : ((handleConflict i f p s).state).bank.tick = s.bank.tick := by
  simp [handleConflict, apply_ite Judged.state, apply_ite State.bank, apply_ite TimerBank.tick]
@[simp] theorem handleConflict_bank_elapsed (i : Nat) (f : ConflictForm) (p : ParsedFrame) (s : State) : ((handleConflict i f p s).state).bank.elapsed = s.bank.elapsed := by
  simp [handleConflict, apply_ite Judged.state, apply_ite State.bank, apply_ite TimerBank.elapsed]
@[simp] theorem handleConflict_wake_pressure (i : Nat) (f : ConflictForm) (p : ParsedFrame) (s : State) : ((handleConflict i f p s).state).wake.pressure = s.wake.pressure := by
  simp [handleConflict, apply_ite Judged.state, apply_ite State.wake, apply_ite WakeCtl.pressure]
@[simp] theorem handleConflict_wake_pstate (i : Nat) (f : ConflictForm) (p : ParsedFrame) (s : State) : ((handleConflict i f p s).state).wake.pstate = s.wake.pstate := by
  simp [handleConflict, apply_ite Judged.state, apply_ite State.wake, apply_ite WakeCtl.pstate]
@[simp] theorem handleConflict_wake_record (i : Nat) (f : ConflictForm) (p : ParsedFrame) (s : State) : ((handleConflict i f p s).state).wake.record = s.wake.record := by
  simp [handleConflict, apply_ite Judged.state, apply_ite State.wake, apply_ite WakeCtl.record]
@[simp] theorem handleConflict_hold_records (i : Nat) (f : ConflictForm) (p : ParsedFrame) (s : State) : ((handleConflict i f p s).state).hold.records = s.hold.records := by
  simp [handleConflict, apply_ite Judged.state, apply_ite State.hold, apply_ite HoldQueue.records]
@[simp] theorem handleConflict_hold_serial (i : Nat) (f : ConflictForm) (p : ParsedFrame) (s : State) : ((handleConflict i f p s).state).hold.serial = s.hold.serial := by
  simp [handleConflict, apply_ite Judged.state, apply_ite State.hold, apply_ite HoldQueue.serial]
@[simp] theorem answerArp_ctl_cfg (p : ParsedFrame) (s : State) : ((answerArp p s).state).ctl.cfg = s.ctl.cfg := by
  simp [answerArp, apply_ite Judged.state, apply_ite State.ctl, apply_ite ControlUnit.cfg]
@[simp] theorem answerArp_ctl_response (p : ParsedFrame) (s : State) : ((answerArp p s).state).ctl.response = s.ctl.response := by
  simp [answerArp, apply_ite Judged.state, apply_ite State.ctl, apply_ite ControlUnit.response]
@[simp] theorem answerSolicitation_ctl_cfg (p : ParsedFrame) (s : State) : ((answerSolicitation p s).state).ctl.cfg = s.ctl.cfg := by
  simp [answerSolicitation, apply_ite Judged.state, apply_ite State.ctl, apply_ite ControlUnit.cfg]
@[simp] theorem answerSolicitation_ctl_response (p : ParsedFrame) (s : State) : ((answerSolicitation p s).state).ctl.response = s.ctl.response := by
  simp [answerSolicitation, apply_ite Judged.state, apply_ite State.ctl, apply_ite ControlUnit.response]
@[simp] theorem dropBadSum_ctl_cfg (p : ParsedFrame) (s : State) : ((dropBadSum p s).state).ctl.cfg = s.ctl.cfg := by simp [dropBadSum]
@[simp] theorem dropBadSum_ctl_response (p : ParsedFrame) (s : State) : ((dropBadSum p s).state).ctl.response = s.ctl.response := by simp [dropBadSum]
@[simp] theorem dropBadSum_bank_tick (p : ParsedFrame) (s : State) : ((dropBadSum p s).state).bank.tick = s.bank.tick := by simp [dropBadSum]
@[simp] theorem dropBadSum_bank_elapsed (p : ParsedFrame) (s : State) : ((dropBadSum p s).state).bank.elapsed = s.bank.elapsed := by simp [dropBadSum]
@[simp] theorem dropBadSum_wake_pressure (p : ParsedFrame) (s : State) : ((dropBadSum p s).state).wake.pressure = s.wake.pressure := by simp [dropBadSum]
@[simp] theorem dropBadSum_wake_pstate (p : ParsedFrame) (s : State) : ((dropBadSum p s).state).wake.pstate = s.wake.pstate := by simp [dropBadSum]
@[simp] theorem dropBadSum_wake_record (p : ParsedFrame) (s : State) : ((dropBadSum p s).state).wake.record = s.wake.record := by simp [dropBadSum]
@[simp] theorem dropBadSum_hold_records (p : ParsedFrame) (s : State) : ((dropBadSum p s).state).hold.records = s.hold.records := by simp [dropBadSum]
@[simp] theorem dropBadSum_hold_serial (p : ParsedFrame) (s : State) : ((dropBadSum p s).state).hold.serial = s.hold.serial := by simp [dropBadSum]
@[simp] theorem judgeNd_ctl_cfg (k : AddressKind) (p : ParsedFrame) (s : State) : ((judgeNd k p s).state).ctl.cfg = s.ctl.cfg := by
  unfold judgeNd
  cases ndConflict s k p <;> simp [apply_ite Judged.state, apply_ite State.ctl, apply_ite ControlUnit.cfg]
@[simp] theorem judgeNd_ctl_response (k : AddressKind) (p : ParsedFrame) (s : State) : ((judgeNd k p s).state).ctl.response = s.ctl.response := by
  unfold judgeNd
  cases ndConflict s k p <;> simp [apply_ite Judged.state, apply_ite State.ctl, apply_ite ControlUnit.response]
@[simp] theorem judgeNd_bank_tick (k : AddressKind) (p : ParsedFrame) (s : State) : ((judgeNd k p s).state).bank.tick = s.bank.tick := by
  unfold judgeNd
  cases ndConflict s k p <;> simp [apply_ite Judged.state, apply_ite State.bank, apply_ite TimerBank.tick]
@[simp] theorem judgeNd_bank_elapsed (k : AddressKind) (p : ParsedFrame) (s : State) : ((judgeNd k p s).state).bank.elapsed = s.bank.elapsed := by
  unfold judgeNd
  cases ndConflict s k p <;> simp [apply_ite Judged.state, apply_ite State.bank, apply_ite TimerBank.elapsed]
@[simp] theorem judgeNd_wake_pressure (k : AddressKind) (p : ParsedFrame) (s : State) : ((judgeNd k p s).state).wake.pressure = s.wake.pressure := by
  unfold judgeNd
  cases ndConflict s k p <;> simp [apply_ite Judged.state, apply_ite State.wake, apply_ite WakeCtl.pressure]
@[simp] theorem judgeNd_wake_pstate (k : AddressKind) (p : ParsedFrame) (s : State) : ((judgeNd k p s).state).wake.pstate = s.wake.pstate := by
  unfold judgeNd
  cases ndConflict s k p <;> simp [apply_ite Judged.state, apply_ite State.wake, apply_ite WakeCtl.pstate]
@[simp] theorem judgeNd_wake_record (k : AddressKind) (p : ParsedFrame) (s : State) : ((judgeNd k p s).state).wake.record = s.wake.record := by
  unfold judgeNd
  cases ndConflict s k p <;> simp [apply_ite Judged.state, apply_ite State.wake, apply_ite WakeCtl.record]
@[simp] theorem judgeNd_hold_records (k : AddressKind) (p : ParsedFrame) (s : State) : ((judgeNd k p s).state).hold.records = s.hold.records := by
  unfold judgeNd
  cases ndConflict s k p <;> simp [apply_ite Judged.state, apply_ite State.hold, apply_ite HoldQueue.records]
@[simp] theorem judgeNd_hold_serial (k : AddressKind) (p : ParsedFrame) (s : State) : ((judgeNd k p s).state).hold.serial = s.hold.serial := by
  unfold judgeNd
  cases ndConflict s k p <;> simp [apply_ite Judged.state, apply_ite State.hold, apply_ite HoldQueue.serial]
@[simp] theorem judgeEcho_ctl_cfg (p : ParsedFrame) (s : State) : ((judgeEcho p s).state).ctl.cfg = s.ctl.cfg := by
  simp [judgeEcho, apply_ite Judged.state, apply_ite State.ctl, apply_ite ControlUnit.cfg]
@[simp] theorem judgeEcho_ctl_response (p : ParsedFrame) (s : State) : ((judgeEcho p s).state).ctl.response = s.ctl.response := by
  simp [judgeEcho, apply_ite Judged.state, apply_ite State.ctl, apply_ite ControlUnit.response]
@[simp] theorem holdVerdict_hold_records (p : ParsedFrame) (s : State) : (holdVerdict p s).hold.records = s.hold.records := by
  simp only [holdVerdict]
  repeat' split
  all_goals simp
@[simp] theorem holdVerdict_hold_serial (p : ParsedFrame) (s : State) : (holdVerdict p s).hold.serial = s.hold.serial := by
  simp only [holdVerdict]
  repeat' split
  all_goals simp
@[simp] theorem wakeVerdict_wake_pressure (c : WakeCause) (n cls : Nat) (p : ParsedFrame) (s : State) : (wakeVerdict c n cls p s).wake.pressure = s.wake.pressure := by
  simp only [wakeVerdict]
  repeat' split
  all_goals simp
@[simp] theorem wakeVerdict_wake_pstate (c : WakeCause) (n cls : Nat) (p : ParsedFrame) (s : State) : (wakeVerdict c n cls p s).wake.pstate = s.wake.pstate := by
  simp only [wakeVerdict]
  repeat' split
  all_goals simp
@[simp] theorem wakeVerdict_wake_record (c : WakeCause) (n cls : Nat) (p : ParsedFrame) (s : State) : (wakeVerdict c n cls p s).wake.record = s.wake.record := by
  simp only [wakeVerdict]
  repeat' split
  all_goals simp
@[simp] theorem wakeVerdict_hold_records (c : WakeCause) (n cls : Nat) (p : ParsedFrame) (s : State) : (wakeVerdict c n cls p s).hold.records = s.hold.records := by
  simp only [wakeVerdict]
  repeat' split
  all_goals simp
@[simp] theorem wakeVerdict_hold_serial (c : WakeCause) (n cls : Nat) (p : ParsedFrame) (s : State) : (wakeVerdict c n cls p s).hold.serial = s.hold.serial := by
  simp only [wakeVerdict]
  repeat' split
  all_goals simp
@[simp] theorem applyFallback_wake_pressure (n : Nat) (e : MatchEntry) (p : ParsedFrame) (s : State) : (applyFallback n e p s).wake.pressure = s.wake.pressure := by
  unfold applyFallback
  cases e.fallback <;> simp
@[simp] theorem applyFallback_wake_pstate (n : Nat) (e : MatchEntry) (p : ParsedFrame) (s : State) : (applyFallback n e p s).wake.pstate = s.wake.pstate := by
  unfold applyFallback
  cases e.fallback <;> simp
@[simp] theorem applyFallback_wake_record (n : Nat) (e : MatchEntry) (p : ParsedFrame) (s : State) : (applyFallback n e p s).wake.record = s.wake.record := by
  unfold applyFallback
  cases e.fallback <;> simp
@[simp] theorem applyFallback_hold_records (n : Nat) (e : MatchEntry) (p : ParsedFrame) (s : State) : (applyFallback n e p s).hold.records = s.hold.records := by
  unfold applyFallback
  cases e.fallback <;> simp
@[simp] theorem applyFallback_hold_serial (n : Nat) (e : MatchEntry) (p : ParsedFrame) (s : State) : (applyFallback n e p s).hold.serial = s.hold.serial := by
  unfold applyFallback
  cases e.fallback <;> simp
@[simp] theorem softResetReplies_bank_tick (s : State) : (softResetReplies s).bank.tick = s.bank.tick := by simp [softResetReplies]
@[simp] theorem softResetReplies_bank_elapsed (s : State) : (softResetReplies s).bank.elapsed = s.bank.elapsed := by simp [softResetReplies]
@[simp] theorem softResetDelivery_hold_serial (s : State) : (softResetDelivery s).hold.serial = s.hold.serial := by simp [softResetDelivery]
@[simp] theorem softReset_bank_tick (s : State) : (softReset s).bank.tick = s.bank.tick := by simp [softReset]
@[simp] theorem softReset_bank_elapsed (s : State) : (softReset s).bank.elapsed = s.bank.elapsed := by simp [softReset]
@[simp] theorem softReset_hold_serial (s : State) : (softReset s).hold.serial = s.hold.serial := by simp [softReset]
@[simp] theorem installConfig_ctl_response (c : ConfigRecord) (s : State) : (installConfig c s).ctl.response = s.ctl.response := by simp [installConfig]
@[simp] theorem storeAlarm_bank_tick (i : Nat) (e : Alarm) (s : State) : (storeAlarm i e s).bank.tick = s.bank.tick := by simp [storeAlarm]
@[simp] theorem storeAlarm_bank_elapsed (i : Nat) (e : Alarm) (s : State) : (storeAlarm i e s).bank.elapsed = s.bank.elapsed := by simp [storeAlarm]
@[simp] theorem startSessionTimers_bank_tick (i : Nat) (l : List Session) (s : State) : (startSessionTimers i l s).bank.tick = s.bank.tick := by
  induction l generalizing i s <;> simp_all [startSessionTimers, apply_ite Judged.state, apply_ite State.bank, apply_ite TimerBank.tick]
@[simp] theorem startSessionTimers_bank_elapsed (i : Nat) (l : List Session) (s : State) : (startSessionTimers i l s).bank.elapsed = s.bank.elapsed := by
  induction l generalizing i s <;> simp_all [startSessionTimers, apply_ite Judged.state, apply_ite State.bank, apply_ite TimerBank.elapsed]
@[simp] theorem startAlarmTimers_bank_tick (i : Nat) (l : List Alarm) (s : State) : (startAlarmTimers i l s).bank.tick = s.bank.tick := by
  induction l generalizing i s <;> simp_all [startAlarmTimers, apply_ite Judged.state, apply_ite State.bank, apply_ite TimerBank.tick]
@[simp] theorem startAlarmTimers_bank_elapsed (i : Nat) (l : List Alarm) (s : State) : (startAlarmTimers i l s).bank.elapsed = s.bank.elapsed := by
  induction l generalizing i s <;> simp_all [startAlarmTimers, apply_ite Judged.state, apply_ite State.bank, apply_ite TimerBank.elapsed]
@[simp] theorem enterTimers_bank_tick (s : State) : (enterTimers s).bank.tick = s.bank.tick := by simp [enterTimers]
@[simp] theorem guardExit_bank_tick (s : State) : (guardExit s).bank.tick = s.bank.tick := by simp [guardExit]
@[simp] theorem guardExit_bank_elapsed (s : State) : (guardExit s).bank.elapsed = s.bank.elapsed := by simp [guardExit]
@[simp] theorem guardExit_wake_pressure (s : State) : (guardExit s).wake.pressure = s.wake.pressure := by simp [guardExit]
@[simp] theorem guardExit_wake_pstate (s : State) : (guardExit s).wake.pstate = s.wake.pstate := by simp [guardExit]
@[simp] theorem guardExit_wake_record (s : State) : (guardExit s).wake.record = s.wake.record := by simp [guardExit]
@[simp] theorem clearCounters_ctl_cfg (s : State) : (clearCounters s).ctl.cfg = s.ctl.cfg := by simp [clearCounters]
@[simp] theorem clearCounters_ctl_response (s : State) : (clearCounters s).ctl.response = s.ctl.response := by simp [clearCounters]
@[simp] theorem judgeAddress_ctl_cfg (p : ParsedFrame) (s : State) : ((judgeAddress p s).state).ctl.cfg = s.ctl.cfg := by
  unfold judgeAddress
  cases addressKind p.fv with
  | none => simp
  | some k =>
    cases k
    · cases arpConflict s p <;> simp
    · simp
    · simp
@[simp] theorem judgeAddress_ctl_response (p : ParsedFrame) (s : State) : ((judgeAddress p s).state).ctl.response = s.ctl.response := by
  unfold judgeAddress
  cases addressKind p.fv with
  | none => simp
  | some k =>
    cases k
    · cases arpConflict s p <;> simp
    · simp
    · simp
@[simp] theorem judgeAddress_bank_tick (p : ParsedFrame) (s : State) : ((judgeAddress p s).state).bank.tick = s.bank.tick := by
  unfold judgeAddress
  cases addressKind p.fv with
  | none => simp
  | some k =>
    cases k
    · cases arpConflict s p <;> simp
    · simp
    · simp
@[simp] theorem judgeAddress_bank_elapsed (p : ParsedFrame) (s : State) : ((judgeAddress p s).state).bank.elapsed = s.bank.elapsed := by
  unfold judgeAddress
  cases addressKind p.fv with
  | none => simp
  | some k =>
    cases k
    · cases arpConflict s p <;> simp
    · simp
    · simp
@[simp] theorem judgeAddress_wake_pressure (p : ParsedFrame) (s : State) : ((judgeAddress p s).state).wake.pressure = s.wake.pressure := by
  unfold judgeAddress
  cases addressKind p.fv with
  | none => simp
  | some k =>
    cases k
    · cases arpConflict s p <;> simp
    · simp
    · simp
@[simp] theorem judgeAddress_wake_pstate (p : ParsedFrame) (s : State) : ((judgeAddress p s).state).wake.pstate = s.wake.pstate := by
  unfold judgeAddress
  cases addressKind p.fv with
  | none => simp
  | some k =>
    cases k
    · cases arpConflict s p <;> simp
    · simp
    · simp
@[simp] theorem judgeAddress_wake_record (p : ParsedFrame) (s : State) : ((judgeAddress p s).state).wake.record = s.wake.record := by
  unfold judgeAddress
  cases addressKind p.fv with
  | none => simp
  | some k =>
    cases k
    · cases arpConflict s p <;> simp
    · simp
    · simp
@[simp] theorem judgeAddress_hold_records (p : ParsedFrame) (s : State) : ((judgeAddress p s).state).hold.records = s.hold.records := by
  unfold judgeAddress
  cases addressKind p.fv with
  | none => simp
  | some k =>
    cases k
    · cases arpConflict s p <;> simp
    · simp
    · simp
@[simp] theorem judgeAddress_hold_serial (p : ParsedFrame) (s : State) : ((judgeAddress p s).state).hold.serial = s.hold.serial := by
  unfold judgeAddress
  cases addressKind p.fv with
  | none => simp
  | some k =>
    cases k
    · cases arpConflict s p <;> simp
    · simp
    · simp
@[simp] theorem judgeQuery_ctl_cfg (a b : Bool) (p : ParsedFrame) (s : State) : ((judgeQuery a b p s).state).ctl.cfg = s.ctl.cfg := by
  simp only [judgeQuery, apply_ite Judged.state, apply_ite State.ctl, apply_ite ControlUnit.cfg]
  cases readQuestion (slice p.bytes p.pos.pay p.fv.l4len) with
  | none => simp
  | some q =>
    cases h1 : matchingName s.names q.name with
    | none => simp [h1]
    | some k =>
      cases h2 : answerTarget s.ctl.cfg a p q <;> cases h3 : answerSource s a b p <;>
        simp [h1, h2, h3, apply_ite Judged.state, apply_ite State.ctl, apply_ite ControlUnit.cfg]
@[simp] theorem judgeQuery_ctl_response (a b : Bool) (p : ParsedFrame) (s : State) : ((judgeQuery a b p s).state).ctl.response = s.ctl.response := by
  simp only [judgeQuery, apply_ite Judged.state, apply_ite State.ctl, apply_ite ControlUnit.response]
  cases readQuestion (slice p.bytes p.pos.pay p.fv.l4len) with
  | none => simp
  | some q =>
    cases h1 : matchingName s.names q.name with
    | none => simp [h1]
    | some k =>
      cases h2 : answerTarget s.ctl.cfg a p q <;> cases h3 : answerSource s a b p <;>
        simp [h1, h2, h3, apply_ite Judged.state, apply_ite State.ctl, apply_ite ControlUnit.response]
@[simp] theorem judgeQuery_bank_tick (a b : Bool) (p : ParsedFrame) (s : State) : ((judgeQuery a b p s).state).bank.tick = s.bank.tick := by
  simp only [judgeQuery, apply_ite Judged.state, apply_ite State.bank, apply_ite TimerBank.tick]
  cases readQuestion (slice p.bytes p.pos.pay p.fv.l4len) with
  | none => simp
  | some q =>
    cases h1 : matchingName s.names q.name with
    | none => simp [h1]
    | some k =>
      cases h2 : answerTarget s.ctl.cfg a p q <;> cases h3 : answerSource s a b p <;>
        simp [h1, h2, h3, apply_ite Judged.state, apply_ite State.bank, apply_ite TimerBank.tick]
@[simp] theorem judgeQuery_bank_elapsed (a b : Bool) (p : ParsedFrame) (s : State) : ((judgeQuery a b p s).state).bank.elapsed = s.bank.elapsed := by
  simp only [judgeQuery, apply_ite Judged.state, apply_ite State.bank, apply_ite TimerBank.elapsed]
  cases readQuestion (slice p.bytes p.pos.pay p.fv.l4len) with
  | none => simp
  | some q =>
    cases h1 : matchingName s.names q.name with
    | none => simp [h1]
    | some k =>
      cases h2 : answerTarget s.ctl.cfg a p q <;> cases h3 : answerSource s a b p <;>
        simp [h1, h2, h3, apply_ite Judged.state, apply_ite State.bank, apply_ite TimerBank.elapsed]
@[simp] theorem judgeQuery_wake_pressure (a b : Bool) (p : ParsedFrame) (s : State) : ((judgeQuery a b p s).state).wake.pressure = s.wake.pressure := by
  simp only [judgeQuery, apply_ite Judged.state, apply_ite State.wake, apply_ite WakeCtl.pressure]
  cases readQuestion (slice p.bytes p.pos.pay p.fv.l4len) with
  | none => simp
  | some q =>
    cases h1 : matchingName s.names q.name with
    | none => simp [h1]
    | some k =>
      cases h2 : answerTarget s.ctl.cfg a p q <;> cases h3 : answerSource s a b p <;>
        simp [h1, h2, h3, apply_ite Judged.state, apply_ite State.wake, apply_ite WakeCtl.pressure]
@[simp] theorem judgeQuery_wake_pstate (a b : Bool) (p : ParsedFrame) (s : State) : ((judgeQuery a b p s).state).wake.pstate = s.wake.pstate := by
  simp only [judgeQuery, apply_ite Judged.state, apply_ite State.wake, apply_ite WakeCtl.pstate]
  cases readQuestion (slice p.bytes p.pos.pay p.fv.l4len) with
  | none => simp
  | some q =>
    cases h1 : matchingName s.names q.name with
    | none => simp [h1]
    | some k =>
      cases h2 : answerTarget s.ctl.cfg a p q <;> cases h3 : answerSource s a b p <;>
        simp [h1, h2, h3, apply_ite Judged.state, apply_ite State.wake, apply_ite WakeCtl.pstate]
@[simp] theorem judgeQuery_wake_record (a b : Bool) (p : ParsedFrame) (s : State) : ((judgeQuery a b p s).state).wake.record = s.wake.record := by
  simp only [judgeQuery, apply_ite Judged.state, apply_ite State.wake, apply_ite WakeCtl.record]
  cases readQuestion (slice p.bytes p.pos.pay p.fv.l4len) with
  | none => simp
  | some q =>
    cases h1 : matchingName s.names q.name with
    | none => simp [h1]
    | some k =>
      cases h2 : answerTarget s.ctl.cfg a p q <;> cases h3 : answerSource s a b p <;>
        simp [h1, h2, h3, apply_ite Judged.state, apply_ite State.wake, apply_ite WakeCtl.record]
@[simp] theorem judgeQuery_hold_records (a b : Bool) (p : ParsedFrame) (s : State) : ((judgeQuery a b p s).state).hold.records = s.hold.records := by
  simp only [judgeQuery, apply_ite Judged.state, apply_ite State.hold, apply_ite HoldQueue.records]
  cases readQuestion (slice p.bytes p.pos.pay p.fv.l4len) with
  | none => simp
  | some q =>
    cases h1 : matchingName s.names q.name with
    | none => simp [h1]
    | some k =>
      cases h2 : answerTarget s.ctl.cfg a p q <;> cases h3 : answerSource s a b p <;>
        simp [h1, h2, h3, apply_ite Judged.state, apply_ite State.hold, apply_ite HoldQueue.records]
@[simp] theorem judgeQuery_hold_serial (a b : Bool) (p : ParsedFrame) (s : State) : ((judgeQuery a b p s).state).hold.serial = s.hold.serial := by
  simp only [judgeQuery, apply_ite Judged.state, apply_ite State.hold, apply_ite HoldQueue.serial]
  cases readQuestion (slice p.bytes p.pos.pay p.fv.l4len) with
  | none => simp
  | some q =>
    cases h1 : matchingName s.names q.name with
    | none => simp [h1]
    | some k =>
      cases h2 : answerTarget s.ctl.cfg a p q <;> cases h3 : answerSource s a b p <;>
        simp [h1, h2, h3, apply_ite Judged.state, apply_ite State.hold, apply_ite HoldQueue.serial]
@[simp] theorem judgeQuery_wake_quiet (a b : Bool) (p : ParsedFrame) (s : State) : ((judgeQuery a b p s).state).wake.quiet = s.wake.quiet := by
  simp only [judgeQuery, apply_ite Judged.state, apply_ite State.wake, apply_ite WakeCtl.quiet]
  cases readQuestion (slice p.bytes p.pos.pay p.fv.l4len) with
  | none => simp
  | some q =>
    cases h1 : matchingName s.names q.name with
    | none => simp [h1]
    | some k =>
      cases h2 : answerTarget s.ctl.cfg a p q <;> cases h3 : answerSource s a b p <;>
        simp [h1, h2, h3, apply_ite Judged.state, apply_ite State.wake, apply_ite WakeCtl.quiet]
@[simp] theorem judgeQuery_wake_deferred (a b : Bool) (p : ParsedFrame) (s : State) : ((judgeQuery a b p s).state).wake.deferred = s.wake.deferred := by
  simp only [judgeQuery, apply_ite Judged.state, apply_ite State.wake, apply_ite WakeCtl.deferred]
  cases readQuestion (slice p.bytes p.pos.pay p.fv.l4len) with
  | none => simp
  | some q =>
    cases h1 : matchingName s.names q.name with
    | none => simp [h1]
    | some k =>
      cases h2 : answerTarget s.ctl.cfg a p q <;> cases h3 : answerSource s a b p <;>
        simp [h1, h2, h3, apply_ite Judged.state, apply_ite State.wake, apply_ite WakeCtl.deferred]
@[simp] theorem judgeName_ctl_cfg (p : ParsedFrame) (s : State) : ((judgeName p s).state).ctl.cfg = s.ctl.cfg := by
  simp [judgeName, apply_ite Judged.state, apply_ite State.ctl, apply_ite ControlUnit.cfg]
@[simp] theorem judgeName_ctl_response (p : ParsedFrame) (s : State) : ((judgeName p s).state).ctl.response = s.ctl.response := by
  simp [judgeName, apply_ite Judged.state, apply_ite State.ctl, apply_ite ControlUnit.response]
@[simp] theorem judgeName_bank_tick (p : ParsedFrame) (s : State) : ((judgeName p s).state).bank.tick = s.bank.tick := by
  simp [judgeName, apply_ite Judged.state, apply_ite State.bank, apply_ite TimerBank.tick]
@[simp] theorem judgeName_bank_elapsed (p : ParsedFrame) (s : State) : ((judgeName p s).state).bank.elapsed = s.bank.elapsed := by
  simp [judgeName, apply_ite Judged.state, apply_ite State.bank, apply_ite TimerBank.elapsed]
@[simp] theorem judgeName_wake_pressure (p : ParsedFrame) (s : State) : ((judgeName p s).state).wake.pressure = s.wake.pressure := by
  simp [judgeName, apply_ite Judged.state, apply_ite State.wake, apply_ite WakeCtl.pressure]
@[simp] theorem judgeName_wake_pstate (p : ParsedFrame) (s : State) : ((judgeName p s).state).wake.pstate = s.wake.pstate := by
  simp [judgeName, apply_ite Judged.state, apply_ite State.wake, apply_ite WakeCtl.pstate]
@[simp] theorem judgeName_wake_record (p : ParsedFrame) (s : State) : ((judgeName p s).state).wake.record = s.wake.record := by
  simp [judgeName, apply_ite Judged.state, apply_ite State.wake, apply_ite WakeCtl.record]
@[simp] theorem judgeName_hold_records (p : ParsedFrame) (s : State) : ((judgeName p s).state).hold.records = s.hold.records := by
  simp [judgeName, apply_ite Judged.state, apply_ite State.hold, apply_ite HoldQueue.records]
@[simp] theorem judgeName_hold_serial (p : ParsedFrame) (s : State) : ((judgeName p s).state).hold.serial = s.hold.serial := by
  simp [judgeName, apply_ite Judged.state, apply_ite State.hold, apply_ite HoldQueue.serial]
@[simp] theorem judgeName_wake_quiet (p : ParsedFrame) (s : State) : ((judgeName p s).state).wake.quiet = s.wake.quiet := by
  simp [judgeName, apply_ite Judged.state, apply_ite State.wake, apply_ite WakeCtl.quiet]
@[simp] theorem judgeName_wake_deferred (p : ParsedFrame) (s : State) : ((judgeName p s).state).wake.deferred = s.wake.deferred := by
  simp [judgeName, apply_ite Judged.state, apply_ite State.wake, apply_ite WakeCtl.deferred]
@[simp] theorem carryOut_ctl_cfg (n : Nat) (e : MatchEntry) (p : ParsedFrame) (s : State) : (carryOut n e p s).ctl.cfg = s.ctl.cfg := by
  unfold carryOut afterResponder
  cases e.action <;> simp [apply_ite Judged.state, apply_ite State.ctl, apply_ite ControlUnit.cfg]
@[simp] theorem carryOut_ctl_response (n : Nat) (e : MatchEntry) (p : ParsedFrame) (s : State) : (carryOut n e p s).ctl.response = s.ctl.response := by
  unfold carryOut afterResponder
  cases e.action <;> simp [apply_ite Judged.state, apply_ite State.ctl, apply_ite ControlUnit.response]
@[simp] theorem carryOut_bank_tick (n : Nat) (e : MatchEntry) (p : ParsedFrame) (s : State) : (carryOut n e p s).bank.tick = s.bank.tick := by
  unfold carryOut afterResponder
  cases e.action <;> simp [apply_ite Judged.state, apply_ite State.bank, apply_ite TimerBank.tick]
@[simp] theorem carryOut_bank_elapsed (n : Nat) (e : MatchEntry) (p : ParsedFrame) (s : State) : (carryOut n e p s).bank.elapsed = s.bank.elapsed := by
  unfold carryOut afterResponder
  cases e.action <;> simp [apply_ite Judged.state, apply_ite State.bank, apply_ite TimerBank.elapsed]
@[simp] theorem carryOut_wake_pressure (n : Nat) (e : MatchEntry) (p : ParsedFrame) (s : State) : (carryOut n e p s).wake.pressure = s.wake.pressure := by
  unfold carryOut afterResponder
  cases e.action <;> simp [apply_ite Judged.state, apply_ite State.wake, apply_ite WakeCtl.pressure]
@[simp] theorem carryOut_wake_pstate (n : Nat) (e : MatchEntry) (p : ParsedFrame) (s : State) : (carryOut n e p s).wake.pstate = s.wake.pstate := by
  unfold carryOut afterResponder
  cases e.action <;> simp [apply_ite Judged.state, apply_ite State.wake, apply_ite WakeCtl.pstate]
@[simp] theorem carryOut_wake_record (n : Nat) (e : MatchEntry) (p : ParsedFrame) (s : State) : (carryOut n e p s).wake.record = s.wake.record := by
  unfold carryOut afterResponder
  cases e.action <;> simp [apply_ite Judged.state, apply_ite State.wake, apply_ite WakeCtl.record]
@[simp] theorem carryOut_hold_records (n : Nat) (e : MatchEntry) (p : ParsedFrame) (s : State) : (carryOut n e p s).hold.records = s.hold.records := by
  unfold carryOut afterResponder
  cases e.action <;> simp [apply_ite Judged.state, apply_ite State.hold, apply_ite HoldQueue.records]
@[simp] theorem carryOut_hold_serial (n : Nat) (e : MatchEntry) (p : ParsedFrame) (s : State) : (carryOut n e p s).hold.serial = s.hold.serial := by
  unfold carryOut afterResponder
  cases e.action <;> simp [apply_ite Judged.state, apply_ite State.hold, apply_ite HoldQueue.serial]
@[simp] theorem classify_ctl_cfg (p : ParsedFrame) (s : State) : (classify p s).ctl.cfg = s.ctl.cfg := by
  unfold classify
  cases firstMatch s.matchTable p.fv <;> simp [apply_ite Judged.state, apply_ite State.ctl, apply_ite ControlUnit.cfg]
@[simp] theorem classify_ctl_response (p : ParsedFrame) (s : State) : (classify p s).ctl.response = s.ctl.response := by
  unfold classify
  cases firstMatch s.matchTable p.fv <;> simp [apply_ite Judged.state, apply_ite State.ctl, apply_ite ControlUnit.response]
@[simp] theorem classify_bank_tick (p : ParsedFrame) (s : State) : (classify p s).bank.tick = s.bank.tick := by
  unfold classify
  cases firstMatch s.matchTable p.fv <;> simp [apply_ite Judged.state, apply_ite State.bank, apply_ite TimerBank.tick]
@[simp] theorem classify_bank_elapsed (p : ParsedFrame) (s : State) : (classify p s).bank.elapsed = s.bank.elapsed := by
  unfold classify
  cases firstMatch s.matchTable p.fv <;> simp [apply_ite Judged.state, apply_ite State.bank, apply_ite TimerBank.elapsed]
@[simp] theorem classify_wake_pressure (p : ParsedFrame) (s : State) : (classify p s).wake.pressure = s.wake.pressure := by
  unfold classify
  cases firstMatch s.matchTable p.fv <;> simp [apply_ite Judged.state, apply_ite State.wake, apply_ite WakeCtl.pressure]
@[simp] theorem classify_wake_pstate (p : ParsedFrame) (s : State) : (classify p s).wake.pstate = s.wake.pstate := by
  unfold classify
  cases firstMatch s.matchTable p.fv <;> simp [apply_ite Judged.state, apply_ite State.wake, apply_ite WakeCtl.pstate]
@[simp] theorem classify_wake_record (p : ParsedFrame) (s : State) : (classify p s).wake.record = s.wake.record := by
  unfold classify
  cases firstMatch s.matchTable p.fv <;> simp [apply_ite Judged.state, apply_ite State.wake, apply_ite WakeCtl.record]
@[simp] theorem classify_hold_records (p : ParsedFrame) (s : State) : (classify p s).hold.records = s.hold.records := by
  unfold classify
  cases firstMatch s.matchTable p.fv <;> simp [apply_ite Judged.state, apply_ite State.hold, apply_ite HoldQueue.records]
@[simp] theorem classify_hold_serial (p : ParsedFrame) (s : State) : (classify p s).hold.serial = s.hold.serial := by
  unfold classify
  cases firstMatch s.matchTable p.fv <;> simp [apply_ite Judged.state, apply_ite State.hold, apply_ite HoldQueue.serial]

end Sys2Proof.Machine
end

