-- ==== Sys2Proof/Laws/Ops.lean ====
section
/-! SUPPORT. What each shared operation can do, said once: proofs cite these lemmas and unfold no
operation. -/

namespace Sys2Proof.Machine

/-! ### The mode -/

/-- The end of DRAIN changes nothing in another mode. -/
theorem endDrain_of_not_drain {s : State} (h : s.modeCtl.mode ≠ .drain) : endDrain s = s := by
  simp [endDrain, h]

/-- The end of DRAIN leaves the state, or makes the mode PASS with nothing held, pending or waiting. -/
theorem endDrain_cases (s : State) :
    endDrain s = s ∨
      s.modeCtl.mode = .drain ∧ s.hold.records = [] ∧ guardPending s = false
        ∧ drainedWaiting s = false ∧ endDrain s = setMode .pass s := by
  unfold endDrain
  split
  · rename_i h
    simp only [Bool.and_eq_true, decide_eq_true_eq, Bool.not_eq_true', List.isEmpty_iff] at h
    exact .inr ⟨h.1.1.1, h.1.1.2, h.1.2, h.2, rfl⟩
  · exact .inl rfl

/-- The handshake that a wake assertion starts is that of the configured mode. -/
theorem beginWaking_eq_handshake (c : ConfigRecord) (ready : Bool) (m : ModeCtl) :
    beginWaking c ready m = handshake c ready m := by
  cases hw : c.wakeMode <;> cases ready <;>
    simp [beginWaking, handshake, hw, startLevel, startCycle, startPulse, ModeCtl.resume]

/-- A countdown that has not ended moves one down; a stopped one stays. -/
theorem countDown_eq_map {x : Option Nat} (h : x ≠ some 0) : countDown x = x.map (· - 1) := by
  rcases x with _ | _ | n <;> simp_all [countDown]

/-! ### Timers -/

/-- The owner's answer does what the table of R147 says. -/
theorem answered_eq_reloaded : Timer.answered = reloaded := by
  funext t
  unfold reloaded Timer.answered Timer.stop
  by_cases h : t.state = .stopped ∨ t.outstanding = false
  · rw [if_pos h, if_pos (by simpa using h)]
  · refine (if_neg (by simpa using h)).trans (Eq.trans ?_ (if_neg h).symm)
    cases t.mode <;> cases t.staged <;> rfl

/-- The notices of a tick are those of the timers that expire, in ascending index. -/
theorem expiriesFrom_eq_filter (k : Nat) (ts : List Timer) :
    expiriesFrom k ts =
      ((List.range ts.length).filter fun i => (ts.getD i Timer.powerOn).expires).map fun i =>
        ⟨k + i, (ts.getD i Timer.powerOn).staged.isSome⟩ := by
  induction ts generalizing k with
  | nil => simp [expiriesFrom]
  | cons t r ih =>
    simp only [expiriesFrom, List.length_cons, List.range_succ_eq_map, List.filter_cons,
      List.filter_map]
    rw [ih]
    have shift : (fun i => (⟨k + 1 + i, (r.getD i Timer.powerOn).staged.isSome⟩ : ExpiryNotice)) =
        fun i => ⟨k + (i + 1), (r.getD i Timer.powerOn).staged.isSome⟩ := by
      funext i
      rw [Nat.add_assoc, Nat.add_comm 1 i]
    rw [shift]
    by_cases h : t.expires <;> simp [h, Function.comp_def]

/-- A notice taken is the oldest of its timer, and only the notices change. -/
theorem takeNotice_eq_some {timer : Nat} {s t : State} {n : ExpiryNotice}
    (h : takeNotice timer s = some (n, t)) :
    s.bank.notices.find? (fun x => x.timer == timer) = some n
      ∧ t = { s with bank := { s.bank with notices := s.bank.notices.erase n } } := by
  unfold takeNotice at h
  split at h
  · cases h
  · rename_i m hm
    cases h
    exact ⟨hm, rfl⟩

/-- The oldest notice of a timer is taken. -/
theorem takeNotice_of_find {timer : Nat} {s : State} {n : ExpiryNotice}
    (h : s.bank.notices.find? (fun x => x.timer == timer) = some n) :
    takeNotice timer s =
      some (n, { s with bank := { s.bank with notices := s.bank.notices.erase n } }) := by
  simp only [takeNotice, h]
  rfl

/-! ### Reply slots and probes -/

/-- A slot granted exists and is FREE. -/
theorem freeSlot_eq_some {s : State} {i : Nat} (h : freeSlot s = some i) :
    i < s.reply.slots.length ∧ (s.slot i).state = .free := by
  unfold freeSlot at h
  rw [List.findIdx?_eq_some_iff_getElem] at h
  obtain ⟨hi, hf, -⟩ := h
  exact ⟨hi, by simpa [State.slot, hi] using hf⟩

/-- A frame built into a slot for the line. -/
theorem fillSlot_line (i : Nat) (k : ReplyKind) (n : Option Nat) (v4 : Bool) (f : Frame) (s : State) :
    fillSlot i .line k n v4 f s = s.queued i k n v4 f := by
  cases v4 <;> simp [fillSlot, State.queued, State.setReply]

/-- A probe built into a slot. -/
theorem buildProbe_eq_probeBuilt (slot i : Nat) (s : State) :
    buildProbe slot i s = s.probeBuilt slot i := by
  simp only [buildProbe, fillSlot_line, State.probeBuilt]
  rfl

/-- A slot freed is handed on. -/
theorem freeAndHandOn_eq_handedOn (i : Nat) (s : State) : freeAndHandOn i s = s.handedOn i := by
  unfold freeAndHandOn State.handedOn
  cases h : s.probes with
  | nil => simp [State.setReply, h]
  | cons p rest =>
    simp only [State.setReply, h, buildProbe_eq_probeBuilt]
    rfl

/-- A probe due: nothing for a session that waits already, a slot filled, or the session waits. -/
theorem probeDue_cases (i : Nat) (s : State) :
    (i ∈ s.probes ∧ probeDue i s = s)
      ∨ (i ∉ s.probes ∧ ∃ slot, freeSlot s = some slot ∧ probeDue i s = s.probeBuilt slot i)
      ∨ (i ∉ s.probes ∧ freeSlot s = none ∧ probeDue i s = { s with probes := s.probes ++ [i] }) := by
  by_cases hi : i ∈ s.probes
  · exact .inl ⟨hi, by simp [probeDue, hi]⟩
  · cases hf : freeSlot s with
    | some slot =>
      exact .inr (.inl ⟨hi, slot, rfl, by simp [probeDue, hi, hf, buildProbe_eq_probeBuilt]⟩)
    | none => exact .inr (.inr ⟨hi, rfl, by simp [probeDue, hi, hf, State.setProbes]⟩)

/-! ### Sessions and requests -/

/-- A session that leaves its running state. -/
theorem leaveRunning_eq_left (i : Nat) (newState : SessionState) (s : State) :
    leaveRunning i newState s = s.left i newState := rfl

/-- Sessions that leave their running state together leave the pending-probe list. -/
theorem leaveRunningAll_probes (newState : SessionState) (l : List Nat) (s : State) :
    (leaveRunningAll newState l s).probes = s.probes.filter fun j => !l.contains j := by
  induction l generalizing s with
  | nil => exact (List.filter_eq_self.2 (by simp)).symm
  | cons i r ih =>
    rw [leaveRunningAll, ih, leaveRunning_eq_left]
    simp only [State.left, List.filter_filter, List.contains_cons]
    congr 1; funext j; cases h : r.contains j <;> simp [bne]

/-- Sessions that leave their running state together take the new one, and no other changes. -/
theorem leaveRunningAll_sessions (newState : SessionState) (l : List Nat) (s : State) :
    (leaveRunningAll newState l s).sessions =
      s.sessions.mapIdx fun j x => if j ∈ l then { x with state := newState } else x := by
  induction l generalizing s with
  | nil =>
    simp only [leaveRunningAll, List.not_mem_nil, if_false]
    exact List.ext_getElem (by simp) fun _ _ _ => by simp
  | cons i r ih =>
    rw [leaveRunningAll, ih, leaveRunning_eq_left]
    apply List.ext_getElem (by simp [State.left])
    intro j h1 h2
    simp only [State.left, List.getElem_mapIdx, List.getElem_modify, List.mem_cons]
    by_cases hji : j = i
    · subst hji; by_cases h : j ∈ r <;> simp [h]
    · have := Ne.symm hji; simp [hji, this]

/-- Sessions that leave their running state together have their timers stopped; the rest of the bank is
unchanged. -/
theorem leaveRunningAll_bank (newState : SessionState) (l : List Nat) (s : State) :
    (leaveRunningAll newState l s).bank =
      { s.bank with timers := s.bank.timers.mapIdx fun j t => if j ∈ l then t.stop else t } := by
  induction l generalizing s with
  | nil =>
    have : s.bank.timers.mapIdx (fun _ t => t) = s.bank.timers :=
      List.ext_getElem (by simp) fun _ _ _ => by simp
    simp [leaveRunningAll, this]
  | cons i r ih =>
    rw [leaveRunningAll, ih, leaveRunning_eq_left]
    simp only [State.left, TimerBank.mk.injEq, true_and, and_true]
    apply List.ext_getElem (by simp)
    intro j h1 h2
    simp only [List.getElem_mapIdx, List.getElem_modify, List.mem_cons]
    by_cases hji : j = i
    · subst hji; by_cases h : j ∈ r <;> simp [h, Timer.stop]
    · have := Ne.symm hji; simp [hji, this]

/-- A request sent. -/
theorem sendRequest_eq_requested (r : WakeRequest) (s : State) : sendRequest r s = s.requested r := rfl

/-- A request taken from its place is judged in the state without it. -/
theorem execWakeRequest_of_some {s : State} {place : Nat} {r : WakeRequest}
    (h : s.wake.requests[place]? = some r) :
    execWakeRequest place s =
      .next
        (endDrain
          (judgeRequest r
            { s with wake := { s.wake with requests := s.wake.requests.eraseIdx place } })) := by
  simp only [execWakeRequest, h]
  rfl

/-! ### The classifier -/

/-- The frame at the classifier is taken, its entry's hit counted and its verdict carried out. -/
theorem execClassifyFrame_of_decides {s : State} {p : ParsedFrame} {k : Nat} {e : MatchEntry}
    (h : Decides s p k e) :
    execClassifyFrame s = .next (endDrain (carryOut k e p (s.hit k))) := by
  obtain ⟨hp, hf, hm, he⟩ := h
  have hd : s.matchTable.getD k MatchEntry.powerOn = e := by
    rw [List.getD_eq_getElem?_getD, he]
    rfl
  simp only [execClassifyFrame, hp, hf, classify, if_true, State.setGuardPath_matchTable, hm, hd]
  rfl

/-- A frame without an entry is taken and disposed of by the default verdict. -/
theorem execClassifyFrame_of_none {s : State} {p : ParsedFrame} (hp : s.guardPath.parsed = some p)
    (hf : classifierFree s = true) (hm : firstMatch s.matchTable p.fv = none) :
    execClassifyFrame s =
      .next
        (endDrain
          (if s.ctl.cfg.defaultHold then
            holdVerdict p (bump .matchNone { s with guardPath := { s.guardPath with parsed := none } })
          else bump .matchNone { s with guardPath := { s.guardPath with parsed := none } })) := by
  simp only [execClassifyFrame, hp, hf, classify, if_true, State.setGuardPath_matchTable, hm]
  rfl

/-! ### The address responder -/

/-- An ARP frame that shows a conflict is handled as that conflict. -/
theorem judgeAddress_of_arpConflict {p : ParsedFrame} {s : State} {j : Nat × ConflictForm}
    (hk : addressKind p.fv = some .arp) (hc : arpConflict s p = some j) :
    judgeAddress p s = handleConflict j.1 j.2 p s := by
  unfold judgeAddress
  generalize addressKind p.fv = k at hk
  subst hk
  generalize arpConflict s p = c at hc
  subst hc
  exact rfl

/-- An ARP frame without a conflict is answered or declined. -/
theorem judgeAddress_of_noArpConflict {p : ParsedFrame} {s : State}
    (hk : addressKind p.fv = some .arp) (hc : arpConflict s p = none) :
    judgeAddress p s = answerArp p s := by
  unfold judgeAddress
  generalize addressKind p.fv = k at hk
  subst hk
  generalize arpConflict s p = c at hc
  subst hc
  exact rfl

/-- A solicitation or an advertisement is judged by its own checks. -/
theorem judgeAddress_of_nd {p : ParsedFrame} {s : State} {kind : AddressKind}
    (hk : addressKind p.fv = some kind) (hn : kind ≠ .arp) :
    judgeAddress p s = judgeNd kind p s := by
  unfold judgeAddress
  generalize addressKind p.fv = k at hk
  subst hk
  cases kind with
  | arp => exact absurd rfl hn
  | _ => exact rfl

/-- An answer to a guard-path frame with a FREE slot: the slot is QUEUED for the line and the answer counted. -/
theorem answer_of_freeSlot {s : State} {p : ParsedFrame} {c : Counter} {takesId : Bool}
    {frame : BitVec 16 → Frame} {slot : Nat} (hp : p.path = .guardPath) (hf : freeSlot s = some slot) :
    answer p c takesId frame s =
      bump c (s.queued slot .answer none takesId (frame s.reply.ipId)) := by
  simp [answer, buildReply, hf, bumpIf, hp, fillSlot, destOfPath, State.queued, State.setReply]

/-- An answer to a guard-path frame without a FREE slot is skipped and counted. -/
theorem answer_of_noFreeSlot {s : State} {p : ParsedFrame} {c : Counter} {takesId : Bool}
    {frame : BitVec 16 → Frame} (hp : p.path = .guardPath) (hf : freeSlot s = none) :
    answer p c takesId frame s = bump .replySkipped s := by
  simp [answer, buildReply, hf, bumpIf, hp, skipReply]

/-- A defence against a guard-path frame: none without the flag, else QUEUED in the lowest FREE slot, or skipped
and counted. -/
theorem defend_cases (form : ConflictForm) (i : Identity) {p : ParsedFrame} (s : State)
    (hp : p.path = .guardPath) :
    (i.defend = false ∧ defend form i p s = s)
      ∨ (i.defend = true ∧ freeSlot s = none ∧ defend form i p s = bump .replySkipped s)
      ∨ ∃ slot, i.defend = true ∧ freeSlot s = some slot
          ∧ defend form i p s =
              s.queued slot .defence none false (defenceFrame s.ctl.cfg form i p) := by
  cases hd : i.defend
  · exact .inl ⟨rfl, by simp [defend, hd]⟩
  · cases hf : freeSlot s with
    | none => exact .inr (.inl ⟨rfl, rfl, by simp [defend, hd, buildReply, hf, skipReply, hp, bumpIf]⟩)
    | some slot =>
      refine .inr (.inr ⟨slot, rfl, rfl, ?_⟩)
      simp [defend, hd, buildReply, hf, fillSlot, destOfPath, hp, State.queued, State.setReply]

/-! ### The hold queue -/

/-- Filling blocks keeps the size of the pool. -/
theorem fillBlocks_length (bs : List Nat) (f : Frame) (pool : List Frame) :
    (fillBlocks bs f pool).length = pool.length := by
  induction bs generalizing f pool with
  | nil => rfl
  | cons b rest ih => simp [fillBlocks, ih]

/-- Filling blocks leaves every other block as it is. -/
theorem fillBlocks_getElem?_of_not_mem {bs : List Nat} {k : Nat} (h : k ∉ bs) (f : Frame)
    (pool : List Frame) : (fillBlocks bs f pool)[k]? = pool[k]? := by
  induction bs generalizing f pool with
  | nil => rfl
  | cons b rest ih =>
    simp only [List.mem_cons, not_or] at h
    rw [fillBlocks, ih h.2, List.getElem?_set_ne (Ne.symm h.1)]

/-- What an append makes of the hold queue, and its serial, depend on the hold queue alone. -/
theorem holdAppend_congr_hold (o : Origin) (f : HeldFrame) {s t : State} (h : s.hold = t.hold) :
    (holdAppend o f s).1.hold = (holdAppend o f t).1.hold
      ∧ (holdAppend o f s).2 = (holdAppend o f t).2 := by
  simp only [holdAppend, bumpTimes_hold, State.setHold_hold, h]
  generalize (if o = .held then (t.hold, 0) else
    t.hold.makeRoom t.hold.records.length (blocksNeeded f.bytes.length)) = room
  split <;> simp

/-- A counter raised in states of one control unit. -/
theorem bump_congr_ctl (c : Counter) {s t : State} (h : s.ctl = t.ctl) : (bump c s).ctl = (bump c t).ctl := by
  simp [bump, State.setCtl, h]

/-- The same on a condition. -/
theorem bumpIf_congr_ctl (p : Bool) (c : Counter) {s t : State} (h : s.ctl = t.ctl) :
    (bumpIf p c s).ctl = (bumpIf p c t).ctl := by
  cases p
  · exact h
  · exact bump_congr_ctl c h

/-- The same a number of times. -/
theorem bumpTimes_congr_ctl (n : Nat) (c : Counter) {s t : State} (h : s.ctl = t.ctl) :
    (bumpTimes n c s).ctl = (bumpTimes n c t).ctl := by
  induction n generalizing s t with
  | zero => exact h
  | succ n ih => exact ih (bump_congr_ctl c h)

/-- What an append counts depends on the hold queue and the counters alone. -/
theorem holdAppend_congr_ctl (o : Origin) (f : HeldFrame) {s t : State} (h : s.hold = t.hold)
    (hc : s.ctl = t.ctl) : (holdAppend o f s).1.ctl = (holdAppend o f t).1.ctl := by
  simp only [holdAppend, bumpTimes_hold, State.setHold_hold, h]
  generalize (if o = .held then (t.hold, 0) else
    t.hold.makeRoom t.hold.records.length (blocksNeeded f.bytes.length)) = room
  split
  · exact bumpIf_congr_ctl _ _ (bumpTimes_congr_ctl _ _ hc)
  · exact bump_congr_ctl _ (bumpTimes_congr_ctl _ _ hc)

/-! ### Guard entry -/

/-- Whether a timer is one that `startSessionTimers` starts, for sessions from an index on. -/
def sessionStarts (i : Nat) (l : List Session) (j : Nat) : Bool :=
  decide (i ≤ j)
    && ((l.getD (j - i) Session.powerOn).valid && (l.getD (j - i) Session.powerOn).state == .armed)

/-- Whether a timer is one that `startAlarmTimers` starts, for alarms from an index on. -/
def alarmStarts (i : Nat) (l : List Alarm) (j : Nat) : Bool :=
  decide (8 + i ≤ j) && ((l.getD (j - 8 - i) Alarm.powerOn).valid)

/-- The starts of a list with a session at its front. -/
theorem sessionStarts_cons (i : Nat) (x : Session) (l : List Session) (j : Nat) :
    sessionStarts i (x :: l) j = ((j == i && (x.valid && x.state == .armed)) || sessionStarts (i+1) l j) := by
  unfold sessionStarts
  rcases Nat.lt_trichotomy j i with h | h | h
  · simp [Nat.not_le.2 h, show ¬ (i + 1 ≤ j) by omega, show j ≠ i by omega]
  · subst h; simp [Nat.not_succ_le_self]
  · obtain ⟨d, rfl⟩ : ∃ d, j = i + 1 + d := ⟨j - (i+1), by omega⟩
    simp [show i + 1 + d - i = d + 1 by omega, show i ≤ i + 1 + d by omega]
    intro h; omega

/-- The starts of a list with an alarm at its front. -/
theorem alarmStarts_cons (i : Nat) (x : Alarm) (l : List Alarm) (j : Nat) :
    alarmStarts i (x :: l) j = ((j == 8 + i && x.valid) || alarmStarts (i+1) l j) := by
  unfold alarmStarts
  rcases Nat.lt_trichotomy j (8 + i) with h | h | h
  · simp [Nat.not_le.2 h, show ¬ (8 + (i + 1) ≤ j) by omega, show j ≠ 8 + i by omega]
  · subst h; simp [Nat.not_succ_le_self]
  · obtain ⟨d, rfl⟩ : ∃ d, j = 8 + i + 1 + d := ⟨j - (8+i+1), by omega⟩
    simp [show 8 + i + 1 + d - 8 - i = d + 1 by omega, show 8 + i ≤ 8 + i + 1 + d by omega,
      show 8 + (i + 1) ≤ 8 + i + 1 + d by omega, show 8 + i + 1 + d - 8 - (i + 1) = d by omega]
    intro h; omega

/-- Guard entry's session timers: each that starts counts from its idle interval, FROZEN on a DOWN link, its
notices and answers are removed, and the rest of the bank is unchanged. -/
theorem startSessionTimers_eq (i : Nat) (l : List Session) (s : State) :
    startSessionTimers i l s = s.setBank
      { s.bank with
        timers :=
          s.bank.timers.mapIdx fun j t =>
            if sessionStarts i l j = true then
              ⟨if gated j && !s.linePort.up then .frozen else .running,
                (l.getD (j - i) Session.powerOn).idle, (l.getD (j - i) Session.powerOn).idle, none,
                .periodic, false⟩
            else t
        notices := s.bank.notices.filter fun n => !sessionStarts i l n.timer
        answers := s.bank.answers.filter fun t => !sessionStarts i l t } := by
  induction l generalizing i s with
  | nil =>
    have h : ∀ j, sessionStarts i [] j = false := by intro j; simp [sessionStarts, Session.powerOn]
    have : s.bank.timers.mapIdx (fun _ t => t) = s.bank.timers :=
      List.ext_getElem (by simp) fun _ _ _ => by simp
    simp [startSessionTimers, h, this, State.setBank, List.filter_eq_self.2]
  | cons x l ih =>
    rw [startSessionTimers, ih]
    by_cases h : x.valid = true ∧ x.state = .armed
    · rw [if_pos h]
      simp only [startTimer, State.setBank, List.filter_filter, State.mk.injEq, TimerBank.mk.injEq,
        true_and, and_true]
      refine ⟨?_, ?_, ?_⟩
      · apply List.ext_getElem (by simp)
        intro j h1 h2
        simp only [List.getElem_mapIdx, List.getElem_modify]
        simp only [sessionStarts_cons]
        rcases Nat.lt_trichotomy j i with g | g | g
        · simp [show ¬ j = i by omega, show ¬ i = j by omega, sessionStarts, show ¬ (i + 1 ≤ j) by omega]
        · subst g; simp [h, sessionStarts, Nat.not_succ_le_self]
        · obtain ⟨d, rfl⟩ : ∃ d, j = i + 1 + d := ⟨j - (i+1), by omega⟩
          simp [show ¬ (i + 1 + d = i) by omega, show ¬ (i = i + 1 + d) by omega,
            show i + 1 + d - i = d + 1 by omega]
      · congr 1; funext n; simp [sessionStarts_cons, h]; cases sessionStarts (i + 1) l n.timer <;> simp [bne]
      · congr 1; funext n; simp [sessionStarts_cons, h]; cases sessionStarts (i + 1) l n <;> simp [bne]
    · rw [if_neg h]
      have h' : (x.valid && x.state == .armed) = false := by simpa using h
      simp only [State.setBank, State.mk.injEq, TimerBank.mk.injEq, true_and, and_true]
      refine ⟨?_, ?_, ?_⟩
      · apply List.ext_getElem (by simp)
        intro j h1 h2
        simp only [List.getElem_mapIdx, sessionStarts_cons, h', Bool.and_false, Bool.false_or]
        rcases Nat.lt_or_ge i j with g | g
        · obtain ⟨d, rfl⟩ : ∃ d, j = i + 1 + d := ⟨j - (i+1), by omega⟩
          simp [show i + 1 + d - i = d + 1 by omega]
        · simp [sessionStarts, show ¬ (i + 1 ≤ j) by omega]
      · simp [sessionStarts_cons, h']
      · simp [sessionStarts_cons, h']

/-- Guard entry's alarm timers: each that starts counts from its alarm's count in its alarm's mode, its notices
and answers are removed, and the rest of the bank is unchanged. -/
theorem startAlarmTimers_eq (i : Nat) (l : List Alarm) (s : State) :
    startAlarmTimers i l s = s.setBank
      { s.bank with
        timers :=
          s.bank.timers.mapIdx fun j t =>
            if alarmStarts i l j = true then
              ⟨.running, (l.getD (j - 8 - i) Alarm.powerOn).count,
                (l.getD (j - 8 - i) Alarm.powerOn).count, none, (l.getD (j - 8 - i) Alarm.powerOn).mode,
                false⟩
            else t
        notices := s.bank.notices.filter fun n => !alarmStarts i l n.timer
        answers := s.bank.answers.filter fun t => !alarmStarts i l t } := by
  induction l generalizing i s with
  | nil =>
    have h : ∀ j, alarmStarts i [] j = false := by intro j; simp [alarmStarts, Alarm.powerOn]
    have : s.bank.timers.mapIdx (fun _ t => t) = s.bank.timers :=
      List.ext_getElem (by simp) fun _ _ _ => by simp
    simp [startAlarmTimers, h, this, State.setBank, List.filter_eq_self.2]
  | cons x l ih =>
    rw [startAlarmTimers, ih]
    by_cases h : x.valid = true
    · rw [if_pos h]
      simp only [startTimer, State.setBank, List.filter_filter, State.mk.injEq, TimerBank.mk.injEq,
        true_and, and_true]
      refine ⟨?_, ?_, ?_⟩
      · apply List.ext_getElem (by simp)
        intro j h1 h2
        simp only [List.getElem_mapIdx, List.getElem_modify]
        simp only [alarmStarts_cons]
        rcases Nat.lt_trichotomy j (8 + i) with g | g | g
        · simp [show ¬ j = 8 + i by omega, alarmTimer, show ¬ 8 + i = j by omega, alarmStarts,
            show ¬ (8 + (i + 1) ≤ j) by omega]
        · subst g; simp [h, alarmStarts, alarmTimer, gated, show ¬8 + (i + 1) ≤ 8 + i by omega,
            show ¬8 + i < 8 by omega]
        · obtain ⟨d, rfl⟩ : ∃ d, j = 8 + i + 1 + d := ⟨j - (8+i+1), by omega⟩
          simp [alarmTimer, show ¬ (8 + i + 1 + d = 8 + i) by omega, show ¬ (8 + i = 8 + i + 1 + d) by omega,
            show 8 + i + 1 + d - 8 - i = d + 1 by omega,
            show 8 + i + 1 + d - 8 - (i + 1) = d by omega]
      · congr 1; funext n; simp [alarmStarts_cons, h, alarmTimer]
        cases alarmStarts (i + 1) l n.timer <;> simp [bne]
      · congr 1; funext n; simp [alarmStarts_cons, h, alarmTimer]; cases alarmStarts (i + 1) l n <;> simp [bne]
    · rw [if_neg h]
      have h' : x.valid = false := by simpa using h
      simp only [State.setBank, State.mk.injEq, TimerBank.mk.injEq, true_and, and_true]
      refine ⟨?_, ?_, ?_⟩
      · apply List.ext_getElem (by simp)
        intro j h1 h2
        simp only [List.getElem_mapIdx, alarmStarts_cons, h', Bool.and_false, Bool.false_or]
        rcases Nat.lt_or_ge (8 + i) j with g | g
        · obtain ⟨d, rfl⟩ : ∃ d, j = 8 + i + 1 + d := ⟨j - (8+i+1), by omega⟩
          simp [show 8 + i + 1 + d - 8 - i = d + 1 by omega, show 8 + i + 1 + d - 8 - (i + 1) = d by omega]
        · simp [alarmStarts, show ¬ (8 + (i + 1) ≤ j) by omega]
      · simp [alarmStarts_cons, h']
      · simp [alarmStarts_cons, h']

/-! ### Commands -/

/-- A command of this code and length at the head is taken, acted on and answered. -/
theorem takeCommand_of_offers {s : State} {f : Frame} {rest : List Frame} {code length : Nat}
    (act : Frame → State → Answer) (h : Offers s f rest code length) :
    takeCommand code length act s =
      respond (readControl f) (act (bodyOf f) { s with sys := { s.sys with rx := rest } }) := by
  obtain ⟨hr, hn, hc, hv, hk, hcode, hl, hp⟩ := h
  have hh : controlHead s = some (readControl f) := by simp [controlHead, hr, hn, hc]
  have ht : takeHead s = { s with sys := { s.sys with rx := rest } } := by
    simp [takeHead, hr, State.setSys]
  simp only [takeCommand, hh, ControlHeader.isCommand, hv, hk, hcode, ht, bodyOf]
  simp [hl, Nat.not_lt.mpr hp]

/-- A refusal of that command leaves the state and answers with the status alone. -/
theorem respond_refuse (f : Frame) (status : Status) (rest : List Frame) (s : State) :
    respond (readControl f) (.refuse status { s with sys := { s.sys with rx := rest } }) =
      s.answered f rest status [] := rfl

/-- A command done leaves its state and answers OK with a body. -/
theorem respond_done (f body : Frame) (rest : List Frame) (s : State) :
    respond (readControl f) (.done body { s with sys := { s.sys with rx := rest } }) =
      s.answered f rest .ok body := rfl

end Sys2Proof.Machine
end

