-- ==== Sys2Proof/Tests/Builders.lean ====
section
/-! SUPPORT. Small states and frames for the tests, in the values of the spec's own examples. -/

namespace Sys2Proof.Tests

open Sys2Proof.Machine

/-! ### Values of the spec's examples (2.4, 3.7, 6.7) -/

/-- The laptop's MAC. -/
def hostMac : Mac := 0x025A1033C407
/-- Another station's MAC. -/
def peerMac : Mac := 0x02773E01902C
/-- The address of identity 2. -/
def ip2 : BitVec 32 := 0x0A14041F
/-- The remote address of session 1. -/
def gateway : BitVec 32 := 0x0A140007
/-- The address of identity 5. -/
def ip5 : BitVec 128 := 0x20010DB80040000000000000001234A1

/-- The default configuration with the laptop's MAC. -/
def conf : ConfigRecord := { ConfigRecord.powerOn with hostMac := hostMac }

/-- Identity 2 with all its flags. -/
def identity2 : Identity := ⟨true, .v4 ip2, true, true, true, 3, .ready, 0⟩
/-- Identity 5 with all its flags. -/
def identity5 : Identity := ⟨true, .v6 ip5, true, true, true, 6, .ready, 0⟩

/-- Session 1 of the example of 6.7. -/
def session1 : Session :=
  { Session.powerOn with
    valid := true
    localId := 2
    localPort := 51200
    remote := .v4 gateway
    remotePort := 443
    nextHop := 0x0200000000AA
    snd := 0
    rcv := 0x3C1D8E42
    window := 0x0200
    missLimit := 3
    dataCls := 6
    endCls := 6
    deadCls := 4
    ts := some ⟨0xFFFFFF00, 0x5A3C0001, 1000⟩
    lastPeer := 0x5A3C0001
    state := .armed }

/-- The name ws-4417.local in wire form. -/
def wsName : Frame :=
  [7, 0x77, 0x73, 0x2D, 0x34, 0x34, 0x31, 0x37, 5, 0x6C, 0x6F, 0x63, 0x61, 0x6C, 0]

/-- Entry 0 of the name table in the example of 5.5. -/
def name0 : NameEntry := ⟨true, wsName, 0b101100, 120, 0⟩

/-- A valid alarm. -/
def alarm0 : Alarm := ⟨true, 960, .periodic, 5, .idle⟩

/-- A valid entry with one term. -/
def entry (field : Nat) (value mask : BitVec 32) (action : Action) (cls : Nat) (fallback : Disposal) :
    MatchEntry :=
  ⟨true, [some ⟨field, value, mask⟩, none, none, none], action, cls, fallback, 0⟩

/-- A match table: ARP to the address responder, session segments to the keepalive unit, an EtherType to be
held, one to be dropped, and one to wake. -/
def table : List MatchEntry :=
  [entry 2 1 7 .answerAddress 3 .drop, entry 10 0 8 .answerSession 6 .hold,
    entry 1 0x9999 0xFFFF .hold 5 .drop, entry 1 0x9998 0xFFFF .drop 5 .drop,
    entry 1 0x9997 0xFFFF .wake 5 .drop]

/-! ### States -/

/-- The tables loaded, in PASS, with the link and system-ready as given. -/
def base (up ready : Bool) : State :=
  { State.reset with
    linePort := ⟨up, false⟩
    guardPath :=
      { State.reset.guardPath with
        listed :=
          deriveListed ((State.reset.identities.set 2 identity2).set 5 identity5) conf }
    matchTable := table ++ List.replicate 43 MatchEntry.powerOn
    identities := (State.reset.identities.set 2 identity2).set 5 identity5
    names := State.reset.names.set 0 name0
    sessions := State.reset.sessions.set 1 session1
    bank := { State.reset.bank with alarms := State.reset.bank.alarms.set 0 alarm0 }
    sys := { State.reset.sys with ready := ready }
    ctl := { State.reset.ctl with cfg := conf } }

/-- The loaded part in PASS with the link up and system-ready high. -/
def idle : State := base true true

/-- A state in a mode, the wake line at rest. -/
def inMode (m : Mode) (s : State) : State :=
  { s with modeCtl := ModeCtl.atRest m }

/-- The loaded part in GUARD, session 1 in a state with its timer running. -/
def guarded (x : SessionState) (count : Nat) : State :=
  { base true false with
    modeCtl := ModeCtl.atRest .guard
    sessions := State.reset.sessions.set 1 { session1 with state := x }
    bank :=
      { State.reset.bank with
        timers := State.reset.bank.timers.set 1 ⟨.running, count, 4800, none, .periodic, false⟩
        alarms := State.reset.bank.alarms.set 0 { alarm0 with state := .running } } }

/-- A configuration in place of the other. -/
def withConfig (c : ConfigRecord) (s : State) : State :=
  { s with ctl := { s.ctl with cfg := c } }

/-- The part in WAKING with a wake line's state. -/
def waking (active : Bool) (sub : WakeSub) (retry : Nat) (pulse window : Option Nat) (s : State) :
    State :=
  { s with modeCtl := ⟨.waking, active, sub, retry, pulse, window⟩ }

/-! ### Frames -/

/-- A control frame of a command. -/
def command (version kind code length : Nat) (body : Frame) : Frame :=
  padTo 60
    (macBytes Config.controlMac ++ macBytes hostMac ++ toBytes 2 0x88B5 ++ toBytes 1 version
      ++ toBytes 1 kind ++ toBytes 1 code ++ [0, 0, 0x31] ++ toBytes 2 length ++ body)

/-- A command of its own length. -/
def frameOf (code : Nat) (body : Frame) : Frame := command 1 1 code body.length body

/-- A state with frames in the receive FIFO. -/
def offering (fs : List Frame) (s : State) : State :=
  { s with sys := { s.sys with rx := fs } }

/-- An Ethernet frame without FCS, padded. -/
def ether (dst src : Mac) (etype : Nat) (payload : Frame) : Frame :=
  padTo 60 (macBytes dst ++ macBytes src ++ toBytes 2 etype ++ payload)

/-- A frame with VID 20's tag. -/
def tagged (f : Frame) : Frame := f.take 12 ++ [0x81, 0, 0, 20] ++ f.drop 12

/-- An ARP frame to the broadcast address (RFC 826). -/
def arp (op : Nat) (sender target : BitVec 32) : Frame :=
  ether Config.broadcastMac peerMac 0x0806
    ([0, 1, 8, 0, 6, 4] ++ toBytes 2 op ++ macBytes peerMac ++ toBytes 4 sender.toNat
      ++ List.replicate 6 0 ++ toBytes 4 target.toNat)

/-- An IPv4 packet with a transport segment (RFC 791). -/
def packet4 (proto : Nat) (src dst : BitVec 32) (payload : Frame) : Frame :=
  ipv4Packet conf 0 proto src dst payload

/-- A TCP segment between session 1's endpoints (RFC 9293), from the remote or from the laptop. -/
def segment (out : Bool) (flags : Nat) (seq ack : BitVec 32) (options data : Frame) : Frame :=
  let n := 20 + options.length
  let src := if out then ip2 else gateway
  let dst := if out then gateway else ip2
  packet4 6 src dst
    (withChecksum (pseudoHeader (.v4 src) (.v4 dst) (n + data.length) 6)
      ((if out then toBytes 2 51200 ++ toBytes 2 443 else toBytes 2 443 ++ toBytes 2 51200)
        ++ toBytes 4 seq.toNat ++ toBytes 4 ack.toNat ++ toBytes 1 (n / 4 * 16) ++ toBytes 1 flags
        ++ [2, 0])
      ([0, 0] ++ options ++ data) id)

/-- A segment from session 1's remote to the laptop. -/
def fromPeer (flags : Nat) (seq ack : BitVec 32) (data : Frame) : Frame :=
  ether hostMac peerMac 0x0800 (segment false flags seq ack [] data)

/-- A frame as the parser leaves it at the classifier. -/
def parsedAs (path : Path) (f : Frame) (s : State) : ParsedFrame :=
  ⟨f, 7, path, (parseFrame (s.parseContext true) f).fv, (parseFrame (s.parseContext true) f).pos⟩

/-- A state with a frame at the classifier. -/
def atClassifier (path : Path) (f : Frame) (s : State) : State :=
  { s with guardPath := { s.guardPath with parsed := some (parsedAs path f s) } }

/-- A state with frames in the guard-path input FIFO. -/
def waiting (fs : List GuardItem) (s : State) : State :=
  { s with guardPath := { s.guardPath with fifo := fs } }

/-- A state with requests on their way. -/
def asking (rs : List WakeRequest) (s : State) : State :=
  { s with wake := { s.wake with requests := rs } }

/-- A frame on its way to the laptop. -/
def someFrame : HeldFrame := ⟨ether hostMac peerMac 0x9997 [], 7⟩

/-- The configuration of the PULSE example of chapter 1. -/
def pulseConf : ConfigRecord :=
  { conf with wakeMode := .pulse, pulseWidth := 8, resumeWindow := 48, retryLimit := 1 }

/-- The wake controller of 9.8 with its pressure, in GUARD. -/
def pressed (p : Nat) (st : PressureState) (r : WakeRequest) : State :=
  { asking [r] (guarded .alive 4800) with
    wake := { WakeCtl.powerOn with pressure := p, pstate := st, requests := [r] }
    hold := { HoldQueue.powerOn with serial := 412 } }

/-- Session 1 in GUARD, its timer's expiry on its way at a guard elapsed count. -/
def expired (x : SessionState) (miss : Nat) (elapsed : BitVec 32) : State :=
  { guarded x 0 with
    sessions := State.reset.sessions.set 1 { session1 with state := x, miss := miss }
    bank :=
      { (guarded x 0).bank with
        elapsed := elapsed
        timers := State.reset.bank.timers.set 1 ⟨.running, 0, 160, none, .periodic, true⟩
        notices := [⟨1, false⟩] } }

/-- A record of the hold queue, stored whole. -/
def record (serial : BitVec 16) (o : Origin) (n : Nat) (loss : BitVec 8) (blocks : List Nat) :
    HoldRecord :=
  ⟨serial, o, 5, n, n, loss, blocks⟩

/-- A state with records in the hold queue and a stage of the head's delivery. -/
def holding (rs : List HoldRecord) (stage : HoldStage) (s : State) : State :=
  { s with hold := { s.hold with records := rs, stage := stage, serial := 51 } }

/-- A state with a frame handed to the hold queue. -/
def handing (o : Origin) (n : Nat) (s : State) : State :=
  { s with hold := { s.hold with appends := [⟨⟨List.replicate n 9, 5⟩, o⟩] } }

/-- A state whose four slots hold frames for the line, slot 0 next. -/
def slotsFull (s : State) : State :=
  { s with
    reply :=
      { s.reply with
        slots := List.replicate 4 ⟨.queued, .line, .answer, none, List.replicate 60 0⟩
        queue := [0, 1, 2, 3] } }

/-- A state with slot 0 in transmission. -/
def sendingSlot (s : State) : State :=
  { s with
    reply :=
      { s.reply with slots := s.reply.slots.set 0 ⟨.sending, .line, .answer, none, []⟩ }
    arb := ⟨some (.reply 0), .reply⟩ }

/-- A command answers a next state that has a property. -/
def leaves (r : Result) (p : State → Bool) : Bool :=
  match r with
  | .next t => p t
  | _ => false

end Sys2Proof.Tests
end

