-- ==== Sys2Proof/WellFormed.lean ====
section
/-! DEFINITION. When a command is well formed: the index it carries exists. -/

namespace Sys2Proof

/-- A command's operand names something the part has: a session 0..7 (R97), a timer 0..11 (R145), an
alarm 0..3 (R150). Every other operand is meaningful at any value. -/
def Instr.wellFormed : Instr → Bool
  | .sessionTimerExpiry i => decide (i < Config.sessionEntries)
  | .expiryAnswer t => decide (t < Config.timerCount)
  | .alarmExpiry i => decide (i < Config.alarmEntries)
  | .powerOnReset => true
  | .softReset => true
  | .identify => true
  | .readStatus => true
  | .writeConfig => true
  | .readConfig => true
  | .writeMatch => true
  | .readMatch => true
  | .writeIdentity => true
  | .readIdentity => true
  | .writeName => true
  | .readName => true
  | .writeSession => true
  | .readSession => true
  | .writeAlarm => true
  | .readAlarm => true
  | .clearTable => true
  | .enterGuard => true
  | .leaveGuard => true
  | .readWakeRecord => true
  | .readCounters => true
  | .badControlFrame => true
  | .unknownCommand => true
  | .tick => true
  | .linkDown _ => true
  | .linkUp => true
  | .systemReadyRise => true
  | .systemReadyFall => true
  | .lineFrameReceived _ => true
  | .sysFrameReceived _ => true
  | .parseFrame => true
  | .classifyFrame => true
  | .quietIntervalEnd => true
  | .wakeRequest _ => true
  | .pulseEnd => true
  | .resumeWindowEnd => true
  | .holdAppend => true
  | .lineTxGrant => true
  | .lineTxDone => true
  | .systemFrameDiscard => true
  | .sysEgressGrant => true
  | .sysDeliveryDone => true

end Sys2Proof
end

