-- ==== Sys2Proof/Tests/Slice0.lean ====
section
/-! SUPPORT. Tests of the model, each of one step with a result that the spec states (its rule or example
stands beside it), and then, for every obligation with hypotheses, states and operands that meet them. -/

namespace Sys2Proof.Tests

open Sys2Proof.Machine

-- One theorem after the other: each evaluation in a thread of its own would take too much memory.
set_option Elab.async false

/-! ### Well-formedness refuses an index that names nothing -/

theorem test_session_index_refused :
    (Instr.sessionTimerExpiry 8).wellFormed = false ∧ (Instr.sessionTimerExpiry 7).wellFormed = true := by
  decide

theorem test_timer_index_refused :
    (Instr.expiryAnswer 12).wellFormed = false ∧ (Instr.expiryAnswer 11).wellFormed = true := by decide

theorem test_alarm_index_refused :
    (Instr.alarmExpiry 4).wellFormed = false ∧ (Instr.alarmExpiry 3).wellFormed = true := by decide

/-- The table gives no row any bits, so no word spells a command. -/
theorem test_no_word_spells_a_command : decodeTableWord 8 0x21 = none := by decide

/-! ### Arithmetic: the worked figures of 7.7 -/

/-- 7.7: the header of a 40-byte probe from 192.168.1.10 to 192.168.1.1, identification 7, has 0xB76D. -/
theorem test_header_checksum :
    beNat (ipv4Packet conf 7 6 0xC0A8010A 0xC0A80101 (List.replicate 20 0)) 10 2 = 0xB76D := by
  decide +kernel

/-- 7.7: the echo updates of 0x1C46 and of 0xF7FF. -/
theorem test_echo_updates :
    updatedChecksum 0x1C46 0x0800 0 = 0x2446 ∧ updatedChecksum 0x1C46 0x8000 0x8100 = 0x1B46
      ∧ updatedChecksum 0xF7FF 0x0800 0 = 0
      ∧ beNat (echoMessage (.v4 0) [8, 0, 0xF7, 0xFF, 0, 0, 0, 0]) 2 2 = 0xFFFF := by
  decide +kernel

/-- 7.7: the six rows of the timestamp table. -/
theorem test_timestamps :
    tsValue ⟨0xFFFFFF00, 0, 1000⟩ 20 = 0x3E2 ∧ tsValue ⟨0xFFFFFF00, 0, 1000⟩ 0 = 0xFFFFFF00
      ∧ tsValue ⟨0x00010000, 0, 1⟩ 20 = 0x00010001 ∧ tsValue ⟨0x00010000, 0, 1⟩ 31 = 0x00010001
      ∧ tsValue ⟨0x00010000, 0, 1⟩ 32 = 0x00010002
      ∧ tsValue ⟨0x80000000, 0, 1000⟩ 0xFFFFFFFF = 0xFFFFFFC1 := by
  decide

/-- R133: an odd last byte is a high byte, and carries fold until the number fits. -/
theorem test_ones_sum : onesSum [0xFF, 0xFF, 0x00, 0x01, 0x80] = 0x8001 := by decide +kernel

/-! ### Parsing: the frames of 2.4 -/

/-- The configuration of 2.4, with VID 20. -/
def guard20 : State :=
  withConfig { conf with vid := 20 } (guarded .alive 4800)

/-- Frame A of 2.4: a tagged acknowledgement of session 1 with a timestamp option. -/
def frameA : Frame :=
  tagged (macBytes hostMac ++ macBytes peerMac ++ [8, 0]
    ++ segment false 16 0x3C1D8E42 0 [1, 1, 8, 10, 1, 0x19, 0xAA, 0xF0, 0, 0, 0, 0] [])

/-- 2.4: the field vector of frame A. -/
theorem test_parse_frame_a :
    (List.range 16).map (parseFrame (guard20.parseContext true) frameA).fv.get
      = [0, 0x0800, 2, 2, 6, 443, 51200, 16, 0, 0, 1, 0, 0, 0, 0, 0x0A140007] := by
  decide +kernel

/-- Frame C of 2.4: a tagged neighbour solicitation for identity 5. -/
def frameC : Frame :=
  tagged (macBytes 0x3333FF1234A1 ++ macBytes peerMac ++ [0x86, 0xDD]
    ++ ipv6Packet 255 58 0xFE800000000000000000000000000099 0xFF0200000000000000000001FF1234A1
        ([135, 0, 0, 0, 0, 0, 0, 0] ++ toBytes 16 ip5.toNat ++ [1, 1] ++ macBytes peerMac))

/-- 2.4: the field vector of frame C. -/
theorem test_parse_frame_c :
    (List.range 16).map (parseFrame (guard20.parseContext true) frameC).fv.get
      = [2, 0x86DD, 3, 5, 58, 0, 0, 0, 135, 0, 15, 24, 0x20010DB8, 0, 0, 0] := by
  decide +kernel

/-- 2.4, frame D: the walk stops at the third extension header, a routing header. -/
theorem test_parse_stops_at_third_extension :
    (parseFrame (guard20.parseContext true)
        (tagged (macBytes hostMac ++ macBytes peerMac ++ [0x86, 0xDD]
          ++ ipv6Packet 64 0 1 ip5
              ([60, 0, 0, 0, 0, 0, 0, 0, 43, 0, 0, 0, 0, 0, 0, 0, 6] ++ List.replicate 20 0)))).fv
      = ⟨.own, 0x86DD, .ipv6, 5, 43, 0, 0, 0, 0, 0, 15, 0, 0, .whole, .deep, 0⟩ := by
  decide +kernel

/-- 2.4, frame E: a bad header checksum stops the parser after SRC4, PROTO and DSTID. -/
theorem test_parse_bad_header_sum :
    (parseFrame (guard20.parseContext true)
        (tagged (macBytes hostMac ++ macBytes peerMac ++ [8, 0]
          ++ (packet4 6 0x0A140009 0x0A140463 (List.replicate 20 1)).set 10 0))).fv
      = ⟨.own, 0x0800, .ipv4, 15, 6, 0, 0, 0, 0, 0, 15, 0, 0, .whole, .badHdrSum, 0x0A140009⟩ := by
  decide +kernel

/-- 2.4, frame B: untagged, it fails the VLAN filter against VID 20. -/
theorem test_vlan_foreign :
    (leaves (exec (.lineFrameReceived ⟨ether hostMac peerMac 0x86DD [] ++ [0, 0, 0, 0], true, false, false⟩)
        guard20) fun t =>
        decide (t.counter .rxVlanForeign = 1
          ∧ t.counter .rxGood = 0
          ∧ t.guardPath.fifo = [])) = true := by
  decide +kernel

/-! ### Guard entry and the wake line -/

/-- 11.5: session 3 names an identity that is not valid, so ENTER_GUARD answers BAD_INDEX with body 3. -/
theorem test_enter_guard_names_the_session :
    (leaves (exec .enterGuard
        { offering [frameOf 0x10 []] idle with
          sessions := idle.sessions.set 3 { session1 with localId := 7 } }) fun t =>
        decide (t.modeCtl.mode = .pass
          ∧ (t.ctl.response.map fun f => (f.drop 14).take 9)
            = some [1, 2, 0x10, 3, 0, 0x31, 0, 1, 3])) = true := by
  decide +kernel

/-- 11.5: the accepted ENTER_GUARD leaves session 1 ALIVE with its timer started. -/
theorem test_enter_guard_starts_the_session :
    (leaves (exec .enterGuard (offering [frameOf 0x10 []] idle)) fun t =>
        decide (t.modeCtl.mode = .guard
          ∧ (t.session 1).state = .alive
          ∧ t.timer 1 = ⟨.running, 4800, 4800, none, .periodic, false⟩
          ∧ t.bank.elapsed = 0)) = true := by
  decide +kernel

/-- Chapter 1, the PULSE example: at tick 48 the window ends below the limit and a further pulse begins. -/
theorem test_further_pulse :
    (leaves (exec .resumeWindowEnd (withConfig pulseConf (waking false .gap 0 none (some 0) idle))) fun t =>
        decide (t.modeCtl = ⟨.waking, true, .asserted, 1, some 8, some 48⟩)) = true := by
  decide +kernel

/-- Chapter 1, the PULSE example: at tick 96 the retry limit is reached. -/
theorem test_unanswered :
    (leaves (exec .resumeWindowEnd (withConfig pulseConf (waking false .gap 1 none (some 0) idle))) fun t =>
        decide (t.modeCtl = ⟨.waking, false, .unanswered, 1, none, none⟩
          ∧ t.counter .wakeUnanswered = 1)) = true := by
  decide +kernel

/-- Chapter 1, the PULSE example: a class-6 frame in UNANSWERED begins a fresh cycle and is a FOLLOWER. -/
theorem test_fresh_cycle :
    (leaves (exec (.wakeRequest 0)
        (asking [⟨6, .frameMatch, 4, some someFrame, false⟩]
          (withConfig pulseConf (waking false .unanswered 1 none none (base true false))))) fun t =>
        decide (t.modeCtl = ⟨.waking, true, .asserted, 0, some 8, some 48⟩
          ∧ (t.hold.records.map fun r => r.origin) = [.follower])) = true := by
  decide +kernel

/-! ### Wake policy: the example of 9.8 -/

/-- 9.8, e1: 370 + 16 reaches L, so the lock is latched and P is H; the record holds P and the serial. -/
theorem test_lock :
    (leaves (exec (.wakeRequest 0)
        (pressed 370 .restrained ⟨7, .frameMatch, 9, some someFrame, false⟩)) fun t =>
        decide (t.wake.pressure = 128
          ∧ t.wake.pstate = .locked
          ∧ t.modeCtl.mode = .waking
          ∧ (t.wake.record.map fun k => (k.cls, k.source, k.pressure, k.trigger, k.later))
            = some (7, 9, 370, some 412, 0))) = true := by
  decide +kernel

/-- 9.8, e3: class 5 under the lock is suppressed and its frame held so. -/
theorem test_suppressed :
    (leaves (exec (.wakeRequest 0)
        (pressed 108 .locked ⟨5, .frameMatch, 9, some someFrame, false⟩)) fun t =>
        decide (t.wake.pressure = 108
          ∧ t.wake.deferred = 5
          ∧ t.modeCtl.mode = .guard
          ∧ t.counter .wakeSuppressed = 1
          ∧ (t.hold.records.map fun r => r.origin) = [.suppressed])) = true := by
  decide +kernel

/-- 9.8: at P 0 the lock opens, and the deferred class 5 asserts a wake of cause DEFERRED in that event. -/
theorem test_deferred_wake :
    (leaves (exec .quietIntervalEnd
        { guarded .alive 4800 with
          wake :=
            { WakeCtl.powerOn with
              pressure := 1, pstate := .locked, quiet := 959, tickHeld := true, deferred := 5 } }) fun t =>
        decide (t.wake.pressure = 16
          ∧ t.wake.pstate = .openState
          ∧ t.wake.deferred = 0
          ∧ t.modeCtl.mode = .waking
          ∧ (t.wake.record.map fun k => (k.cause, k.cls, k.pressure, k.trigger))
            = some (.deferred, 5, 0, none))) = true := by
  decide +kernel

/-- 9.8, the shorter case: from RESTRAINED the fall below S lets class 3 wake. -/
theorem test_deferred_from_restrained :
    (leaves (exec .quietIntervalEnd
        { guarded .alive 4800 with
          wake :=
            { WakeCtl.powerOn with
              pressure := 192, pstate := .restrained, quiet := 959, tickHeld := true
              deferred := 3 } }) fun t =>
        decide (t.wake.pressure = 207
          ∧ t.wake.pstate = .restrained
          ∧ t.modeCtl.mode = .waking)) = true := by
  decide +kernel

/-! ### Sessions: the examples of 6.7 -/

/-- 6.7: at E = 4,800 the first probe is built, TSval 0x000492E0, TSecr 0x5A3C0001, sequence number
SND − 1. -/
theorem test_first_probe :
    (leaves (exec (.sessionTimerExpiry 1) (expired .alive 0 4800)) fun t =>
        decide ((t.session 1).state = .probing
          ∧ (t.timer 1).staged = some 160
          ∧ (t.slot 0).state = .queued
          ∧ beNat (t.slot 0).frame 38 4 = 0xFFFFFFFF
          ∧ beNat (t.slot 0).frame 58 4 = 0x000492E0
          ∧ beNat (t.slot 0).frame 62 4 = 0x5A3C0001)) = true := by
  decide +kernel

/-- 6.7: the third expiry in PROBING reaches the miss limit: DEAD, with a request of class 4. -/
theorem test_dead :
    (leaves (exec (.sessionTimerExpiry 1) (expired .probing 2 5280)) fun t =>
        decide ((t.session 1).state = .dead
          ∧ (t.session 1).miss = 3
          ∧ (t.timer 1).state = .stopped
          ∧ t.wake.requests = [⟨4, .sessionDead, 1, none, false⟩])) = true := by
  decide +kernel

/-- Session 1 as session 4 of 6.7, with a segment of its peer at the classifier. -/
def judged (flags : Nat) (seq ack : BitVec 32) (data : Frame) : State :=
  let s :=
    { guarded .alive 4800 with
      sessions :=
        State.reset.sessions.set 1
          { session1 with state := .alive, ts := none, rcv := 0, snd := 0x00A3F100 } }
  atClassifier .guardPath (fromPeer flags seq ack data) s

/-- 6.7, s1: RCV − 1 is answered with an ACK of sequence number SND. -/
theorem test_segment_answered :
    (leaves (exec .classifyFrame (judged 16 0xFFFFFFFF 0x00A3F100 [])) fun t =>
        decide ((t.slot 0).kind = .ack
          ∧ beNat (t.slot 0).frame 38 4 = 0x00A3F100
          ∧ beNat (t.slot 0).frame 42 4 = 0
          ∧ t.counter .acksSent = 1)) = true := by
  decide +kernel

/-- 6.7, s7: the last byte is one beyond RCV, so the session is HANDED and the frame passed on. -/
theorem test_segment_handed :
    (leaves (exec .classifyFrame (judged 24 0xFFFFFFF0 0 (List.replicate 17 1))) fun t =>
        decide ((t.session 1).state = .handed
          ∧ (t.wake.requests.map fun r => (r.cls, r.cause, r.source)) = [(6, .sessionData, 1)])) = true := by
  decide +kernel

/-! ### Time: the example of 8.5, and a link loss, 7.8 -/

/-- 8.5: an alarm's request captures the tick count after its wrap. -/
theorem test_tick_count_wraps :
    (leaves (exec (.wakeRequest 0)
        { asking [⟨3, .alarm, 0, none, false⟩] (guarded .alive 4800) with
          bank := { (guarded .alive 4800).bank with tick := 0xFFFF8000 + 57600, elapsed := 57600 } }) fun t =>
        decide ((t.wake.record.map fun k => (k.tick, k.elapsed, k.cause))
          = some (0x00006100, 57600, .alarm))) = true := by
  decide +kernel

/-- R147: with the count at 1 the tick expires the timer and its notice is on its way. -/
theorem test_tick_expires :
    (leaves (exec .tick (guarded .alive 1)) fun t =>
        decide (t.timer 1 = ⟨.running, 0, 4800, none, .periodic, true⟩
          ∧ t.bank.notices = [⟨1, false⟩])) = true := by
  decide +kernel

/-- The four slots of 7.8 in use for the line, slot 1 in transmission, session 1 waiting to probe. -/
def beforeLoss : State :=
  { slotsFull (guarded .probing 10) with
    probes := [1]
    reply :=
      { (slotsFull idle).reply with
        slots := (slotsFull idle).reply.slots.modify 1 fun x => { x with state := .sending }
        queue := [0, 2, 3] }
    arb := ⟨some (.reply 1), .reply⟩ }

/-- 7.8: the link loss discards four replies, slot 0 goes to the session that waits, the rest stay FREE. -/
theorem test_link_loss_slots :
    (leaves (exec (.linkDown none) beforeLoss) fun t =>
        decide ((t.reply.slots.map fun x => (x.state, x.session))
              = [(.queued, some 1), (.free, none), (.free, none), (.free, none)]
          ∧ t.reply.queue = [0]
          ∧ t.probes = []
          ∧ t.arb.tx = none
          ∧ t.counter .replyDiscarded = 4)) = true := by
  decide +kernel

/-- R28: the link loss freezes the session timer, sets the latch and requests the link-lost class. -/
theorem test_link_loss_timers :
    (leaves (exec (.linkDown none) beforeLoss) fun t =>
        decide (t.timer 1 = ⟨.frozen, 10, 4800, none, .periodic, false⟩
          ∧ t.linePort = ⟨false, true⟩
          ∧ t.wake.requests = [⟨7, .linkLost, 0, none, false⟩])) = true := by
  decide +kernel

/-! ### The hold queue: the example of 10.5 -/

/-- The list of 10.5 before a1, in WAKING. -/
def eleven : State :=
  inMode .waking
    (holding
      ([record 40 .held 1518 0 [0, 1, 2, 3, 4, 5], record 41 .held 300 0 [6, 7],
          record 42 .trigger 1518 0 [8, 9, 10, 11, 12, 13]]
        ++ (List.range 8).map fun k =>
            record (43 + BitVec.ofNat 16 k) .follower 1518 0 ((List.range 6).map fun j => 14 + 6 * k + j))
      .idle idle)

/-- 10.5, a1: record 40 is evicted and the frame stored whole in five blocks. -/
theorem test_append_evicts :
    (leaves (exec .holdAppend (handing .follower 1200 eleven)) fun t =>
        decide ((t.hold.records.head?.map fun r => r.serial) = some 41
          ∧ (t.hold.records.getLast?.map fun r =>
          (r.serial, r.blocks, r.stored)) = some (51, [0, 1, 2, 3, 4], 1200)
          ∧ t.hold.freeBlocks.length = 3
          ∧ t.counter .holdEvicted = 1)) = true := by
  decide +kernel

/-- 10.5, a2 without a1: with 41 and 40 evicted and six blocks needed of ten free, nothing is clipped;
a frame of 3,000 bytes needs twelve and is clipped to ten. -/
theorem test_append_clips :
    (leaves (exec .holdAppend (handing .follower 3000 eleven)) fun t =>
        decide (t.hold.records.length = 10
          ∧ (t.hold.records.getLast?.map fun r =>
          (r.original, r.stored)) = some (3000, 2560)
          ∧ t.hold.freeBlocks.length = 0
          ∧ t.counter .holdEvicted = 2
          ∧ t.counter .holdClipped = 1)) = true := by
  decide +kernel

/-- 10.5: the first item of the drain is the head's HELD_RECORD notice. -/
theorem test_first_item :
    (leaves (exec .sysEgressGrant (inMode .drain eleven)) fun t =>
        decide ((t.sys.tx.map fun x => (x.item, (x.bytes.drop 14).take 3))
          = some (.holdNotice, [1, 3, 0x84]))) = true := by
  decide +kernel

/-- 10.5: the head's frame delivered, the head is removed and its six blocks are free. -/
theorem test_head_removed :
    (leaves (exec .sysDeliveryDone
        { inMode .drain (holding (eleven.hold.records.drop 2) .frame idle) with
          sys := { idle.sys with tx := some ⟨.holdFrame, []⟩ } }) fun t =>
        decide (t.hold.records.length = 8
          ∧ t.hold.freeBlocks.length = 16
          ∧ t.modeCtl.mode = .drain)) = true := by
  decide +kernel

/-! ### Responders: the examples of chapters 4 and 5 -/

/-- Chapter 4, g1: an ARP request for identity 2 is answered and counted. -/
theorem test_arp_answer :
    (leaves (exec .classifyFrame
        (atClassifier .guardPath (arp 1 0x0A14090E ip2) (guarded .alive 4800))) fun t =>
        decide ((t.slot 0).frame.take 42
            = macBytes peerMac ++ macBytes hostMac ++ [8, 6, 0, 1, 8, 0, 6, 4, 0, 2] ++ macBytes hostMac
              ++ [10, 20, 4, 31] ++ macBytes peerMac ++ [10, 20, 9, 14]
          ∧ t.counter .answerArp = 1)) = true := by
  decide +kernel

/-- Chapter 4, g4: an ARP probe for identity 2 builds a defence, conflicts the identity and detaches
session 1. -/
theorem test_arp_probe_conflict :
    (leaves (exec .classifyFrame
        (atClassifier .guardPath (arp 1 0 ip2) (guarded .alive 4800))) fun t =>
        decide ((t.identity 2).state = .conflicted
          ∧ (t.identity 2).conflicts = 1
          ∧ (t.session 1).state = .detached
          ∧ (t.slot 0).kind = .defence
          ∧ (t.wake.requests.map fun r => (r.cls, r.cause, r.source))
            = [(3, .addressConflict, 2)])) = true := by
  decide +kernel

/-- The name query q1 of 5.5: for WS-4417.LOCAL, type ANY. -/
def queryQ1 : Frame :=
  [0, 0, 0, 0, 0, 1, 0, 0, 0, 0, 0, 0, 7, 0x57, 0x53, 0x2D, 0x34, 0x34, 0x31, 0x37, 5, 0x4C, 0x4F, 0x43, 0x41,
    0x4C, 0, 0, 255, 0, 1]

/-- 5.5, q1: the answer to the group is a frame of 111 bytes with the query's letters and two records. -/
theorem test_name_answer :
    (leaves (exec .classifyFrame
        (let s :=
          { guarded .alive 4800 with
            matchTable := [entry 6 5353 0xFFFF .answerName 1 .drop]
            identities :=
              (idle.identities.set 3
                    ⟨true, .v6 0xFE80000000000000005A10FFFE33C407, true, true, true, 0, .ready, 0⟩).set
                5 { identity5 with state := .conflicted } }
        atClassifier .guardPath
          (macBytes 0x01005E0000FB ++ macBytes peerMac ++ [8, 0]
            ++ packet4 17 0x0A14090E 0xE00000FB
                (udpDatagram (.v4 0x0A14090E) (.v4 0xE00000FB) 5353 5353 queryQ1)) s)) fun t =>
        decide ((t.slot 0).frame.length = 111
          ∧ (t.slot 0).frame.take 6 = [1, 0, 0x5E, 0, 0, 0xFB]
          ∧ beNat (t.slot 0).frame 26 4 = 0x0A14041F
          ∧ beNat (t.slot 0).frame 48 2 = 2
          ∧ ((t.slot 0).frame.drop 55).take 7 = [0x57, 0x53, 0x2D, 0x34, 0x34, 0x31, 0x37]
          ∧ t.counter .answerName = 1)) = true := by
  decide +kernel

/-- 5.5, e1: an echo request with 56 data bytes is answered with a frame of 98 bytes. -/
theorem test_echo_answer :
    (leaves (exec .classifyFrame
        (let s :=
          { guarded .alive 4800 with matchTable := [entry 4 1 0xFF .answerEcho 2 .drop] }
        atClassifier .guardPath
          (macBytes hostMac ++ macBytes peerMac ++ [8, 0]
            ++ packet4 1 0x0A14090E ip2
                (withChecksum [] [8, 0] ([0, 7, 0, 1] ++ List.replicate 56 0x61) id)) s)) fun t =>
        decide ((t.slot 0).frame.length = 98
          ∧ beNat (t.slot 0).frame 34 2 = 0
          ∧ t.counter .answerEcho = 1)) = true := by
  decide +kernel

/-! ### The system port and the control unit -/

/-- R178: with both places taken the frame is dropped and counted. -/
theorem test_receive_fifo_full :
    (leaves (exec (.sysFrameReceived ⟨List.replicate 64 0, true, false, false⟩)
        (offering [frameOf 1 [], frameOf 1 []] idle)) fun t =>
        decide (t.sys.rx.length = 2
          ∧ t.counter .sysRxDropped = 1)) = true := by
  decide +kernel

/-- R190: the latch is reported as it stands and cleared while the link is UP. -/
theorem test_read_status_clears_latch :
    (leaves (exec .readStatus (offering [frameOf 2 []] { idle with linePort := ⟨true, true⟩ })) fun t =>
        decide (t.linePort = ⟨true, false⟩
          ∧ (t.ctl.response.map fun f => (f.drop 22).take 5) = some [0, 0, 1, 1, 1])) = true := by
  decide +kernel

/-- R186: a code beyond the table is answered with UNKNOWN_COMMAND. -/
theorem test_unknown_command :
    (leaves (exec .unknownCommand (offering [frameOf 0x15 []] idle)) fun t =>
        decide (t.sys.rx = []
          ∧ (t.ctl.response.map fun f => (f.drop 14).take 8)
            = some [1, 2, 0x15, 1, 0, 0x31, 0, 0])) = true := by
  decide +kernel

/-- R180: a line frame in PASS goes to the forward FIFO without its FCS. -/
theorem test_pass_forwards :
    (leaves (exec (.lineFrameReceived
        ⟨ether hostMac peerMac 0x9999 [] ++ [1, 2, 3, 4], true, false, false⟩) idle) fun t =>
        decide (t.sys.fwd = [ether hostMac peerMac 0x9999 []]
          ∧ t.counter .rxGood = 1)) = true := by
  decide +kernel

/-! ## States and operands that meet each obligation's hypotheses

One theorem for each obligation, a part for each of its clauses, at boundary values where a clause has
a range. -/

/-- A command of its own length stands alone in the receive FIFO. -/
abbrev Offered (code : Nat) (body : Frame) (s : State) : Prop :=
  Offers (offering [frameOf code body] s) (frameOf code body) [] code body.length

/-- The body of such a command. -/
abbrev bodyIn (code : Nat) (body : Frame) : Frame := bodyOf (frameOf code body)

/-- The part in GUARD. -/
def inGuardNow : State := guarded .alive 4800

theorem witness_StepRunsFrontCommand :
    (idle.setPending [.tick, .linkUp]).pending = .tick :: [.linkUp] ∧ idle.pending = [] := by
  decide

theorem witness_SoftResetEffects : Offered 0x14 [] inGuardNow := by decide +kernel

theorem witness_IdentifyDescribesThePart : Offered 0x01 [] idle := by decide +kernel

theorem witness_ReadStatusReportsAndClearsLatch : Offered 0x02 [] idle := by decide +kernel

theorem witness_ConfigurationCommands :
    Offered 0x04 [] inGuardNow
      ∧ (Offered 0x03 (configBody conf) idle ∧ idle.modeCtl.mode = .pass
        ∧ decodeConfig (bodyIn 0x03 (configBody conf)) = some conf)
      ∧ Offered 0x03 (configBody { conf with vid := 4096 }) (inMode .drain idle)
      ∧ (inMode .drain idle).modeCtl.mode = .drain
      ∧ decodeConfig (bodyIn 0x03 (configBody { conf with vid := 4096 })) = none := by
  decide +kernel

/-- A record with every field at an end of its range. -/
def confAtEnds : ConfigRecord :=
  { conf with
    vid := 4095, pcp := 7, baseThreshold := 7, restraint := 1, limW := 1, limS := 510, limL := 511
    limH := 510, weights := [0, 64, 0, 64, 0, 64, 0, 64], quietInterval := 65535
    wakeMode := .pulse, pulseWidth := 255, retryLimit := 7, resumeWindow := 16, linkLostCls := 7, ttl := 1
    hopLimit := 255, namePort := 65535, group4 := 0xEFFFFFFF
    extraMacs := [0x010000000000, 0xFFFFFFFFFFFE, 0x3333000000FB, 0x01005E000001] }

theorem witness_AdmittedConfigurationsAreInRange :
    decodeConfig (configBody confAtEnds) = some confAtEnds
      ∧ decodeConfig (configBody { conf with quietInterval := 0 })
          = some { conf with quietInterval := 16 } := by
  decide +kernel

/-- The hypotheses of the configuration's round trip. -/
abbrev Stored (c : ConfigRecord) : Prop :=
  c.inRange = true ∧ c.weights.length = 8 ∧ (∀ w ∈ c.weights, w ≤ 64)
    ∧ (16 ≤ c.quietInterval ∧ c.quietInterval ≤ 65535) ∧ (1 ≤ c.pulseWidth ∧ c.pulseWidth ≤ 255)
    ∧ c.retryLimit ≤ 7 ∧ (16 ≤ c.resumeWindow ∧ c.resumeWindow ≤ 65535) ∧ (1 ≤ c.ttl ∧ c.ttl ≤ 255)
    ∧ 1 ≤ c.hopLimit ∧ c.hopLimit ≤ 255

theorem witness_ConfigurationBodyReadsBack : Stored conf ∧ Stored confAtEnds := by decide +kernel

theorem witness_TableReadsReport :
    (Offered 0x06 [47] idle ∧ Offered 0x06 [48] idle)
      ∧ (Offered 0x08 [11] inGuardNow ∧ Offered 0x08 [12] idle)
      ∧ (Offered 0x0A [3] idle ∧ Offered 0x0A [4] inGuardNow)
      ∧ (Offered 0x0C [7] idle ∧ Offered 0x0C [8] idle) ∧ Offered 0x0E [3] idle
      ∧ Offered 0x0E [4] idle := by
  and_intros <;> decide +kernel

/-- The body of a write is offered, its index is in a table, and it is read as a value. -/
abbrev Written {α : Type} [DecidableEq α] (code entries : Nat) (body : Frame) (read : Frame → Option α)
    (x : Option α) (s : State) : Prop :=
  Offered code body s ∧ byteAt (bodyIn code body) 0 < entries ∧ read (bodyIn code body) = x

theorem witness_TableWritesStore :
    (idle.modeCtl.mode = .pass ∧ (inMode .drain idle).modeCtl.mode = .drain)
      ∧ (Written 0x05 48 (matchBody 47 (table.getD 0 MatchEntry.powerOn)) decodeMatch table.head? idle
        ∧ Written 0x05 48 ((matchBody 0 MatchEntry.powerOn).set 3 8) decodeMatch none (inMode .drain idle))
      ∧ (Written 0x07 12 (identityBody 2 identity2) decodeIdentity (some identity2) idle
        ∧ (∀ k < idle.identities.length, k ≠ byteAt (bodyIn 0x07 (identityBody 2 identity2)) 0 →
          (idle.identity k).valid = true → (idle.identity k).addr ≠ identity2.addr))
      ∧ (Written 0x07 12 (identityBody 11 identity2) decodeIdentity (some identity2) idle
        ∧ (2 < idle.identities.length ∧ 2 ≠ byteAt (bodyIn 0x07 (identityBody 11 identity2)) 0
          ∧ (idle.identity 2).valid = true ∧ (idle.identity 2).addr = identity2.addr))
      ∧ Written 0x07 12 (identityBody 0 { identity2 with cls := 8 }) decodeIdentity none idle
      ∧ Written 0x09 4 (nameBody 3 name0) decodeName (some name0) idle
      ∧ Written 0x09 4 (nameBody 0 { name0 with name := [0] }) decodeName none idle
      ∧ Written 0x0B 8 (sessionBody 7 session1) decodeSession (some session1) idle
      ∧ Written 0x0B 8 (sessionBody 0 { session1 with localId := 12 }) decodeSession none idle
      ∧ Written 0x0D 4 (alarmBody 3 alarm0) decodeAlarm (some alarm0) idle
      ∧ Written 0x0D 4 (alarmBody 0 { alarm0 with cls := 0 }) decodeAlarm none idle := by
  and_intros <;> decide +kernel

theorem witness_WritesAreRefused :
    (inGuardNow.modeCtl.mode = .guard ∧ (inMode .waking idle).modeCtl.mode = .waking
      ∧ ∀ c ∈ commandTable,
          Offered c.2.1 (List.replicate c.2.2 0) inGuardNow
            ∧ (List.replicate c.2.2 (0 : Byte)).length = c.2.2)
      ∧ ∀ c ∈ [(Instr.writeMatch, 0x05, 45, 48), (.writeIdentity, 0x07, 21, 12), (.writeName, 0x09, 73, 4),
          (.writeSession, 0x0B, 61, 8), (.writeAlarm, 0x0D, 8, 4)],
        (c.1, c.2.1, c.2.2.1) ∈ commandTable
          ∧ Offered c.2.1 (toBytes 1 c.2.2.2 ++ List.replicate (c.2.2.1 - 1) 0) idle
          ∧ (toBytes 1 c.2.2.2 ++ List.replicate (c.2.2.1 - 1) (0 : Byte)).length = c.2.2.1
          ∧ c.2.2.2 ≤ byteAt (bodyIn c.2.1 (toBytes 1 c.2.2.2 ++ List.replicate (c.2.2.1 - 1) 0)) 0 := by
  decide +kernel

theorem witness_ClearTableClears :
    (Sizes idle ∧ Sizes (offering [frameOf 0x0F [0]] idle)) ∧ Offered 0x0F [0] inGuardNow
      ∧ ∀ k ∈ [0, 1, 2, 3, 4, 5, 255],
        Offered 0x0F (toBytes 1 k) idle ∧ byteAt (bodyIn 0x0F (toBytes 1 k)) 0 = k
          ∧ (toBytes 1 k).length = 1 := by
  decide +kernel

theorem witness_EnterGuardChecks :
    (Offered 0x10 [] inGuardNow ∧ inGuardNow.modeCtl.mode ≠ .pass)
      ∧ (Offered 0x10 [] State.reset ∧ State.reset.modeCtl.mode = .pass ∧ State.reset.ctl.cfg.hostMac = 0)
      ∧ (let s := { idle with sessions := idle.sessions.set 3 { session1 with localId := 7 } }
        Offered 0x10 [] s ∧ s.modeCtl.mode = .pass ∧ s.ctl.cfg.hostMac ≠ 0
          ∧ isGroupMac s.ctl.cfg.hostMac = false ∧ 3 < s.sessions.length
          ∧ sessionPlaced s.identities (s.session 3) = false
          ∧ ∀ k < 3, sessionPlaced s.identities (s.session k) = true) := by
  decide +kernel

theorem witness_EnterGuardChecks_acts :
    (Sizes (offering [frameOf 0x10 []] idle) ∧ Offered 0x10 [] idle ∧ idle.modeCtl.mode = .pass
        ∧ idle.ctl.cfg.hostMac ≠ 0 ∧ isGroupMac idle.ctl.cfg.hostMac = false
        ∧ ∀ x ∈ idle.sessions, sessionPlaced idle.identities x = true)
      ∧ ((idle.session 1).valid = true ∧ (idle.session 1).state = .armed ∧ (idle.alarm 0).valid = true) := by
  decide +kernel

theorem witness_EnterGuardChecks_started :
    ∃ started : Nat → Bool, ∀ i, started i = true ↔
      (i < 8 ∧ (idle.session i).valid = true ∧ (idle.session i).state = .armed)
        ∨ (8 ≤ i ∧ i < 12 ∧ (idle.alarm (i - 8)).valid = true) :=
  ⟨fun _ => decide _, fun _ => decide_eq_true_iff⟩

theorem witness_LeaveGuardActs :
    (Offered 0x11 [] idle ∧ idle.modeCtl.mode = .pass) ∧ Offered 0x11 [] inGuardNow
      ∧ inGuardNow.modeCtl.mode = .guard := by
  decide +kernel

theorem witness_RecordAndCountersAreRead :
    Offered 0x12 [] idle
      ∧ ∀ k ∈ [0, 1, 2], Offered 0x13 (toBytes 1 k) idle ∧ (toBytes 1 k).length = 1
          ∧ byteAt (bodyIn 0x13 (toBytes 1 k)) 0 = k := by
  decide +kernel

/-- A frame stands alone in the receive FIFO, a control frame, with the buffer free. -/
abbrev ControlFirst (f : Frame) : Prop :=
  (offering [f] idle).sys.rx = f :: [] ∧ (offering [f] idle).ctl.response = none ∧ isControl f = true

theorem witness_ControlFramesAreChecked :
    (ControlFirst (command 2 1 1 0 []) ∧ (readControl (command 2 1 1 0 [])).version ≠ 1)
      ∧ (ControlFirst (command 1 2 1 0 []) ∧ (readControl (command 1 2 1 0 [])).kind ≠ 1)
      ∧ (∀ code ∈ [0, 21], ∀ n ∈ [38, 39], ControlFirst (command 1 1 code n [])
        ∧ (readControl (command 1 1 code n [])).version = 1 ∧ (readControl (command 1 1 code n [])).kind = 1
        ∧ (readControl (command 1 1 code n [])).code = code
        ∧ ((readControl (command 1 1 code n [])).present < (readControl (command 1 1 code n [])).bodyLength
          ↔ n = 39))
      ∧ ∀ c ∈ commandTable, ControlFirst (command 1 1 c.2.1 (c.2.2 + 1) [])
        ∧ (readControl (command 1 1 c.2.1 (c.2.2 + 1) [])).version = 1
        ∧ (readControl (command 1 1 c.2.1 (c.2.2 + 1) [])).kind = 1
        ∧ (readControl (command 1 1 c.2.1 (c.2.2 + 1) [])).code = c.2.1
        ∧ (readControl (command 1 1 c.2.1 (c.2.2 + 1) [])).bodyLength ≠ c.2.2 := by
  decide +kernel

theorem witness_EntryBodiesReadBack :
    ((table.getD 0 MatchEntry.powerOn).terms.length = 4
        ∧ (∀ t ∈ (table.getD 0 MatchEntry.powerOn).terms.filterMap id, t.admitted = true)
        ∧ (table.getD 0 MatchEntry.powerOn).cls ≤ 7)
      ∧ (isHostAddr identity5.addr = true ∧ { identity5 with cls := 7 }.cls ≤ 7)
      ∧ (1 ≤ alarm0.cls ∧ alarm0.cls ≤ 7) ∧ 1 ≤ { alarm0 with count := 16777215 }.count
      ∧ { alarm0 with count := 16777215 }.count ≤ 16777215 := by
  decide +kernel

theorem witness_NameAndSessionBodiesReadBack :
    (name0.name.length ≤ 64 ∧ nameWellFormed name0.name = true ∧ 1 ≤ name0.ttl ∧ name0.ttl ≤ 86400)
      ∧ session1.localId ≤ 11 ∧ session1.localPort ≤ 65535 ∧ session1.remotePort ≤ 65535
      ∧ (80 ≤ session1.idle ∧ session1.idle ≤ 16777215) ∧ (16 ≤ session1.retry ∧ session1.retry ≤ 65535)
      ∧ (1 ≤ session1.missLimit ∧ session1.missLimit ≤ 15) ∧ session1.dataCls ≤ 7
      ∧ session1.endCls ≤ 7 ∧ session1.deadCls ≤ 7
      ∧ session1.ts.map TsPart.rate = some 1000 ∧ session1.usable = true := by
  decide +kernel

/-! ### Time, the wake line and the wake controller -/

/-- A state with a tick held at a quiet counter. -/
def heldAt (quiet pressure deferred : Nat) (ps : PressureState) : State :=
  { inGuardNow with
    wake :=
      { WakeCtl.powerOn with
        quiet := quiet, pressure := pressure, pstate := ps, deferred := deferred, tickHeld := true } }

/-- An ended window and a held tick that the tick before has left over. -/
def leftOver : State :=
  withConfig pulseConf
    { waking false .gap 1 none (some 0) idle with
      wake := { WakeCtl.powerOn with quiet := 959, pressure := 1, tickHeld := true } }

theorem witness_TickCounts_settles :
    exec .pulseEnd leftOver = .next (pulseEnd leftOver)
      ∧ exec .resumeWindowEnd (pulseEnd leftOver) = .next (resumeWindowEnd (pulseEnd leftOver))
      ∧ exec .quietIntervalEnd (resumeWindowEnd (pulseEnd leftOver)) = .next (settleTick leftOver) :=
  ⟨rfl, rfl, rfl⟩

theorem witness_TickCounts_settled :
    (settleTick leftOver).modeCtl.pulse ≠ some 0 ∧ (settleTick leftOver).modeCtl.window ≠ some 0
      ∧ (settleTick leftOver).wake.tickHeld = false := by
  decide +kernel

theorem witness_TickCounts :
    inGuardNow.modeCtl.pulse ≠ some 0 ∧ inGuardNow.modeCtl.window ≠ some 0
      ∧ inGuardNow.wake.tickHeld = false := by
  decide +kernel

theorem witness_TimerExpiresAtItsCount :
    1 < (guarded .alive 1).bank.timers.length ∧ ((guarded .alive 1).timer 1).state = .running
      ∧ ((guarded .alive 1).timer 1).outstanding = false ∧ ((guarded .alive 1).timer 1).count = 0 + 1 := by
  decide +kernel

/-- Session 1's expiry answered. -/
def answered : State :=
  { expired .alive 0 4800 with
    bank := { (expired .alive 0 4800).bank with notices := [], answers := [1] } }

theorem witness_ExpiryAnswerFinishes : 1 ∈ answered.bank.answers ∧ 0 ∉ answered.bank.answers := by
  decide +kernel

/-- Alarm 0's expiry on its way, in a state of the alarm. -/
def alarmDue (st : AlarmState) : State :=
  { inGuardNow with
    bank :=
      { inGuardNow.bank with
        alarms := inGuardNow.bank.alarms.set 0 { alarm0 with state := st }, notices := [⟨8, false⟩] } }

theorem witness_AlarmExpires :
    ((alarmDue .running).bank.notices.find? (fun y => y.timer == 8 + 0) = some ⟨8, false⟩
        ∧ ((alarmDue .running).alarm 0).state = .running)
      ∧ ((alarmDue .idle).bank.notices.find? (fun y => y.timer == 8 + 0) = some ⟨8, false⟩
        ∧ ((alarmDue .idle).alarm 0).state ≠ .running) := by
  decide +kernel

theorem witness_WakeLineCountdownsEnd :
    let pulse (retry : Nat) (w : Option Nat) :=
      withConfig pulseConf (waking true .asserted retry (some 0) w idle)
    let gap (retry : Nat) := withConfig pulseConf (waking false .gap retry none (some 0) idle)
    ((pulse 0 (some 40)).ctl.cfg.wakeMode = .pulse ∧ (pulse 0 (some 40)).modeCtl.sub = .asserted
        ∧ (pulse 0 (some 40)).modeCtl.pulse = some 0 ∧ (pulse 0 (some 40)).modeCtl.window ≠ some 0)
      ∧ ((pulse 0 (some 0)).modeCtl.window = some 0
        ∧ (pulse 0 (some 0)).modeCtl.retry < (pulse 0 (some 0)).ctl.cfg.retryLimit
        ∧ (pulse 1 (some 0)).ctl.cfg.retryLimit ≤ (pulse 1 (some 0)).modeCtl.retry)
      ∧ ((gap 0).ctl.cfg.wakeMode = .pulse ∧ (gap 0).modeCtl.sub = .gap ∧ (gap 0).modeCtl.window = some 0
        ∧ (gap 0).modeCtl.retry < (gap 0).ctl.cfg.retryLimit
        ∧ (gap 1).ctl.cfg.retryLimit ≤ (gap 1).modeCtl.retry)
      ∧ (waking true .asserted 0 none (some 0) idle).ctl.cfg.wakeMode = .level
      ∧ (waking true .asserted 0 none (some 0) idle).modeCtl.sub = .asserted
      ∧ (waking true .asserted 0 none (some 0) idle).modeCtl.window = some 0 := by
  decide +kernel

theorem witness_SystemReadyActs :
    let low := base true false
    low.sys.ready = false ∧ low.modeCtl.mode ≠ .waking ∧ idle.sys.ready = true
      ∧ (∀ sub ∈ [WakeSub.asserted, .gap, .unanswered, .resumed],
        (withConfig pulseConf (waking false sub 0 none none low)).sys.ready = false
          ∧ (withConfig pulseConf (waking false sub 0 none none low)).modeCtl.mode = .waking
          ∧ (withConfig pulseConf (waking false sub 0 none none low)).ctl.cfg.wakeMode = .pulse
          ∧ (withConfig pulseConf (waking false sub 0 none none low)).modeCtl.sub = sub)
      ∧ (waking true .asserted 0 none (some 9) low).modeCtl.mode = .waking
      ∧ (waking true .asserted 0 none (some 9) low).ctl.cfg.wakeMode = .level
      ∧ (waking true .asserted 0 none (some 9) low).modeCtl.sub = .asserted := by
  decide +kernel

/-- The request of an entry, with its frame or without. -/
def request (cls : Nat) (frame : Option HeldFrame) : WakeRequest :=
  ⟨cls, .frameMatch, 4, frame, false⟩

/-- A request at place 0, of a class at or above both thresholds, in GUARD. -/
abbrev Asserting (r : WakeRequest) (s : State) : Prop :=
  Sizes s ∧ s.wake.requests[0]? = some r ∧ r.rehearsal = false ∧ s.modeCtl.mode = .guard ∧ r.cls ≠ 0
    ∧ s.ctl.cfg.baseThreshold ≤ r.cls ∧ effectiveThreshold s.ctl.cfg s.wake.pstate ≤ r.cls

theorem witness_RequestIsAsserted :
    (∀ p ∈ [0, 367, 368, 511], Asserting (request 7 (some someFrame))
        (pressed p .restrained (request 7 (some someFrame))))
      ∧ (pressed 0 .restrained (request 7 none)).ctl.cfg.limL = min 511 (368 + 16)
      ∧ Asserting (request 7 none) (pressed 128 .locked (request 7 none))
      ∧ Asserting (request 1 none)
          { pressed 0 .openState (request 1 none) with
            wake :=
              { (pressed 0 .openState (request 1 none)).wake with
                record := some ⟨.alarm, 3, 0, 1, 1, 0, none, 0⟩ } } := by
  decide +kernel

/-- A request at place 0 in a mode. -/
abbrev Asked (r : WakeRequest) (m : Mode) (s : State) : Prop :=
  s.wake.requests[0]? = some r ∧ r.rehearsal = false ∧ s.modeCtl.mode = m

/-- The configuration with base threshold 3, suppressed frames dropped. -/
def strict : ConfigRecord := { conf with baseThreshold := 3, suppressDrop := true }

theorem witness_RequestIsNotAsserted :
    Asked (request 0 none) .guard (pressed 0 .openState (request 0 none))
      ∧ (Asked (request 2 none) .guard (withConfig strict (pressed 0 .openState (request 2 none)))
        ∧ (request 2 none).cls < strict.baseThreshold)
      ∧ (Asked (request 3 none) .guard (withConfig strict (pressed 200 .restrained (request 3 none)))
        ∧ strict.baseThreshold ≤ 3 ∧ 3 < effectiveThreshold strict .restrained
        ∧ strict.suppressDrop = true)
      ∧ Asked (request 4 (some someFrame)) .guard (pressed 200 .restrained (request 4 (some someFrame)))
      ∧ 4 < effectiveThreshold conf .restrained ∧ conf.suppressDrop = false := by
  decide +kernel

theorem witness_LaterCausesInWaking :
    Asked (request 0 none) .waking (asking [request 0 none] (inMode .waking idle))
      ∧ (∀ sub ∈ [WakeSub.resumed, .unanswered, .asserted, .gap],
        let s := asking [request 6 (some someFrame)] (withConfig pulseConf (waking true sub 0 none none idle))
        Asked (request 6 (some someFrame)) .waking s ∧ s.ctl.cfg.wakeMode = .pulse ∧ s.modeCtl.sub = sub
          ∧ s.ctl.cfg.baseThreshold ≤ 6 ∧ effectiveThreshold s.ctl.cfg s.wake.pstate ≤ 6)
      ∧ (let s :=
          { asking [request 6 none] (waking true .asserted 0 none none idle) with
            wake := { WakeCtl.powerOn with pstate := .locked, requests := [request 6 none] } }
        Asked (request 6 none) .waking s ∧ s.ctl.cfg.wakeMode = .level
          ∧ 6 < effectiveThreshold s.ctl.cfg s.wake.pstate) := by
  decide +kernel

theorem witness_RequestsOutsideGuard :
    (∀ m ∈ [Mode.pass, .guard, .waking],
        let r : WakeRequest := ⟨5, .frameMatch, 4, some someFrame, true⟩
        (asking [r] (inMode m idle)).wake.requests[0]? = some r ∧ r.rehearsal = true
          ∧ (asking [r] (inMode m idle)).modeCtl.mode ≠ .drain)
      ∧ Asked (request 5 none) .pass (asking [request 5 none] idle)
      ∧ Asked (request 5 (some someFrame)) .drain
          (asking [request 5 (some someFrame)] (inMode .drain idle)) := by
  decide +kernel

theorem witness_QuietIntervalEnds :
    (heldAt 958 0 0 .openState).wake.tickHeld = true
      ∧ (heldAt 958 0 0 .openState).wake.quiet + 1 < (heldAt 958 0 0 .openState).ctl.cfg.quietInterval
      ∧ (heldAt 959 108 5 .locked).ctl.cfg.quietInterval ≤ (heldAt 959 108 5 .locked).wake.quiet + 1
      ∧ ¬effectiveThreshold conf .locked < effectiveThreshold conf (heldAt 959 108 5 .locked).wake.pstate
      ∧ (effectiveThreshold conf .openState < effectiveThreshold conf (heldAt 959 1 5 .locked).wake.pstate
        ∧ (heldAt 959 1 5 .locked).modeCtl.mode = .guard
        ∧ effectiveThreshold conf .openState ≤ (heldAt 959 1 5 .locked).wake.deferred
        ∧ (heldAt 959 1 5 .locked).wake.pressure - 1 = 0) := by
  decide +kernel

/-! ### Sessions -/

/-- Session 1's expiry on its way with all slots in use. -/
def expiredFull (x : SessionState) (miss : Nat) (probes : List Nat) : State :=
  { slotsFull (expired x miss 4800) with probes := probes }

/-- R107, liveness first: session 1's expiry on its way with nothing staged, and a liveness segment taken since. -/
def heardFirst : State := (expired .probing 0 4800).heard 1 none

theorem witness_SessionTimerExpires :
    (expired .alive 0 4800).bank.notices.find? (fun y => y.timer == 1) = some ⟨1, false⟩
      ∧ ((expired .armed 0 4800).session 1).running = false
      ∧ (((expired .alive 0 4800).session 1).state = .alive
        ∧ 1 ∉ (expired .alive 0 4800).probes
        ∧ freeSlot (expired .alive 0 4800) = some 0)
      ∧ (freeSlot (expiredFull .alive 0 []) = none ∧ 1 ∈ (expiredFull .probing 0 [1]).probes
        ∧ ((expiredFull .probing 0 [1]).session 1).state = .probing)
      ∧ (((expired .probing 1 4800).session 1).state = .probing
        ∧ ((expired .probing 1 4800).session 1).miss + 1 < ((expired .probing 1 4800).session 1).missLimit)
      ∧ ((expired .probing 2 4800).session 1).missLimit ≤ ((expired .probing 2 4800).session 1).miss + 1
      ∧ (((expired .alive 0 4800).timer 1).staged = none
        ∧ ((heardFirst.session 1).state = .alive ∧ (heardFirst.timer 1).staged.isSome = true
          ∧ heardFirst.bank.notices.find? (fun y => y.timer == 1) = some ⟨1, false⟩))
      ∧ ({ expired .alive 0 4800 with
            bank := { (expired .alive 0 4800).bank with notices := [⟨1, true⟩] } } : State).bank.notices.find?
          (fun y => y.timer == 1) = some ⟨1, true⟩ := by
  decide +kernel

/-- A segment of session 1's remote at the classifier, with the premises of its judgement. -/
abbrev Judged (flags len : Nat) (seq ack : BitVec 32) (data : Frame) : Prop :=
  let s := judged flags seq ack data
  let p := parsedAs .guardPath (fromPeer flags seq ack data) s
  Decides s p 1 (table.getD 1 MatchEntry.powerOn) ∧ p.path = .guardPath
    ∧ (table.getD 1 MatchEntry.powerOn).action = .answerSession ∧ s.modeCtl.mode = .guard
    ∧ p.fv.pstatus = .ok ∧ p.fv.proto = 6 ∧ p.fv.frag = .whole ∧ p.fv.session = 1
    ∧ (s.session 1).running = true ∧ transportGood p (segmentLength p) 6 = true
    ∧ p.fv.tcpflags = flags ∧ p.fv.l4len = len ∧ v4At p.bytes (p.pos.l4 + 4) = seq
    ∧ v4At p.bytes (p.pos.l4 + 8) = ack ∧ segmentTsval (s.session 1) p = none
    ∧ (s.session 1).rcv = 0 ∧ (s.session 1).snd = 0x00A3F100 ∧ freeSlot s = some 0

theorem witness_SegmentsAreJudged_ends :
    Judged 2 0 5 0 [] ∧ Judged 4 0 0 0 [] ∧ Judged 4 0 1 0 [] ∧ Judged 1 0 0 0 [] := by
  and_intros <;> decide +kernel

theorem witness_SegmentsAreJudged_data :
    Judged 16 1 0 0 [1] ∧ Judged 16 1 0x7FFFFFFE 0 [1] ∧ Judged 16 1 0x7FFFFFFF 0 [1]
      ∧ Judged 16 1 0xFFFFFFFF 0 [1] ∧ Judged 17 1 1 0 [1] := by
  and_intros <;> decide +kernel

theorem witness_SegmentsAreJudged_acks :
    Judged 16 0 0xFFFFFFFF 0 [] ∧ Judged 16 0 0 0x00A3F100 [] ∧ Judged 16 0 0 0x00A3F101 []
      ∧ Judged 16 0 0 0x80A3F0FF [] ∧ Judged 16 0 0 0x80A3F100 [] ∧ Judged 16 0 1 0 []
      ∧ Judged 0 0 0 0 [] := by
  and_intros <;> decide +kernel

theorem witness_SegmentsAreJudged_full :
    freeSlot (slotsFull (judged 16 0xFFFFFFFF 0 [])) = none
      ∧ (slotsFull (judged 16 0xFFFFFFFF 0 [])).guardPath = (judged 16 0xFFFFFFFF 0 []).guardPath := by
  decide +kernel

/-- A segment of the laptop's on session 1. -/
def outbound : Frame := ether peerMac hostMac 0x0800 (segment true 16 0 0 [] [])

theorem witness_OutboundSegmentsDetach :
    let s := offering [outbound] inGuardNow
    let q := parseFrame (s.parseContext false) outbound
    (s.sys.rx = outbound :: [] ∧ isControl outbound = false ∧ s.reply.queue = []
        ∧ s.linePort.up = true ∧ s.arb.tx = none)
      ∧ (s.modeCtl.mode = .guard ∧ q.fv.pstatus = .ok ∧ q.fv.frag ≠ .later ∧ q.fv.proto = 6
        ∧ q.fv.l3kind = .ipv4 ∧ (s.session 1).running = true
        ∧ sameFamily (s.session 1).remote (sourceOf q.fv.l3kind outbound q.pos.l3) = true
        ∧ (s.identity (s.session 1).localId).addr = sourceOf q.fv.l3kind outbound q.pos.l3
        ∧ (s.session 1).localPort = q.fv.sport
        ∧ (s.session 1).remote = destOf q.fv.l3kind outbound q.pos.l3
        ∧ (s.session 1).remotePort = q.fv.dport)
      ∧ (0 < s.sessions.length ∧ (s.session 0).running = false)
      ∧ (offering [outbound] idle).modeCtl.mode = .pass
      ∧ (let waits := { slotsFull s with arb := ⟨none, .reply⟩ }
        waits.reply.queue ≠ [] ∧ waits.arb.last = .reply ∧ waits.sys.rx = outbound :: [])
      ∧ ({ s with linePort := ⟨false, true⟩ } : State).linePort.up = false := by
  and_intros <;> decide +kernel

/-! ### The line -/

theorem witness_LinkTransitions :
    (base false false).linePort.up = false ∧ (Sizes beforeLoss ∧ beforeLoss.linePort.up = true)
      ∧ (inGuardNow.probes = [] ∧ inGuardNow.linePort.up = true ∧ Sizes inGuardNow)
      ∧ ({ inGuardNow with arb := ⟨some (.system outbound), .system⟩ } : State).arb.tx
          = some (.system outbound)
      ∧ (beforeLoss.probes ≠ [] ∧ (List.range 4).filter (fun i => (beforeLoss.slot i).onLine) ≠ [])
      ∧ ∀ f ∈ [outbound], beforeLoss.arb.tx ≠ some (.system f) := by
  decide +kernel

/-- A tagged frame of a length, FCS included. -/
def taggedOf (n : Nat) : Frame := List.replicate 12 0 ++ [0x81, 0, 0, 20] ++ List.replicate (n - 16) 0

theorem witness_BadLineFramesAreCounted :
    ((List.replicate 63 (0 : Byte)).length < 64 ∧ isTagged (List.replicate 1519 0) = false
        ∧ 1518 < (List.replicate 1519 (0 : Byte)).length)
      ∧ (isTagged (taggedOf 1523) = true ∧ 1522 < (taggedOf 1523).length)
      ∧ (64 ≤ (taggedOf 64).length ∧ (taggedOf 1522).length ≤ (if isTagged (taggedOf 1522) then 1522 else 1518))
      ∧ (base false false).linePort.up = false ∧ idle.linePort.up = true
      ∧ (inGuardNow.modeCtl.mode ≠ .pass ∧ inGuardNow.ctl.cfg.vid = 0 ∧ isTagged (taggedOf 64) = true
        ∧ vidOf (taggedOf 64) ≠ 0)
      ∧ guard20.ctl.cfg.vid ≠ 0 ∧ isTagged (List.replicate 64 0) = false := by
  decide +kernel

/-- A guard-path item. -/
def item (path : Path) : GuardItem := ⟨ether hostMac peerMac 0x9999 [], 7, path⟩

theorem witness_GoodLineFramesAreHandedOn :
    (idle.linePort.up = true ∧ 64 ≤ (List.replicate 64 (0 : Byte)).length
        ∧ (List.replicate 1518 (0 : Byte)).length
          ≤ (if isTagged (List.replicate 1518 0) then 1522 else 1518)
        ∧ isTagged (List.replicate 64 0) = false ∧ idle.ctl.cfg.vid = 0)
      ∧ (inGuardNow.modeCtl.mode = .guard ∧ inGuardNow.linePort.up = true
        ∧ (waiting (List.replicate 15 (item .guardPath)) inGuardNow).guardPath.fifo.length < 16
        ∧ 16 ≤ (waiting (List.replicate 16 (item .guardPath)) inGuardNow).guardPath.fifo.length)
      ∧ (idle.modeCtl.mode = .pass ∧ (withConfig { conf with rehearsal := true } idle).ctl.cfg.rehearsal = true
        ∧ idle.ctl.cfg.rehearsal = false)
      ∧ (inMode .drain idle).modeCtl.mode = .drain
      ∧ guardPending (waiting [item .guardPath] (inMode .drain idle)) = true
      ∧ guardPending (waiting (List.replicate 16 (item .guardPath)) (inMode .drain idle)) = true
      ∧ guardPending (waiting [item .drained] (inMode .drain idle)) = false := by
  decide +kernel

theorem witness_LineTransmitter :
    let data := ether peerMac hostMac 0x1234 []
    ((slotsFull idle).linePort.up = true ∧ (slotsFull idle).arb.tx = none
        ∧ (slotsFull idle).reply.queue = 0 :: [1, 2, 3] ∧ (slotsFull idle).arb.last = .system)
      ∧ ((offering [data] idle).sys.rx = data :: [] ∧ isControl data = false
        ∧ (offering [data] idle).reply.queue = [] ∧ (offering [data] idle).modeCtl.mode = .pass
        ∧ (offering [data] idle).linePort.up = true ∧ (offering [data] idle).arb.tx = none)
      ∧ (beforeLoss.arb.tx ≠ none ∧ beforeLoss.arb.tx = some (.reply 1))
      ∧ ({ idle with arb := ⟨some (.system data), .system⟩ } : State).arb.tx = some (.system data)
      ∧ ((offering [data] (base false true)).linePort.up = false
        ∧ (offering [data] (base false true)).modeCtl.mode = .pass) := by
  and_intros <;> decide +kernel

/-! ### The parser and the classifier -/

theorem witness_FramesAreParsed :
    let wait (path : Path) (s : State) := waiting [item path] s
    ((wait .guardPath inGuardNow).guardPath.fifo = item .guardPath :: []
        ∧ (wait .guardPath inGuardNow).guardPath.parsed = none)
      ∧ ((wait .copy idle).guardPath.fifo = item .copy :: [] ∧ (wait .copy idle).guardPath.parsed = none
        ∧ (wait .copy idle).modeCtl.mode ≠ .drain)
      ∧ (wait .guardPath (atClassifier .guardPath outbound inGuardNow)).guardPath.parsed ≠ none
      ∧ guardPending (wait .drained (inMode .drain idle)) = false
      ∧ guardPending (wait .drained (atClassifier .guardPath outbound (inMode .drain idle))) = true := by
  decide +kernel

theorem witness_EthernetHeaderIsParsed :
    (idle.ctl.cfg.hostMac ≠ 0
        ∧ BitVec.ofNat 48 (beNat (ether hostMac peerMac 0x0806 []) 0 6) = idle.ctl.cfg.hostMac)
      ∧ beNat (ether Config.broadcastMac peerMac 0x0800 []) 0 6 = 0xFFFFFFFFFFFF
      ∧ (0x333300000001 / 2 ^ 40 % 2 = 1
        ∧ BitVec.ofNat 48 (beNat (ether 0x333300000001 peerMac 0x86DD []) 0 6) ∈ idle.guardPath.listed)
      ∧ BitVec.ofNat 48 0x333300000002 ∉ idle.guardPath.listed
      ∧ beNat (ether 0x020000000001 peerMac 0x0600 []) 0 6 / 2 ^ 40 % 2 = 0
      ∧ (∀ et ∈ [0x0806, 0x0800, 0x86DD, 0x05FF, 0x0600, 0xFFFF],
        beNat (ether hostMac peerMac et []) 12 2 = et)
      ∧ (let b := tagged (tagged (ether hostMac peerMac 0x0800 []))
        beNat b 12 2 = 0x8100 ∧ beNat b 16 2 = 0x8100) := by
  decide +kernel

theorem witness_FieldsAreInRange :
    idle.identities.length = 12 ∧ idle.sessions.length = 8 ∧ 18 ≤ (List.replicate 18 (0 : Byte)).length := by
  decide +kernel

/-- A frame of the EtherType that entry 2 holds, at the classifier. -/
def heldType : State := atClassifier .guardPath (ether hostMac peerMac 0x9999 []) inGuardNow

theorem witness_LowestMatchDecides :
    Sizes heldType
      ∧ heldType.guardPath.parsed = some (parsedAs .guardPath (ether hostMac peerMac 0x9999 []) inGuardNow)
      ∧ classifierFree heldType = true
      ∧ classifierFree (asking [request 5 (some someFrame)] heldType) = false
      ∧ heldType.matchTable[2]? = some (entry 1 0x9999 0xFFFF .hold 5 .drop) := by
  and_intros <;> decide +kernel

theorem witness_LowestMatchDecides_hits :
    ∃ hits : MatchEntry → Prop,
      (∀ e, hits e ↔
        e.valid = true ∧
          ∀ x, some x ∈ e.terms →
            BitVec.ofNat 32
                ((parsedAs .guardPath (ether hostMac peerMac 0x9999 []) inGuardNow).fv.get x.field)
              &&& x.mask = x.value &&& x.mask)
        ∧ hits (entry 1 0x9999 0xFFFF .hold 5 .drop) ∧ ¬hits MatchEntry.powerOn := by
  refine ⟨_, fun _ => Iff.rfl, ⟨rfl, ?_⟩, fun h => by cases h.1⟩
  intro x hx
  obtain rfl : x = ⟨1, 0x9999, 0xFFFF⟩ := by simpa [entry] using hx
  decide +kernel

/-- A frame of an EtherType is at the classifier, decided by an entry. -/
abbrev Verdict (et k : Nat) (s : State) : Prop :=
  Decides (atClassifier .guardPath (ether hostMac peerMac et []) s)
    (parsedAs .guardPath (ether hostMac peerMac et []) s) k (table.getD k MatchEntry.powerOn)

theorem witness_VerdictsAreCarriedOut :
    (Verdict 0x9998 3 inGuardNow ∧ (table.getD 3 MatchEntry.powerOn).action = .drop
        ∧ inGuardNow.modeCtl.mode ≠ .drain)
      ∧ (Verdict 0x9999 2 inGuardNow ∧ Verdict 0x9999 2 (inMode .drain idle)
        ∧ (table.getD 2 MatchEntry.powerOn).action = .hold)
      ∧ (Verdict 0x9997 4 inGuardNow ∧ Verdict 0x9997 4 (inMode .drain idle)
        ∧ (table.getD 4 MatchEntry.powerOn).action = .wake)
      ∧ (let s := atClassifier .guardPath (ether hostMac peerMac 0x9996 []) inGuardNow
        s.guardPath.parsed = some (parsedAs .guardPath (ether hostMac peerMac 0x9996 []) inGuardNow)
          ∧ classifierFree s = true
          ∧ firstMatch s.matchTable (parsedAs .guardPath (ether hostMac peerMac 0x9996 []) inGuardNow).fv = none
          ∧ s.ctl.cfg.defaultHold = false ∧ s.modeCtl.mode ≠ .drain)
      ∧ (withConfig { conf with defaultHold := true } inGuardNow).ctl.cfg.defaultHold = true
      ∧ (let f := ether Config.broadcastMac peerMac 0x0806 [0, 2, 8, 0, 6, 4]
        ∀ m ∈ [Mode.guard, .waking, .drain], ∀ fallback ∈ [Disposal.hold, .wake],
          let e := entry 2 1 7 .answerAddress 3 fallback
          let s := { inGuardNow with matchTable := [e], modeCtl := ModeCtl.atRest m }
          Decides (atClassifier .guardPath f s) (parsedAs .guardPath f s) 0 e
            ∧ (parsedAs .guardPath f s).fv.pstatus ≠ .ok) := by
  and_intros <;> decide +kernel

theorem witness_ArpRequestIsAnswered :
    let f := arp 1 0x0A14090E ip2
    let s := atClassifier .guardPath f inGuardNow
    let p := parsedAs .guardPath f inGuardNow
    (Decides s p 0 (table.getD 0 MatchEntry.powerOn) ∧ p.path = .guardPath
        ∧ (table.getD 0 MatchEntry.powerOn).action = .answerAddress ∧ s.modeCtl.mode = .guard)
      ∧ (p.fv.pstatus = .ok ∧ p.fv.l3kind = .arp ∧ beNat p.bytes (p.pos.l3 + 6) 2 = 1
        ∧ macAt p.bytes (p.pos.l3 + 8) = peerMac ∧ peerMac ≠ s.ctl.cfg.hostMac
        ∧ v4At p.bytes (p.pos.l3 + 14) = 0x0A14090E)
      ∧ (∀ y ∈ s.identities, y.valid = true → y.addr ≠ .v4 0x0A14090E)
      ∧ (p.fv.dstid = 2 ∧ s.identities[2]? = some identity2)
      ∧ freeSlot s = some 0 ∧ freeSlot (slotsFull s) = none := by
  and_intros <;> decide +kernel

/-- A neighbour solicitation or advertisement for identity 5 (RFC 4861). -/
def neighbour (type : Nat) (src : BitVec 128) (target : BitVec 128) : Frame :=
  macBytes 0x3333FF1234A1 ++ macBytes peerMac ++ toBytes 2 0x86DD
    ++ ipv6Packet 255 58 src 0xFF020000000000000000000000000001
        (withChecksum
          (pseudoHeader (.v6 src) (.v6 0xFF020000000000000000000000000001) 24 58)
          (toBytes 1 type ++ [0]) ([0, 0, 0, 0] ++ toBytes 16 target.toNat) id)

/-- A table that hands neighbour discovery to the address responder with a fallback. -/
def neighbourTable (fallback : Disposal) : List MatchEntry :=
  entry 4 58 0xFF .answerAddress 3 fallback :: table.tail ++ List.replicate 43 MatchEntry.powerOn

/-- A frame of neighbour discovery at the classifier, in a mode, identity 5 as given. -/
def neighbourAt (f : Frame) (x : Identity) (m : Mode) : State :=
  atClassifier .guardPath f
    { inGuardNow with
      matchTable := neighbourTable .hold
      identities := inGuardNow.identities.set 5 x
      modeCtl := ModeCtl.atRest m }

theorem witness_ForeignClaimsAreHandled :
    let at' (f : Frame) (x : Identity) := atClassifier .guardPath f
      { inGuardNow with identities := inGuardNow.identities.set 2 x }
    ∀ x ∈ [identity2, { identity2 with defend := false },
        { identity2 with state := .conflicted, conflicts := 255 }],
      ∀ f ∈ [arp 1 ip2 ip2, arp 1 0 ip2],
        let p := parsedAs .guardPath f inGuardNow
        Sizes (at' f x) ∧ Decides (at' f x) p 0 (table.getD 0 MatchEntry.powerOn)
          ∧ p.path = .guardPath ∧ (at' f x).modeCtl.mode = .guard ∧ p.fv.pstatus = .ok ∧ p.fv.l3kind = .arp
          ∧ macAt p.bytes (p.pos.l3 + 8) = peerMac ∧ peerMac ≠ (at' f x).ctl.cfg.hostMac
          ∧ (at' f x).identities[2]? = some x ∧ x.addr = .v4 ip2 ∧ freeSlot (at' f x) = some 0
          ∧ beNat p.bytes (p.pos.l3 + 6) 2 = 1 ∧ p.fv.dstid = 2
          ∧ identityOf (at' f x).identities (.v4 0) = none
          ∧ identityOf (at' f x).identities (.v4 ip2) = some 2
          ∧ v4At p.bytes (p.pos.l3 + 14) = (if f = arp 1 0 ip2 then 0 else ip2) := by
  decide +kernel

theorem witness_ForeignClaimsAreHandled_v6 :
    ∀ m ∈ [Mode.guard, .drain], ∀ x ∈ [identity5, { identity5 with state := .conflicted }],
      ∀ type ∈ [135, 136],
        let f := neighbour type (if type = 135 then 0 else 0xFE800000000000000000000000000001) ip5
        let s := neighbourAt f x m
        let p := parsedAs .guardPath f inGuardNow
        Sizes s ∧ Decides s p 0 (entry 4 58 0xFF .answerAddress 3 .hold) ∧ p.path = .guardPath
          ∧ s.modeCtl.mode = m ∧ p.fv.pstatus = .ok ∧ p.fv.l3kind = .ipv6 ∧ p.fv.proto = 58
          ∧ AcceptedNd p ∧ macAt p.bytes 6 ≠ s.ctl.cfg.hostMac ∧ p.fv.dstid = 5
          ∧ s.identities[5]? = some x ∧ x.addr = .v6 ip5 ∧ p.fv.icmptype = type
          ∧ (type = 135 → sourceOf .ipv6 p.bytes p.pos.l3 = .v6 0) := by
  decide +kernel

theorem witness_ForeignClaimsAreHandled_on :
    ∃ on : Nat → Bool, ∀ j,
      on j = true ↔ (inGuardNow.session j).running = true ∧ (inGuardNow.session j).localId = 2 :=
  ⟨fun _ => decide _, fun _ => decide_eq_true_iff⟩

/-- An echo request of 5.5's kind with data, from a station with an identifier, its code byte as given. -/
def echoRequest (code : Byte) (n : Nat) (sum : Nat → Nat) : Frame :=
  macBytes hostMac ++ macBytes peerMac ++ [8, 0]
    ++ packet4 1 0x0A14090E ip2
        (withChecksum [] [8, code] ([0, 7, 0, 1] ++ List.replicate n 0x61) sum)

/-- A frame at the classifier of the part in GUARD, with one entry. -/
def decidedBy (e : MatchEntry) (f : Frame) : State :=
  atClassifier .guardPath f { inGuardNow with matchTable := [e] }

/-- The premises that an ICMP request of either kind shares. -/
abbrev IcmpPremises (e : MatchEntry) (f : Frame) : Prop :=
  let p := parsedAs .guardPath f inGuardNow
  Decides (decidedBy e f) p 0 e ∧ p.path = .guardPath ∧ (decidedBy e f).modeCtl.mode = .guard
    ∧ p.fv.pstatus = .ok ∧ p.fv.frag = .whole ∧ freeSlot (decidedBy e f) = some 0
    ∧ freeSlot (slotsFull (decidedBy e f)) = none

/-- The entry that hands ICMP echo requests to the echo responder. -/
def echoEntry : MatchEntry := entry 4 1 0xFF .answerEcho 2 .wake

theorem witness_IcmpRequestsAreAnswered_echo :
    ∀ f ∈ [echoRequest 0 342 id, echoRequest 0 343 id, echoRequest 1 4 id, echoRequest 0 4 (· + 1)],
      let p := parsedAs .guardPath f inGuardNow
      IcmpPremises echoEntry f ∧ p.fv.l3kind = .ipv4 ∧ p.fv.proto = 1 ∧ p.fv.icmptype = 8
        ∧ p.fv.dclass = .own ∧ p.fv.dstid = 2 ∧ (decidedBy echoEntry f).identity 2 = identity2
        ∧ canReceive (sourceOf p.fv.l3kind p.bytes p.pos.l3) = true ∧ isGroupMac (macAt p.bytes 6) = false
        ∧ (byteAt p.bytes (p.pos.l4 + 1) = 0 ↔ f ≠ echoRequest 1 4 id)
        ∧ (sumGood (slice p.bytes p.pos.l4 (p.fv.l4len + 8)) = true ↔ f ≠ echoRequest 0 4 (· + 1))
        ∧ ((if (decidedBy echoEntry f).ctl.cfg.vid = 0 then 14 else 18) + 20 + (p.fv.l4len + 8) ≤ 384
          ↔ f ≠ echoRequest 0 343 id) := by
  decide +kernel

/-- A link-local address of another station. -/
def station : BitVec 128 := 0xFE800000000000000000000000000001

theorem witness_IcmpRequestsAreAnswered_solicitation :
    let e := entry 4 58 0xFF .answerAddress 3 .hold
    (∀ f ∈ [neighbour 135 station ip5, neighbour 135 0 ip5, neighbour 135 station 1],
      let p := parsedAs .guardPath f inGuardNow
      IcmpPremises e f ∧ p.fv.l3kind = .ipv6 ∧ p.fv.proto = 58 ∧ p.fv.icmptype = 135 ∧ AcceptedNd p
        ∧ (p.fv.dstid = 5 ↔ f ≠ neighbour 135 station 1)
        ∧ (canReceive (sourceOf p.fv.l3kind p.bytes p.pos.l3) = true ↔ f ≠ neighbour 135 0 ip5))
      ∧ (inGuardNow.identity 5 = identity5 ∧ identity5.addr = .v6 ip5)
      ∧ (let f := (neighbour 135 station ip5).set 60 0xFF
        let p := parsedAs .guardPath f inGuardNow
        IcmpPremises e f ∧ p.fv.icmptype = 135 ∧ 24 ≤ p.fv.l4len + 8
          ∧ transportGood p (p.fv.l4len + 8) 58 = false) := by
  decide +kernel

/-- A name query of 5.5's kind to the group: its name, its class, and the port it comes from. -/
def nameQuery (name : Frame) (qtype qclass sport : Nat) (sum : Nat → Nat) : Frame :=
  let m :=
    toBytes 2 0 ++ toBytes 1 0 ++ toBytes 1 0 ++ toBytes 2 1 ++ toBytes 2 0 ++ toBytes 2 0 ++ toBytes 2 0
      ++ name ++ toBytes 2 qtype ++ toBytes 2 qclass ++ []
  macBytes 0x01005E0000FB ++ macBytes peerMac ++ [8, 0]
    ++ packet4 17 0x0A14090E 0xE00000FB
        (withChecksum (pseudoHeader (.v4 0x0A14090E) (.v4 0xE00000FB) (8 + m.length) 17)
          (toBytes 2 sport ++ toBytes 2 5353 ++ toBytes 2 (8 + m.length)) m sum)

/-- The entry that hands name queries to the name responder. -/
def nameQueries : MatchEntry := entry 6 5353 0xFFFF .answerName 1 .drop

/-- The premises of a name query, and which of its cases it is in. -/
abbrev QueryPremises (name : Frame) (qtype qclass sport : Nat) (sum : Nat → Nat) (s : State)
    (good : Bool) (entry' : Option Nat) (records : List Addr) : Prop :=
  let f := nameQuery name qtype qclass sport sum
  let p := parsedAs .guardPath f inGuardNow
  let s := atClassifier .guardPath f { s with matchTable := nameQueries :: List.replicate 47 MatchEntry.powerOn }
  Sizes s ∧ Decides s p 0 nameQueries ∧ p.path = .guardPath ∧ s.modeCtl.mode = .guard
    ∧ p.fv.pstatus = .ok ∧ p.fv.l3kind = .ipv4 ∧ p.fv.proto = 17 ∧ p.fv.frag = .whole
    ∧ p.fv.dport = s.ctl.cfg.namePort ∧ p.fv.sport = sport
    ∧ destOf p.fv.l3kind p.bytes p.pos.l3 = groupOf s.ctl.cfg true
    ∧ (s.identity p.fv.dstid).valid = false
    ∧ (beNat p.bytes (p.pos.l4 + 6) 2 = 0 ∨ transportGood p (p.fv.l4len + 8) 17 = good)
    ∧ slice p.bytes p.pos.pay p.fv.l4len =
        toBytes 2 0 ++ toBytes 1 0 ++ toBytes 1 0 ++ toBytes 2 1 ++ toBytes 2 0 ++ toBytes 2 0 ++ toBytes 2 0
          ++ name ++ toBytes 2 qtype ++ toBytes 2 qclass ++ []
    ∧ nameWellFormed name = true ∧ matchingName s.names name = entry'
    ∧ (s.names[0]?.map fun n => answerAddresses s.identities n qtype) = some records
    ∧ canReceive (sourceOf p.fv.l3kind p.bytes p.pos.l3) = true ∧ isGroupMac (macAt p.bytes 6) = false
    ∧ freeSlot s = some 0

theorem witness_NameQueriesAreAnswered :
    QueryPremises wsName 255 1 5353 id inGuardNow true (some 0) [.v4 ip2, .v6 ip5]
      ∧ QueryPremises wsName 28 0x8001 49152 id inGuardNow true (some 0) [.v6 ip5]
      ∧ QueryPremises wsName 1 1 5353 id inGuardNow true (some 0) [.v4 ip2]
      ∧ QueryPremises [1, 0x61, 0] 1 1 5353 id inGuardNow true none [.v4 ip2]
      ∧ QueryPremises wsName 255 1 5353 (· + 1) inGuardNow false (some 0) [.v4 ip2, .v6 ip5]
      ∧ QueryPremises wsName 28 1 5353 id
          { inGuardNow with identities := inGuardNow.identities.set 5 Identity.powerOn } true (some 0) [] := by
  and_intros <;> decide +kernel

theorem witness_CopiesLeaveTheStateAlone :
    (waiting [item .copy] idle).guardPath.fifo.head?.map GuardItem.path = some .copy
      ∧ (atClassifier .copy (ether hostMac peerMac 0x9997 []) idle).guardPath.parsed.map ParsedFrame.path
          = some .copy := by
  decide +kernel

/-! ### The hold queue and the system port -/

/-- Sixty-four records of one block. -/
def allRecords : List HoldRecord :=
  (List.range 64).map fun k => record (BitVec.ofNat 16 k) .follower 60 0 [k]

theorem witness_FramesAreAppended :
    (eleven.modeCtl.mode ≠ .pass ∧ eleven.hold.records.length ≤ 64 ∧ eleven.hold.freeBlocks.length = 2)
      ∧ ((handing .follower 512 eleven).hold.appends = [⟨⟨List.replicate 512 9, 5⟩, .follower⟩]
        ∧ (512 + 255) / 256 = 2)
      ∧ (Origin.held = Origin.held ∧ 2 < (513 + 255) / 256)
      ∧ ((holding allRecords .idle eleven).hold.oldestHeld = none
        ∧ (holding allRecords .idle eleven).hold.freeBlocks.length = 0
        ∧ (holding allRecords .idle eleven).hold.records.length = 64
        ∧ allRecords = allRecords.dropLast ++ [record 63 .follower 60 0 [63]])
      ∧ (eleven.hold.records[0]? = some (record 40 .held 1518 0 [0, 1, 2, 3, 4, 5])
        ∧ eleven.hold.stage = .idle)
      ∧ (let h := (holding
            ([record 40 .trigger 1518 0 [0, 1, 2, 3, 4, 5], record 41 .held 300 3 [6, 7]]
              ++ allRecords.drop 8) .loss eleven).hold
        h.records[1]? = some (record 41 .held 300 3 [6, 7]) ∧ h.stage = .loss
          ∧ h.freeBlocks.length = 0
          ∧ ∀ j < 1, (h.records[j]?.map HoldRecord.origin) = some .trigger) := by
  and_intros <;> decide +kernel

theorem witness_StoredBytesReadBack :
    HoldSound (handing .follower 3000 eleven) ∧ (handing .follower 3000 eleven).hold.pool.length = 64
      ∧ (handing .follower 3000 eleven).hold.appends = ⟨⟨List.replicate 3000 9, 5⟩, .follower⟩ :: []
      ∧ leaves (exec .holdAppend (handing .follower 3000 eleven)) (fun _ => true) = true := by
  and_intros <;> decide +kernel

theorem witness_SystemFramesAreReceived :
    (64 ≤ (List.replicate 64 (0 : Byte)).length
        ∧ (List.replicate 1518 (0 : Byte)).length
          ≤ (if isTagged (List.replicate 1518 0) then 1522 else 1518)
        ∧ (if isTagged (taggedOf 1523) then 1522 else 1518) < (taggedOf 1523).length)
      ∧ (let s := { offering [outbound] idle with arb := ⟨some (.system outbound), .system⟩ }
        s.sys.rx.length
            + (match s.arb.tx with
              | some (.system _) => 1
              | _ => 0) = 2)
      ∧ (offering [outbound] idle).sys.rx.length = 1 ∧ (offering [outbound] idle).arb.tx = none := by
  decide +kernel

/-- The drain of the list of 10.5 in a stage. -/
def draining (stage : HoldStage) : State :=
  inMode .drain (holding eleven.hold.records stage idle)

theorem witness_EgressIsGranted :
    (base true false).sys.ready = false
      ∧ ({ idle with sys := { idle.sys with tx := some ⟨.forward, []⟩ } } : State).sys.tx ≠ none
      ∧ (idle.sys.ready = true ∧ idle.sys.tx = none ∧ idle.sys.last = .control
        ∧ ({ idle with sys := { idle.sys with fwd := [outbound] } } : State).sys.fwd = outbound :: [])
      ∧ (({ idle with ctl := { idle.ctl with response := some [] } } : State).ctl.response = some []
        ∧ idle.sys.fwd = [] ∧ idle.modeCtl.mode ≠ .drain)
      ∧ (({ idle with reply := { idle.reply with notices := [2] } } : State).reply.notices = 2 :: []
        ∧ idle.ctl.response = none)
      ∧ (∀ st ∈ [HoldStage.idle, .lead, .notice, .frame, .loss],
        (draining st).sys.ready = true ∧ (draining st).sys.tx = none ∧ (draining st).modeCtl.mode = .drain
          ∧ (draining st).sys.fwd = [] ∧ (draining st).sys.last = .control ∧ (draining st).hold.stage = st
          ∧ (draining st).hold.leadCount = 0
          ∧ (draining st).hold.records.head? = some (record 40 .held 1518 0 [0, 1, 2, 3, 4, 5]))
      ∧ ({ draining .idle with hold := { (draining .idle).hold with leadCount := 255 } } : State).hold.leadCount
          ≠ 0
      ∧ ((draining .frame).ctl.response = none ∧ (draining .frame).reply.notices = []
        ∧ ({ draining .frame with sys := { idle.sys with last := .data } } : State).sys.last = .data)
      ∧ (let s := inMode .drain idle
        s.sys.fwd = [] ∧ s.hold.records = [] ∧ s.hold.leadCount = 0 ∧ s.hold.stage ≠ .lead) := by
  and_intros <;> decide +kernel

theorem witness_DeliveriesComplete :
    (∀ x ∈ [EgressItem.forward, .response, .rehearsal 2, .holdLead, .holdNotice, .holdFrame, .holdLoss],
        ({ draining .frame with sys := { idle.sys with tx := some ⟨x, []⟩ } } : State).sys.tx = some ⟨x, []⟩)
      ∧ (draining .frame).hold.records
          = record 40 .held 1518 0 [0, 1, 2, 3, 4, 5] :: eleven.hold.records.tail
      ∧ (record 40 .held 1518 0 [0, 1, 2, 3, 4, 5]).lossAfter = 0
      ∧ (record 40 .held 1518 255 [0, 1, 2, 3, 4, 5]).lossAfter ≠ 0 := by
  and_intros <;> decide +kernel

theorem witness_ChecksumsAreGood :
    (let m := withChecksum [] [8, 0] [0, 7, 0, 1, 0xFF] id;
      8 ≤ m.length ∧ beNat m 0 2 = 0x0800 ∧ sumGood m = true)
      ∧ (let m := withChecksum [] [8, 0] [0, 0, 0, 0] id;
        8 ≤ m.length ∧ beNat m 0 2 = 0x0800 ∧ sumGood m = true)
      ∧ (let m := withChecksum (pseudoHeader (.v6 1) (.v6 ip5) 9 58) [0x80, 0] [0, 7, 0, 1, 0xFF] id;
        8 ≤ m.length ∧ beNat m 0 2 = 0x8000
          ∧ sumGood (pseudoHeader (.v6 1) (.v6 ip5) m.length 58 ++ m) = true)
      ∧ (pseudoHeader (.v4 ip2) (.v4 gateway) 9 17).length % 2 = 0 := by
  decide +kernel

/-! ### Invariants, at a busy state -/

/-- The part in GUARD: replies in all slots, slot 1 in transmission, session 1 waiting to probe, records
held. -/
def busy : State :=
  { beforeLoss with
    hold := eleven.hold
    guardPath := { beforeLoss.guardPath with fifo := [item .guardPath] } }

theorem witness_invariants :
    (WakeLineRests busy ∧ QuietOutsideGuard busy) ∧ Sizes busy ∧ ListedDerived busy
      ∧ PressureSound busy ∧ FifoBounds busy ∧ HoldSound busy ∧ PassHoldsNothing busy
      ∧ SlotOrders busy ∧ ProbesWait busy := by
  and_intros <;> decide +kernel

theorem witness_invariants_steps :
    exec .tick busy = .next (countTick (settleTick busy))
      ∧ step (busy.setPending [.tick]) = .next (countTick (settleTick (busy.setPending []))) :=
  ⟨rfl, rfl⟩

theorem witness_OutsideGuardIsQuiet :
    WakeLineRests idle ∧ QuietOutsideGuard idle ∧ inGuard idle = false
      ∧ exec .tick idle = .next (countTick (settleTick idle)) :=
  ⟨by decide +kernel, by decide +kernel, by decide +kernel, rfl⟩

theorem witness_ModeChangesOnlyAsNamed :
    leaves (exec .enterGuard (offering [frameOf 0x10 []] idle))
        (fun t => t.modeCtl.mode != idle.modeCtl.mode) = true
      ∧ leaves (exec .leaveGuard (offering [frameOf 0x11 []] busy))
          (fun t => t.modeCtl.mode != busy.modeCtl.mode) = true := by
  decide +kernel

theorem witness_TablesAreFixedInGuard :
    busy.modeCtl.mode = .guard ∧ leaves (exec .classifyFrame heldType) (fun _ => true) = true
      ∧ (busy.session 1).running = true := by
  decide +kernel

end Sys2Proof.Tests
end

namespace Sys2Proof.Machine

/-! ### Entries of a table, by index -/

/-- What an index reads after an entry was changed in place. -/
theorem getD_modify {α : Type} (l : List α) (f : α → α) (k i : Nat) (d : α) :
    (l.modify k f).getD i d = if k = i ∧ i < l.length then f (l.getD i d) else l.getD i d := by
  simp only [List.getD_eq_getElem?_getD, List.getElem?_modify]
  by_cases hi : i < l.length <;> by_cases hk : k = i <;> simp [hi, hk]

/-- What an index reads after an entry was replaced. -/
theorem getD_set {α : Type} (l : List α) (a : α) (k i : Nat) (d : α) :
    (l.set k a).getD i d = if k = i ∧ i < l.length then a else l.getD i d := by
  simp only [List.getD_eq_getElem?_getD, List.getElem?_set]
  by_cases hi : i < l.length <;> by_cases hk : k = i <;> simp [hi, hk]

/-- A property that the default has holds of every entry just when every index reads it. -/
theorem forall_mem_iff_getD {α : Type} {p : α → Prop} {d : α} (hd : p d) (l : List α) :
    (∀ x ∈ l, p x) ↔ ∀ i, p (l.getD i d) := by
  constructor
  · intro h i
    by_cases hi : i < l.length
    · simpa [hi] using h _ (List.getElem_mem hi)
    · simpa [hi] using hd
  · intro h x hx
    obtain ⟨i, hi, rfl⟩ := List.mem_iff_getElem.1 hx
    simpa [hi] using h i

/-- A change in place that a projection does not see. -/
theorem map_modify_of_blind {α β : Type} {g : α → β} {f : α → α} (h : ∀ x, g (f x) = g x) (k : Nat)
    (l : List α) : (l.modify k f).map g = l.map g := by
  apply List.ext_getElem (by simp)
  intro i _ _
  simp only [List.getElem_map, List.getElem_modify]
  split <;> simp [h]

/-! ### What runs, and what the driver has loaded -/

/-- Nothing runs in the second state that did not run in the first: no session, no alarm and no timer, and a
probe waits only for a session that waited or ran. -/
structure RunsNoMore (s t : State) : Prop where
  session : ∀ i, (t.session i).running = true → (s.session i).running = true
  timer : ∀ i, (s.timer i).state = .stopped → (t.timer i).state = .stopped
  alarm : ∀ i, (t.alarm i).state = .running → (s.alarm i).state = .running
  probe : ∀ i ∈ t.probes, i ∈ s.probes ∨ (s.session i).running = true

/-- A match entry with its runtime field reset. -/
def MatchEntry.resetRuntime (e : MatchEntry) : MatchEntry := { e with hits := 0 }

/-- An identity with its runtime fields reset. -/
def Identity.resetRuntime (i : Identity) : Identity := { i with state := .ready, conflicts := 0 }

/-- A name with its runtime field reset. -/
def NameEntry.resetRuntime (e : NameEntry) : NameEntry := { e with answers := 0 }

/-- An alarm with its runtime field reset. -/
def Alarm.resetRuntime (a : Alarm) : Alarm := { a with state := .idle }

/-- The configuration and the loaded fields of the tables (R3): every runtime field reset. -/
def State.loaded (s : State) :
    ConfigRecord × List MatchEntry × List Identity × List NameEntry × List Session × List Alarm :=
  (s.ctl.cfg, s.matchTable.map MatchEntry.resetRuntime, s.identities.map Identity.resetRuntime,
    s.names.map NameEntry.resetRuntime, s.sessions.map Session.resetRuntime,
    s.bank.alarms.map Alarm.resetRuntime)

/-- A change that starts nothing and loads nothing. -/
structure Calm (s t : State) : Prop where
  runs : RunsNoMore s t
  loaded : t.loaded = s.loaded

theorem RunsNoMore.trans {s t u : State} (h : RunsNoMore s t) (k : RunsNoMore t u) : RunsNoMore s u where
  session i hi := h.session i (k.session i hi)
  timer i hi := k.timer i (h.timer i hi)
  alarm i hi := h.alarm i (k.alarm i hi)
  probe i hi := (k.probe i hi).elim (h.probe i) fun hr => .inr (h.session i hr)

theorem Calm.trans {s t u : State} (h : Calm s t) (k : Calm t u) : Calm s u :=
  ⟨h.runs.trans k.runs, k.loaded.trans h.loaded⟩

/-- A change of other blocks alone. -/
theorem RunsNoMore.of_eq {s t : State} (hs : t.sessions = s.sessions := by simp)
    (hp : t.probes = s.probes := by simp) (ht : t.bank.timers = s.bank.timers := by simp)
    (ha : t.bank.alarms = s.bank.alarms := by simp) : RunsNoMore s t where
  session i hi := by simpa [State.session, hs] using hi
  timer i hi := by simpa [State.timer, ht] using hi
  alarm i hi := by simpa [State.alarm, ha] using hi
  probe i hi := .inl (by simpa [hp] using hi)

/-- A change of other blocks alone, counters included. -/
theorem Calm.of_eq {s t : State} (hc : t.ctl.cfg = s.ctl.cfg := by simp)
    (hm : t.matchTable = s.matchTable := by simp) (hi : t.identities = s.identities := by simp)
    (hn : t.names = s.names := by simp) (hs : t.sessions = s.sessions := by simp)
    (hp : t.probes = s.probes := by simp) (ht : t.bank.timers = s.bank.timers := by simp)
    (ha : t.bank.alarms = s.bank.alarms := by simp) : Calm s t where
  runs := .of_eq hs hp ht ha
  loaded := by simp [State.loaded, hc, hm, hi, hn, hs, ha]

theorem Calm.refl (s : State) : Calm s s := .of_eq

/-! ### One rule per update: what is calm so far stays calm -/

section rules
variable {s t : State}

/-- A change of other blocks after a calm one. -/
theorem Calm.bump {c : Counter} (h : Calm s t) : Calm s (bump c t) := h.trans .of_eq

theorem Calm.fillSlot {i : Nat} {d : SlotDest} {k : ReplyKind} {n : Option Nat} {v4 : Bool} {f : Frame}
    (h : Calm s t) : Calm s (fillSlot i d k n v4 f t) := h.trans .of_eq

theorem Calm.sendRequest {r : WakeRequest} (h : Calm s t) : Calm s (sendRequest r t) := h.trans .of_eq

theorem Calm.handToHold {o : Origin} {f : HeldFrame} (h : Calm s t) : Calm s (handToHold o f t) :=
  h.trans .of_eq

theorem Calm.setReply {r : ReplyBuilder} (h : Calm s t) : Calm s (t.setReply r) := h.trans .of_eq

theorem RunsNoMore.setSessions {l : List Session} (h : RunsNoMore s t)
    (hr : ∀ i, (l.getD i Session.powerOn).running = true → (t.session i).running = true) :
    RunsNoMore s (t.setSessions l) :=
  h.trans
    { session := hr
      timer := fun _ => id
      alarm := fun _ => id
      probe := fun _ => .inl }

theorem RunsNoMore.setBank {b : TimerBank} (h : RunsNoMore s t)
    (ht : ∀ i, (t.timer i).state = .stopped → (b.timers.getD i Timer.powerOn).state = .stopped)
    (ha : ∀ i, (b.alarms.getD i Alarm.powerOn).state = .running → (t.alarm i).state = .running) :
    RunsNoMore s (t.setBank b) :=
  h.trans
    { session := fun _ => id
      timer := ht
      alarm := ha
      probe := fun _ => .inl }

/-- The sessions that wait to probe waited before, or run. -/
theorem Calm.setProbes {l : List Nat} (h : Calm s t)
    (hl : ∀ i ∈ l, i ∈ t.probes ∨ (t.session i).running = true) : Calm s (t.setProbes l) :=
  h.trans
    { runs :=
        { session := fun _ => id
          timer := fun _ => id
          alarm := fun _ => id
          probe := hl }
      loaded := rfl }

/-- A session changed in its runtime fields alone, and not made to run. -/
theorem Calm.modifySession {k : Nat} {f : Session → Session} (h : Calm s t)
    (hr : (f (t.session k)).running = true → (t.session k).running = true := by exact id)
    (hl : ∀ x, (f x).resetRuntime = x.resetRuntime := by exact fun _ => rfl) :
    Calm s (modifySession k f t) where
  runs := h.runs.setSessions fun i hi => by
    rw [getD_modify] at hi
    split at hi
    · rename_i hk
      obtain ⟨rfl, -⟩ := hk
      exact hr hi
    · exact hi
  loaded := by
    rw [← h.loaded]
    simp [State.loaded, Machine.modifySession, map_modify_of_blind hl]

/-- The timers changed, and a STOPPED one stays STOPPED. -/
theorem Calm.setTimers {b : TimerBank} (h : Calm s t)
    (ht : ∀ i, (t.timer i).state = .stopped → (b.timers.getD i Timer.powerOn).state = .stopped)
    (ha : b.alarms = t.bank.alarms) : Calm s (t.setBank b) where
  runs := h.runs.setBank ht fun i hi => by simpa [State.alarm, ha] using hi
  loaded := by
    rw [← h.loaded]
    simp [State.loaded, ha]

/-- A timer changed so that a STOPPED one stays STOPPED. -/
theorem Calm.modifyTimer {k : Nat} {f : Timer → Timer} (h : Calm s t)
    (hf : ∀ x : Timer, x.state = .stopped → (f x).state = .stopped) : Calm s (modifyTimer k f t) :=
  h.setTimers (ha := rfl) fun i hi => by
    rw [getD_modify]
    split
    · exact hf _ hi
    · exact hi

/-- An alarm changed in its state alone, and not made to run. -/
theorem Calm.modifyAlarm {k : Nat} {f : Alarm → Alarm} (h : Calm s t)
    (hr : ∀ a, (f a).state = .running → a.state = .running)
    (hl : ∀ a, (f a).resetRuntime = a.resetRuntime := by exact fun _ => rfl) :
    Calm s (modifyAlarm k f t) where
  runs := h.runs.setBank (fun _ => id) fun i hi => by
    rw [getD_modify] at hi
    split at hi
    · exact hr _ hi
    · exact hi
  loaded := by
    rw [← h.loaded]
    simp [State.loaded, Machine.modifyAlarm, map_modify_of_blind hl]

/-- An identity changed in its runtime fields alone. -/
theorem Calm.modifyIdentity {k : Nat} {f : Identity → Identity} (h : Calm s t)
    (hl : ∀ i, (f i).resetRuntime = i.resetRuntime := by exact fun _ => rfl) :
    Calm s (modifyIdentity k f t) where
  runs := h.runs.trans .of_eq
  loaded := by
    rw [← h.loaded]
    simp [State.loaded, Machine.modifyIdentity, map_modify_of_blind hl]

end rules

end Sys2Proof.Machine

namespace Sys2Proof.Machine

/-! ### What a responder can make of a frame -/

/-- A solicitation or advertisement is declined, dropped, a conflict, or answered (R67 to R71). -/
theorem judgeNd_cases (kind : AddressKind) (p : ParsedFrame) (s : State) :
    judgeNd kind p s = .decline s ∨ judgeNd kind p s = dropBadSum p s
      ∨ (∃ i form, judgeNd kind p s = handleConflict i form p s)
      ∨ judgeNd kind p s = answerSolicitation p s := by
  unfold judgeNd
  split
  · exact .inl rfl
  split
  · exact .inr (.inl rfl)
  split
  · exact .inl rfl
  split
  · exact .inl rfl
  split
  · exact .inr (.inr (.inl ⟨_, _, rfl⟩))
  split
  · exact .inr (.inr (.inr rfl))
  · exact .inl rfl

/-- The address responder declines a frame, drops it, handles a conflict or answers without an IPv4
identification (R66 to R76). -/
theorem judgeAddress_cases (p : ParsedFrame) (s : State) :
    judgeAddress p s = .decline s ∨ judgeAddress p s = dropBadSum p s
      ∨ (∃ i form, judgeAddress p s = handleConflict i form p s)
      ∨ ∃ c frame, judgeAddress p s = .done (answer p c false frame s) := by
  cases hk : addressKind p.fv with
  | none => exact .inl (by simp only [judgeAddress, hk])
  | some kind =>
    by_cases ha : kind = .arp
    · subst ha
      cases hc : arpConflict s p with
      | some j => exact .inr (.inr (.inl ⟨_, _, judgeAddress_of_arpConflict hk hc⟩))
      | none =>
        rw [judgeAddress_of_noArpConflict hk hc]
        unfold answerArp
        dsimp only
        split
        · exact .inr (.inr (.inr ⟨_, _, rfl⟩))
        · exact .inl rfl
    · rw [judgeAddress_of_nd hk ha]
      rcases judgeNd_cases kind p s with h | h | h | h
      · exact .inl h
      · exact .inr (.inl h)
      · exact .inr (.inr (.inl h))
      · rw [h]
        unfold answerSolicitation
        dsimp only
        split
        · exact .inr (.inr (.inr ⟨_, _, rfl⟩))
        · exact .inl rfl

/-- The echo responder declines a frame, drops it or answers it (R79 to R85). -/
theorem judgeEcho_cases (p : ParsedFrame) (s : State) :
    judgeEcho p s = .decline s ∨ judgeEcho p s = dropBadSum p s
      ∨ ∃ v4 frame, judgeEcho p s = .done (answer p .answerEcho v4 frame s) := by
  unfold judgeEcho
  dsimp only
  split
  · exact .inl rfl
  split
  · exact .inl rfl
  split
  · exact .inl rfl
  split
  · exact .inr (.inl rfl)
  split
  · exact .inl rfl
  split
  · exact .inl rfl
  · exact .inr (.inr ⟨_, _, rfl⟩)

/-- The name responder declines a frame, drops it or answers it from an entry (R89 to R96). -/
theorem judgeName_cases (p : ParsedFrame) (s : State) :
    judgeName p s = .decline s ∨ judgeName p s = dropBadSum p s
      ∨ ∃ entry v4 frame, judgeName p s = .done (answerName p entry v4 frame s) := by
  unfold judgeName
  dsimp only
  split
  · exact .inl rfl
  split
  · exact .inl rfl
  split
  · exact .inl rfl
  split
  · exact .inr (.inl rfl)
  unfold judgeQuery
  dsimp only
  split
  · exact .inl rfl
  split
  · exact .inl rfl
  split
  · exact .inl rfl
  split
  · exact .inl rfl
  split
  · exact .inr (.inr ⟨_, _, _, rfl⟩)
  · exact .inl rfl

section operations
variable {s t : State}

/-! ### Reply slots and timers -/

theorem Calm.buildProbe {slot i : Nat} (h : Calm s t) : Calm s (buildProbe slot i t) := by
  unfold Machine.buildProbe
  exact .bump (.modifySession (.fillSlot h))

/-- A slot handed on takes the head of the pending-probe list off it. -/
theorem Calm.freeAndHandOn {i : Nat} (h : Calm s t) : Calm s (freeAndHandOn i t) := by
  unfold Machine.freeAndHandOn
  dsimp only [State.setReply_probes]
  split
  · exact h.setReply
  · rename_i p rest hp
    refine .buildProbe (.setProbes h.setReply fun j hj => .inl ?_)
    simp [hp, hj]

theorem Calm.freeAllAndHandOn {l : List Nat} (h : Calm s t) : Calm s (freeAllAndHandOn l t) := by
  induction l generalizing t with
  | nil => exact h
  | cons i rest ih => exact ih h.freeAndHandOn

theorem Calm.countDiscarded {l : List Nat} (h : Calm s t) : Calm s (countDiscarded l t) := h.trans .of_eq

theorem Calm.discardLineReplies (h : Calm s t) : Calm s (discardLineReplies t) := by
  unfold Machine.discardLineReplies
  exact .freeAllAndHandOn (.countDiscarded (.setReply h))

/-- A probe falls due for a running session. -/
theorem Calm.probeDue {i : Nat} (h : Calm s t) (hr : (t.session i).running = true) :
    Calm s (probeDue i t) := by
  unfold Machine.probeDue
  split
  · exact h
  · split
    · exact h.buildProbe
    · refine h.setProbes fun j hj => ?_
      rcases List.mem_append.1 hj with hj | hj
      · exact .inl hj
      · rw [List.mem_singleton.1 hj]
        exact .inr hr

theorem Calm.stageTimer {i v : Nat} (h : Calm s t) : Calm s (stageTimer i v t) :=
  Calm.modifyTimer h fun x hx => by simp [hx]

theorem Calm.stopTimer {i : Nat} (h : Calm s t) : Calm s (stopTimer i t) :=
  Calm.modifyTimer h fun _ _ => rfl

/-- The owner's answer leaves a STOPPED timer as it is (R147). -/
theorem Timer.answered_of_stopped {x : Timer} (h : x.state = .stopped) : x.answered = x := by
  simp [Timer.answered, h]

theorem Calm.answered {i : Nat} (h : Calm s t) : Calm s (Machine.modifyTimer i Timer.answered t) :=
  Calm.modifyTimer h fun _ hx => (congrArg Timer.state (Timer.answered_of_stopped hx)).trans hx

/-! ### The keepalive unit -/

/-- A session reads EMPTY past the table's end, so a running one exists. -/
theorem lt_of_running {i : Nat} (h : (s.session i).running = true) : i < s.sessions.length := by
  refine Decidable.byContradiction fun hi => ?_
  simp [State.session, List.getD_eq_getElem?_getD, hi, Session.running, Session.powerOn] at h

/-- A running session changed in place reads as changed. -/
theorem session_modifySession_of_running {i : Nat} {f : Session → Session}
    (h : (s.session i).running = true) : (modifySession i f s).session i = f (s.session i) := by
  rw [State.session, modifySession, State.setSessions_sessions, getD_modify,
    if_pos ⟨rfl, lt_of_running h⟩]
  rfl

/-- A session that leaves its running state for one that is not running. -/
theorem Calm.leaveRunning {i : Nat} {x : SessionState} (h : Calm s t) (ha : x ≠ .alive)
    (hp : x ≠ .probing) : Calm s (leaveRunning i x t) := by
  unfold Machine.leaveRunning
  refine .setProbes (.stopTimer (.modifySession h ?_)) fun j hj => .inl ?_
  · simp [Session.running, ha, hp]
  · exact (List.mem_filter.1 hj).1

theorem Calm.detachAll {l : List Nat} (h : Calm s t) : Calm s (leaveRunningAll .detached l t) := by
  induction l generalizing t with
  | nil => exact h
  | cons i rest ih => exact ih (h.leaveRunning (by decide) (by decide))

theorem Calm.inspectOutbound {b : Frame} (h : Calm s t) : Calm s (inspectOutbound b t) := by
  unfold Machine.inspectOutbound
  dsimp only
  split
  · split
    · exact h.detachAll
    · exact h
  · exact h

theorem Calm.expiryAlive {i : Nat} {staged : Bool} (h : Calm s t) (hr : (t.session i).running = true) :
    Calm s (expiryAlive i staged t) := by
  unfold Machine.expiryAlive
  split
  · exact h
  · refine .probeDue (.stageTimer (.modifySession h fun _ => hr)) ?_
    rw [State.session, stageTimer_sessions, ← State.session, session_modifySession_of_running hr]
    rfl

theorem Calm.expiryProbing {i : Nat} (h : Calm s t) (hr : (t.session i).running = true) :
    Calm s (expiryProbing i t) := by
  unfold Machine.expiryProbing
  dsimp only
  split
  · refine .probeDue (.modifySession h) ?_
    rw [session_modifySession_of_running hr]
    exact hr
  · exact .sendRequest (.leaveRunning (.modifySession h) (by decide) (by decide))

theorem Calm.liveness {i : Nat} {tsval : Option (BitVec 32)} (h : Calm s t)
    (hr : (t.session i).running = true) : Calm s (liveness i tsval t) := by
  unfold Machine.liveness
  exact .setProbes (.stageTimer (.modifySession h fun _ => hr)) fun _ hj => .inl (List.mem_filter.1 hj).1

/-- Building a reply fills a slot and nothing else. -/
theorem Calm.buildReply {p : Path} {k : ReplyKind} {n : Option Nat} {v4 : Bool}
    {frame : BitVec 16 → Frame} {u : State} (h : Calm s t) (hb : buildReply p k n v4 frame t = some u) :
    Calm s u := by
  obtain ⟨i, -, rfl⟩ := buildReply_some hb
  exact h.fillSlot

theorem Calm.ackReply {i : Nat} {p : ParsedFrame} (h : Calm s t) : Calm s (ackReply i p t) := by
  unfold Machine.ackReply
  dsimp only
  split
  · rename_i hb
    exact .bump (.modifySession (h.buildReply hb))
  · exact h.trans .of_eq

theorem Calm.passOn {i cls : Nat} {x : SessionState} {cause : WakeCause} {p : ParsedFrame} (h : Calm s t)
    (ha : x ≠ .alive) (hp : x ≠ .probing) : Calm s (passOn i x cls cause p t).state :=
  .sendRequest (h.leaveRunning ha hp)

theorem Calm.judgeSegment {i : Nat} {p : ParsedFrame} (h : Calm s t) (hr : (t.session i).running = true) :
    Calm s (judgeSegment i p t).state := by
  have ended : Calm s (Machine.passOn i .ended (t.session i).endCls .sessionEnd p t).state :=
    h.passOn (by decide) (by decide)
  have live : Calm s (Machine.liveness i (segmentTsval (t.session i) p) t) := h.liveness hr
  unfold Machine.judgeSegment
  dsimp only
  split
  · exact ended
  split
  · split
    · exact ended
    · exact .bump h
  split
  · exact ended
  split
  · exact h.passOn (by decide) (by decide)
  split
  · exact .ackReply live
  split
  · exact .ackReply live
  split
  · split
    · exact .bump h
    · exact live
  · exact .bump h

theorem Calm.judgeSession {p : ParsedFrame} (h : Calm s t) : Calm s (judgeSession p t).state := by
  unfold Machine.judgeSession
  dsimp only
  split
  · exact h
  split
  · exact h
  split
  · exact h
  split
  · exact h
  split
  · exact .bump h
  · rename_i hr _
    exact h.judgeSegment (by simpa using hr)

/-! ### The responders and the classifier -/

/-- A conflict changes runtime fields of one identity and detaches the sessions on it (R72, R73). -/
theorem Calm.handleConflict {id : Nat} {form : ConflictForm} {p : ParsedFrame} (h : Calm s t) :
    Calm s (handleConflict id form p t).state := by
  have defended : Calm s (defend form (t.identity id) p t) := h.trans .of_eq
  unfold Machine.handleConflict countConflict detachIdentity
  dsimp only
  split
  · split
    · exact h
    · exact .sendRequest defended
  split
  · exact .bump (.modifyIdentity h)
  · split
    · exact .sendRequest (.detachAll (.bump (.modifyIdentity (.modifyIdentity defended))))
    · exact .handToHold (.detachAll (.bump (.modifyIdentity (.modifyIdentity defended))))

theorem Calm.judgeAddress {p : ParsedFrame} (h : Calm s t) : Calm s (judgeAddress p t).state := by
  rcases judgeAddress_cases p t with e | e | ⟨i, form, e⟩ | ⟨c, frame, e⟩ <;> rw [e]
  · exact h
  · exact h.trans .of_eq
  · exact h.handleConflict
  · exact h.trans .of_eq

/-- A name's answer count is a runtime field (R86, R96). -/
theorem Calm.answerName {p : ParsedFrame} {entry : Nat} {v4 : Bool} {frame : BitVec 16 → Frame}
    (h : Calm s t) : Calm s (answerName p entry v4 frame t) := by
  unfold Machine.answerName
  split
  · rename_i u hb
    have hu := h.buildReply hb
    split
    · exact hu
    · refine .bump ⟨hu.runs.trans .of_eq, ?_⟩
      rw [← hu.loaded]
      simp only [State.loaded, State.setNames_names]
      rw [map_modify_of_blind fun _ => by rfl]
      rfl
  · exact h.trans .of_eq

theorem Calm.judgeName {p : ParsedFrame} (h : Calm s t) : Calm s (judgeName p t).state := by
  rcases judgeName_cases p t with e | e | ⟨k, v4, frame, e⟩ <;> rw [e]
  · exact h
  · exact h.trans .of_eq
  · exact .answerName h

theorem Calm.afterResponder {entry : Nat} {e : MatchEntry} {p : ParsedFrame} {j : Judged}
    (h : Calm s j.state) : Calm s (afterResponder entry e p j) := by
  unfold Machine.afterResponder
  split
  · exact h.trans .of_eq
  · exact h

theorem Calm.carryOut {entry : Nat} {e : MatchEntry} {p : ParsedFrame} (h : Calm s t) :
    Calm s (carryOut entry e p t) := by
  unfold Machine.carryOut
  split
  · exact h
  · exact h.trans .of_eq
  · exact h.trans .of_eq
  · exact h.judgeAddress.afterResponder
  · exact .afterResponder (h.trans .of_eq)
  · exact h.judgeName.afterResponder
  · exact h.judgeSession.afterResponder

/-- An entry's hit count is a runtime field (R41, R44). -/
theorem Calm.classify {p : ParsedFrame} (h : Calm s t) : Calm s (classify p t) := by
  unfold Machine.classify
  split
  · refine .carryOut ⟨h.runs.trans .of_eq, ?_⟩
    rw [← h.loaded]
    simp only [State.loaded, State.setMatchTable_matchTable]
    rw [map_modify_of_blind fun _ => by rfl]
    rfl
  · dsimp only
    split
    · exact h.trans .of_eq
    · exact h.bump

/-! ### Alarms, the link and the ports -/

theorem Calm.alarmExpires {n : Nat} (h : Calm s t) : Calm s (alarmExpires n t) := by
  unfold Machine.alarmExpires
  dsimp only
  split
  · exact .answered (.modifyAlarm (.sendRequest h) fun _ hx => AlarmState.noConfusion hx)
  · exact .answered (.sendRequest h)

/-- A gated timer freezes only where it runs (R148). -/
theorem freezeFrom_getD_of_stopped (k : Nat) (l : List Timer) (i : Nat)
    (h : (l.getD i Timer.powerOn).state = .stopped) :
    ((freezeFrom k l).getD i Timer.powerOn).state = .stopped := by
  induction l generalizing k i with
  | nil => rfl
  | cons x rest ih =>
    cases i with
    | zero =>
      have hx : x.state = .stopped := h
      simp [freezeFrom, hx]
    | succ i => simpa [freezeFrom] using ih (k + 1) i (by simpa using h)

theorem Calm.linkLostRequest (h : Calm s t) : Calm s (linkLostRequest t) := h.trans .of_eq

theorem Calm.linkLost (h : Calm s t) : Calm s (linkLost t) := by
  have cut : Calm s (cutTransmission (t.setLinePort ⟨false, true⟩)) := h.trans .of_eq
  unfold Machine.linkLost
  exact .linkLostRequest (.setTimers (.discardLineReplies cut) (freezeFrom_getD_of_stopped 0 _) rfl)

theorem Calm.grantLine (h : Calm s t) : Calm s (grantLine t) := by
  have reply : ∀ i, Calm s (grantReply i t) := fun _ => h.trans .of_eq
  have system : ∀ f, Calm s (grantSystem f t) := fun _ => .inspectOutbound (h.trans .of_eq)
  unfold Machine.grantLine
  split
  · exact reply _
  · exact system _
  · split
    · exact reply _
    · exact system _
  · exact h

theorem Calm.completeItem {item : EgressItem} (h : Calm s t) : Calm s (completeItem item t) := by
  unfold Machine.completeItem
  split
  · exact h.trans .of_eq
  · exact h.trans .of_eq
  · exact .freeAndHandOn (.setReply h)
  · exact h.trans .of_eq
  · exact h.trans .of_eq
  · exact h.trans .of_eq
  · exact h.trans .of_eq

/-- All timers changed by one function that leaves a STOPPED timer STOPPED. -/
theorem map_getD_of_stopped {f : Timer → Timer} (hf : ∀ x, x.state = .stopped → (f x).state = .stopped)
    (l : List Timer) (i : Nat) (h : (l.getD i Timer.powerOn).state = .stopped) :
    ((l.map f).getD i Timer.powerOn).state = .stopped := by
  by_cases hi : i < l.length
  · simp only [List.getD_eq_getElem?_getD, List.getElem?_map, List.getElem?_eq_getElem hi] at h ⊢
    exact hf _ h
  · simp [List.getD_eq_getElem?_getD, hi, Timer.powerOn]

theorem Calm.countTick (h : Calm s t) : Calm s (countTick t) := by
  refine .trans (.setTimers h (b := tickAtBank (inGuard t) t.bank)
    (map_getD_of_stopped (fun x hx => ?_) _) rfl) (.of_eq (ht := rfl) (ha := rfl))
  simp [Timer.tick, hx]

/-- A timer thaws only where it is FROZEN (R148). -/
theorem Calm.linkUp {p : LinePort} (h : Calm s t) :
    Calm s ((t.setLinePort p).setBank { t.bank with timers := t.bank.timers.map Timer.thaw }) := by
  refine .setTimers (h.trans .of_eq) (map_getD_of_stopped (fun x hx => ?_) _) rfl
  simp [Timer.thaw, hx]

end operations
end Sys2Proof.Machine

namespace Sys2Proof.Machine

/-! ### What a control command can do to the state -/

/-- A control command does nothing, or is taken and answered: refused in the state without its frame, or done
by its own act (R185, R186). -/
theorem takeCommand_cases (code length : Nat) (act : Frame → State → Answer) (s : State) :
    takeCommand code length act s = s
      ∨ ∃ h a, takeCommand code length act s = respond h a
          ∧ (a.state = takeHead s ∨ ∃ b, a = act b (takeHead s)) := by
  unfold takeCommand
  split
  · exact .inl rfl
  · split
    · refine .inr ⟨_, _, rfl, ?_⟩
      split
      · exact .inl rfl
      split
      · exact .inl rfl
      · exact .inr ⟨_, rfl⟩
    · exact .inl rfl

/-- A state that differs from another only in what a control command may write outside guard. -/
structure Written (s t : State) : Prop where
  modeCtl : t.modeCtl = s.modeCtl
  runs : RunsNoMore s t
  loaded : inGuard s = true → t.loaded = s.loaded

section written
variable {s u : State}

theorem Written.of_calm (h : Calm s u) (hm : u.modeCtl = s.modeCtl := by simp) : Written s u :=
  ⟨hm, h.runs, fun _ => h.loaded⟩

/-- A write outside guard that starts nothing. -/
theorem Written.outside {t : State} (h : Written s t) (hg : inGuard s = false) (hr : RunsNoMore t u)
    (hm : u.modeCtl = t.modeCtl := by simp) : Written s u :=
  ⟨hm.trans h.modeCtl, h.runs.trans hr, fun h' => absurd h' (by simp [hg])⟩

/-- A change of blocks that are neither loaded nor running. -/
theorem Written.after_calm {t : State} (h : Written s t) (hu : Calm t u)
    (hm : u.modeCtl = t.modeCtl := by simp) : Written s u :=
  ⟨hm.trans h.modeCtl, h.runs.trans hu.runs, fun hg => hu.loaded.trans (h.loaded hg)⟩

theorem calm_takeHead (s : State) : Calm s (takeHead s) := .of_eq

theorem calm_respond (h : ControlHeader) (a : Answer) : Calm a.state (respond h a) :=
  .of_eq rfl rfl rfl rfl rfl rfl rfl rfl

/-- PASS and DRAIN, the modes for writes, are not guard (R3). -/
theorem inGuard_of_admitsWrites (h : admitsWrites s = true) : inGuard s = false := by
  unfold admitsWrites at h
  unfold inGuard
  cases hm : s.modeCtl.mode <;> simp [hm] at h ⊢

theorem Written.writing {act : Frame → State → Answer} {b : Frame} (h : Written s u)
    (hact : inGuard s = false → Written s (act b u).state) : Written s (writing act b u).state := by
  unfold Machine.writing
  split
  · rename_i ha
    have hg : inGuard u = false := inGuard_of_admitsWrites ha
    rw [inGuard, h.modeCtl] at hg
    exact hact hg
  · exact h

theorem Written.indexed {n : Nat} {act : Nat → Frame → State → Answer} {b : Frame} (h : Written s u)
    (hact : ∀ i, Written s (act i b u).state) : Written s (indexed n act b u).state := by
  unfold Machine.indexed
  split
  · exact hact _
  · exact h

theorem Written.storing {α : Type} {value : Option α} {store : α → State → State} (h : Written s u)
    (hstore : ∀ x, value = some x → Written s (store x u)) : Written s (storing value store u).state := by
  unfold Machine.storing
  split
  · exact hstore _ rfl
  · exact h

/-- A command whose act writes at most what `Written` allows. -/
theorem written_takeCommand {code length : Nat} {act : Frame → State → Answer}
    (hact : ∀ b u, Written s u → Written s (act b u).state) :
    Written s (takeCommand code length act s) := by
  have taken : Written s (takeHead s) := .of_calm (calm_takeHead s)
  rcases takeCommand_cases code length act s with h | ⟨h, a, he, ha | ⟨b, rfl⟩⟩
  · rw [h]
    exact .of_calm .of_eq
  · rw [he]
    exact (ha ▸ taken).after_calm (calm_respond h a) rfl
  · rw [he]
    exact (hact b _ taken).after_calm (calm_respond h _) rfl

end written

/-! ### The entries that a write stores do not run -/

theorem resetRuntime_not_running (x : Session) : x.resetRuntime.running = false := by
  cases hv : x.valid <;> simp [Session.resetRuntime, Session.running, hv]

theorem decodeSession_not_running {b : Frame} {x : Session} (h : decodeSession b = some x) :
    x.running = false := by
  simp only [decodeSession, Option.bind_eq_bind, Option.bind_eq_some_iff, Option.ite_none_right_eq_some,
    Option.some.injEq] at h
  obtain ⟨_, _, _, _, _, _, _, rfl⟩ := h
  exact resetRuntime_not_running _

theorem decodeAlarm_idle {b : Frame} {a : Alarm} (h : decodeAlarm b = some a) : a.state = .idle := by
  simp only [decodeAlarm, Option.bind_eq_bind, Option.bind_eq_some_iff, Option.ite_none_right_eq_some,
    Option.some.injEq] at h
  obtain ⟨_, _, _, _, _, rfl⟩ := h
  rfl

section stores
variable {s : State}

theorem runsNoMore_storeSession {i : Nat} {x : Session} (h : x.running = false) :
    RunsNoMore s (storeSession i x s) :=
  RunsNoMore.setSessions .of_eq fun k hk => by
    rw [getD_set] at hk
    split at hk
    · simp [h] at hk
    · exact hk

theorem runsNoMore_storeAlarm {i : Nat} {a : Alarm} (h : a.state = .idle) :
    RunsNoMore s (storeAlarm i a s) :=
  RunsNoMore.setBank .of_eq (fun _ => id) fun k hk => by
    rw [getD_set] at hk
    split at hk
    · simp [h] at hk
    · exact hk

/-- A table cleared runs nothing. -/
theorem getD_map_const {α : Type} (l : List α) (d : α) (i : Nat) : (l.map fun _ => d).getD i d = d := by
  by_cases hi : i < l.length <;> simp [List.getD_eq_getElem?_getD, hi]

theorem runsNoMore_clearedTable {k : Nat} {t : State} (h : clearedTable k s = some t) :
    t.modeCtl = s.modeCtl ∧ RunsNoMore s t := by
  unfold clearedTable at h
  split at h <;> cases h
  · exact ⟨rfl, .of_eq⟩
  · exact ⟨rfl, .of_eq⟩
  · exact ⟨rfl, .of_eq⟩
  · exact ⟨rfl, RunsNoMore.setSessions .of_eq fun i hi => by rw [getD_map_const] at hi; cases hi⟩
  · exact ⟨rfl, RunsNoMore.setBank .of_eq (fun _ => id) fun i hi => by rw [getD_map_const] at hi; cases hi⟩

end stores
end Sys2Proof.Machine

namespace Sys2Proof.Machine

/-! ### Nothing runs -/

/-- No probe waits and no timer, session or alarm runs (R149). -/
abbrev Quiet (s : State) : Prop :=
  s.probes = [] ∧ (∀ t ∈ s.bank.timers, t.state = .stopped) ∧ (∀ x ∈ s.sessions, x.running = false)
    ∧ ∀ a ∈ s.bank.alarms, a.state ≠ .running

theorem quiet_iff (s : State) :
    Quiet s ↔ s.probes = [] ∧ (∀ i, (s.timer i).state = .stopped) ∧ (∀ i, (s.session i).running = false)
      ∧ ∀ i, (s.alarm i).state ≠ .running := by
  unfold Quiet
  rw [forall_mem_iff_getD (p := fun t : Timer => t.state = .stopped) (d := Timer.powerOn) rfl,
    forall_mem_iff_getD (p := fun x : Session => x.running = false) (d := Session.powerOn) rfl,
    forall_mem_iff_getD (p := fun a : Alarm => a.state ≠ .running) (d := Alarm.powerOn) (by decide)]
  rfl

/-- Where nothing runs, a change that starts nothing leaves nothing running. -/
theorem RunsNoMore.quiet {s t : State} (h : RunsNoMore s t) (hq : Quiet s) : Quiet t := by
  obtain ⟨hp, ht, hs, ha⟩ := (quiet_iff s).1 hq
  have idle : ∀ i, (t.session i).running = true → False := fun i hi => by
    simpa [hs i] using h.session i hi
  refine (quiet_iff t).2 ⟨?_, fun i => h.timer i (ht i), fun i => by simpa using idle i,
    fun i hi => ha i (h.alarm i hi)⟩
  refine List.eq_nil_iff_forall_not_mem.2 fun i hi => ?_
  rcases h.probe i hi with h' | h'
  · simp [hp] at h'
  · simp [hs i] at h'

/-- A state in which nothing runs runs no more than any other. -/
theorem RunsNoMore.of_quiet {s t : State} (hq : Quiet t) : RunsNoMore s t := by
  obtain ⟨hp, ht, hs, ha⟩ := (quiet_iff t).1 hq
  exact
    { session := fun i hi => by simp [hs i] at hi
      timer := fun i _ => ht i
      alarm := fun i hi => absurd hi (ha i)
      probe := fun i hi => by simp [hp] at hi }

/-! ### What a command can do to the mode -/

/-- The six ways in which a command can leave the mode controller: R1's five changes of the mode, each with its
command or its condition, and none. -/
inductive Move (c : Instr) (s t : State) : Prop
  /-- The mode stays; the wake line moves in WAKING alone, if it rests elsewhere. -/
  | stays (mode : t.modeCtl.mode = s.modeCtl.mode) (rests : WakeLineRests s → WakeLineRests t)
  /-- The end of DRAIN (R12). -/
  | drains (before : s.modeCtl.mode = .drain) (after : t.modeCtl = { s.modeCtl with mode := .pass })
      (records : t.hold.records = []) (pending : guardPending t = false)
      (waiting : drainedWaiting t = false)
  /-- A wake assertion (R8). -/
  | wakes (before : s.modeCtl.mode = .guard) (after : t.modeCtl.mode = .waking)
      (cause : c = .quietIntervalEnd ∨ c = .tick ∨ ∃ place, c = .wakeRequest place)
  /-- Guard entry (R6). -/
  | enters (before : s.modeCtl.mode = .pass) (after : t.modeCtl = { s.modeCtl with mode := .guard })
      (cause : c = .enterGuard)
  /-- Guard exit (R10, R11). -/
  | leaves (before : inGuard s = true) (cause : c = .leaveGuard) (quiet : Quiet t) (m : Mode)
      (next : m = .drain ∨ m = .pass) (after : t.modeCtl = ModeCtl.atRest m)
  /-- A reset (R195, R196). -/
  | resets (cause : c = .softReset ∨ c = .powerOnReset) (quiet : Quiet t)
      (after : t.modeCtl = ModeCtl.atRest .pass)

/-- What every command's step keeps to: the mode moves as R1 says, ENTER_GUARD alone starts anything, and that
in guard, and in guard a power-on reset alone changes what is loaded. -/
structure Turn (c : Instr) (s t : State) : Prop where
  move : Move c s t
  runs : RunsNoMore s t ∨ c = .enterGuard ∧ inGuard t = true
  loaded : inGuard s = true → c ≠ .powerOnReset → t.loaded = s.loaded

section turns
variable {c : Instr} {s t u : State}

theorem Move.of_eq (h : t.modeCtl = s.modeCtl) : Move c s t :=
  .stays (by rw [h]) fun hs => by rwa [WakeLineRests, h]

theorem Turn.of_written (h : Written s t) : Turn c s t :=
  ⟨.of_eq h.modeCtl, .inl h.runs, fun hg _ => h.loaded hg⟩

theorem Turn.of_calm (h : Calm s t) (m : Move c s t) : Turn c s t :=
  ⟨m, .inl h.runs, fun _ _ => h.loaded⟩

/-- A calm step that leaves the mode controller alone. -/
theorem Turn.steady (h : Calm s t) (hm : t.modeCtl = s.modeCtl := by simp) : Turn c s t :=
  .of_calm h (.of_eq hm)

theorem move_endDrain (hm : t.modeCtl = s.modeCtl) : Move c s (endDrain t) := by
  rcases endDrain_cases t with h | ⟨hd, hr, hp, hw, h⟩ <;> rw [h]
  · exact .of_eq hm
  · exact .drains (hm ▸ hd) (by simp [setMode, hm]) hr hp hw

/-- A calm step after which DRAIN may end. -/
theorem Turn.draining (h : Calm s t) (hm : t.modeCtl = s.modeCtl := by simp) : Turn c s (endDrain t) :=
  .of_calm (h.trans .of_eq) (move_endDrain hm)

/-! ### The wake line (R13 to R18) -/

/-- A step of the wake line's own: the mode stays, and outside WAKING a line at rest is not touched. -/
structure HandshakeMove (m m' : ModeCtl) : Prop where
  mode : m'.mode = m.mode
  rests : m.mode ≠ .waking → m = ModeCtl.atRest m.mode → m' = m

theorem HandshakeMove.refl (m : ModeCtl) : HandshakeMove m m := ⟨rfl, fun _ _ => rfl⟩

theorem HandshakeMove.trans {a b d : ModeCtl} (h : HandshakeMove a b) (k : HandshakeMove b d) :
    HandshakeMove a d :=
  ⟨k.mode.trans h.mode, fun hw hr => by
    obtain rfl := h.rests hw hr
    exact k.rests hw hr⟩

theorem Move.of_handshake (h : HandshakeMove s.modeCtl t.modeCtl) : Move c s t :=
  .stays h.mode fun hs hw => by
    have hw' : s.modeCtl.mode ≠ .waking := h.mode ▸ hw
    rw [h.rests hw' (hs hw')]
    exact hs hw'

theorem windowEndInGap_mode (s : State) : (windowEndInGap s).modeCtl.mode = s.modeCtl.mode := by
  unfold windowEndInGap
  split
  · rfl
  · rfl

theorem pulseEnd_move (s : State) : HandshakeMove s.modeCtl (pulseEnd s).modeCtl := by
  unfold pulseEnd
  split
  · rename_i h
    refine ⟨?_, fun _ hr => ?_⟩
    · dsimp only
      split
      · exact windowEndInGap_mode _
      · rfl
    · rw [hr] at h
      simp [ModeCtl.atRest] at h
  · exact .refl _

theorem resumeWindowEnd_move (s : State) : HandshakeMove s.modeCtl (resumeWindowEnd s).modeCtl := by
  unfold resumeWindowEnd
  split
  · rename_i h
    refine ⟨?_, fun _ hr => ?_⟩
    · split
      · exact windowEndInGap_mode _
      · rfl
      · rfl
    · rw [hr] at h
      simp [ModeCtl.atRest] at h
  · exact .refl _

/-- A tick moves no countdown that is stopped. -/
theorem tickAtWakeLine_move (m : ModeCtl) : HandshakeMove m (tickAtWakeLine m) :=
  ⟨rfl, fun _ hr => by rw [hr]; rfl⟩

/-! ### A wake assertion (R8, R158) -/

theorem beginWaking_mode (g : ConfigRecord) (ready : Bool) (m : ModeCtl) :
    (beginWaking g ready m).mode = .waking := by
  rw [beginWaking_eq_handshake]
  unfold handshake
  split <;> rfl

theorem assertWake_mode (cls : Nat) (cause : WakeCause) (source : Nat) (frame : Option HeldFrame) (s : State) :
    (assertWake cls cause source frame s).modeCtl.mode = .waking := by
  unfold assertWake
  cases frame <;> simp [beginWaking_mode]

/-- A quiet interval's end in GUARD asserts a deferred wake or leaves the mode controller alone (R162). -/
theorem takeHeldTick_modeCtl (s : State) :
    (takeHeldTick s).modeCtl = s.modeCtl
      ∨ (s.modeCtl.mode = .guard ∧ (takeHeldTick s).modeCtl.mode = .waking) := by
  unfold takeHeldTick
  split
  · dsimp only
    split
    · unfold endQuietInterval deferredWake
      split
      · rename_i h
        exact .inr ⟨by simpa using h.2.1, by simp [assertWake_mode]⟩
      · exact .inl (by simp)
    · exact .inl (by simp)
  · exact .inl rfl

theorem restartRequest_mode (g : ConfigRecord) (ready : Bool) (m : ModeCtl) :
    (restartRequest g ready m).mode = m.mode := by
  unfold restartRequest startCycle
  split
  · cases ready <;> rfl
  · rfl

theorem laterCause_mode (r : WakeRequest) (s : State) : (laterCause r s).modeCtl.mode = s.modeCtl.mode := by
  unfold laterCause
  dsimp only
  split <;> simp [restartRequest_mode]

/-- A request judged in GUARD asserts a wake or leaves the mode controller alone; in WAKING the mode stays;
elsewhere the mode controller is left alone (R157 to R164). -/
theorem judgeRequest_modeCtl (r : WakeRequest) (s : State) :
    (judgeRequest r s).modeCtl = s.modeCtl
      ∨ (s.modeCtl.mode = .guard ∧ (judgeRequest r s).modeCtl.mode = .waking)
      ∨ (s.modeCtl.mode = .waking ∧ (judgeRequest r s).modeCtl.mode = .waking) := by
  unfold judgeRequest
  split
  · exact .inl (by simp)
  split
  · rename_i hm
    split
    · exact .inl (by simp)
    split
    · exact .inr (.inl ⟨hm, assertWake_mode ..⟩)
    · exact .inl (by simp)
  · rename_i hm
    split
    · exact .inl (by simp)
    · exact .inr (.inr ⟨hm, by rw [laterCause_mode, hm]⟩)
  · exact .inl (by simp)
  · exact .inl rfl

end turns
end Sys2Proof.Machine

namespace Sys2Proof.Machine

section commands
variable {c : Instr} {s t : State}

/-! ### Guard entry, guard exit and the resets -/

/-- A command refused: its frame is taken and answered. -/
theorem turn_refused {h : ControlHeader} {a : Answer} (ha : a.state = takeHead s) : Turn c s (respond h a) := by
  refine .steady (.trans (calm_takeHead s) (ha ▸ calm_respond h a)) ?_
  calc (respond h a).modeCtl = a.state.modeCtl := rfl
    _ = s.modeCtl := by rw [ha]; rfl

/-- A control command is a turn where its own act is one. -/
theorem turn_of_act {code length : Nat} {act : Frame → State → Answer}
    (hact : ∀ h b, Turn c s (respond h (act b (takeHead s)))) : Turn c s (takeCommand code length act s) := by
  rcases takeCommand_cases code length act s with h | ⟨h, a, he, ha | ⟨b, rfl⟩⟩
  · rw [h]
    exact .steady .of_eq rfl
  · rw [he]
    exact turn_refused ha
  · rw [he]
    exact hact h b

theorem softReset_quiet (s : State) : Quiet (softReset s) := by
  refine ⟨rfl, ?_, ?_, ?_⟩ <;>
    simp [softReset, softResetGuard, softResetReplies, softResetDelivery, Timer.stop,
      resetRuntime_not_running]

theorem resetRuntime_resetRuntime (x : Session) : x.resetRuntime.resetRuntime = x.resetRuntime := rfl

theorem softReset_loaded (s : State) : (softReset s).loaded = s.loaded := by
  simp [State.loaded, softReset, softResetGuard, softResetReplies, softResetDelivery, Function.comp_def,
    Identity.resetRuntime, Alarm.resetRuntime, resetRuntime_resetRuntime]

theorem turn_softReset : Turn .softReset s (takeCommand 0x14 0 (fun _ s => .done [] (softReset s)) s) :=
  turn_of_act fun h _ => by
    have quiet : Quiet (respond h (.done [] (softReset (takeHead s)))) := softReset_quiet (takeHead s)
    exact ⟨.resets (.inl rfl) quiet rfl, .inl (.of_quiet quiet), fun _ _ => softReset_loaded _⟩

theorem powerOnReset_quiet (s : State) :
    Quiet { State.reset with pending := s.pending, sys := { State.reset.sys with ready := s.sys.ready } } :=
  have h : Quiet State.reset := ⟨rfl, by decide, by decide, by decide⟩
  h

theorem guardExit_quiet (s : State) : Quiet (guardExit s) := by
  refine ⟨rfl, ?_, ?_, ?_⟩
  · simp [guardExit, stopAllTimers, Timer.stop]
  · simp only [guardExit, State.setModeCtl_sessions, State.setWake_sessions, State.setProbes_sessions,
      State.setSessions_sessions, List.mem_map, forall_exists_index, and_imp]
    rintro _ x - rfl
    unfold Session.leave
    split
    · rfl
    · rename_i hx
      simpa using hx
  · simp only [guardExit, State.setModeCtl_bank, State.setWake_bank, State.setProbes_bank,
      State.setSessions_bank, State.setBank_bank, List.mem_map, forall_exists_index, and_imp]
    rintro _ a - rfl
    unfold Alarm.leave
    split
    · exact fun h => AlarmState.noConfusion h
    · assumption

theorem leave_resetRuntime (x : Session) : x.leave.resetRuntime = x.resetRuntime := by
  unfold Session.leave
  split <;> rfl

theorem alarm_leave_resetRuntime (a : Alarm) : a.leave.resetRuntime = a.resetRuntime := by
  unfold Alarm.leave
  split <;> rfl

theorem guardExit_loaded (s : State) : (guardExit s).loaded = s.loaded := by
  simp [State.loaded, guardExit, stopAllTimers, Function.comp_def, leave_resetRuntime,
    alarm_leave_resetRuntime]

theorem turn_leaveGuard : Turn .leaveGuard s (takeCommand 0x11 0 (fun _ s => leaveGuard s) s) :=
  turn_of_act fun h _ => by
    unfold leaveGuard
    split
    · rename_i hg
      have quiet : Quiet (respond h
          (.done (leaveGuardBody (guardExit (takeHead s))) (guardExit (takeHead s)))) :=
        guardExit_quiet (takeHead s)
      refine ⟨.leaves hg rfl quiet _ ?_ rfl, .inl (.of_quiet quiet), fun _ _ => guardExit_loaded _⟩
      split
      · exact .inr rfl
      · exact .inl rfl
    · exact turn_refused rfl

/-- Guard entry is from PASS, and touches the mode alone of the mode controller; refused, it leaves all. -/
theorem enterGuard_cases (s : State) :
    (enterGuard s).state = s
      ∨ (s.modeCtl.mode = .pass ∧ (enterGuard s).state = guardEntry s) := by
  unfold enterGuard
  split
  · exact .inl rfl
  split
  · exact .inl rfl
  split
  · exact .inl rfl
  · rename_i hm _ _ _
    exact .inr ⟨by simpa using hm, rfl⟩

theorem guardEntry_modeCtl (s : State) : (guardEntry s).modeCtl = { s.modeCtl with mode := .guard } := by
  simp [guardEntry, setMode]

theorem turn_enterGuard : Turn .enterGuard s (takeCommand 0x10 0 (fun _ s => enterGuard s) s) :=
  turn_of_act fun h _ => by
    rcases enterGuard_cases (takeHead s) with ha | ⟨hm, ha⟩
    · exact turn_refused ha
    · have pass : s.modeCtl.mode = .pass := hm
      have entered : (respond h (enterGuard (takeHead s))).modeCtl = { s.modeCtl with mode := .guard } :=
        (congrArg State.modeCtl ha).trans (guardEntry_modeCtl _)
      refine ⟨.enters pass entered rfl, .inr ⟨rfl, by simp [inGuard, entered]⟩, fun hg => ?_⟩
      simp [inGuard, pass] at hg

/-! ### The commands that report or write -/

theorem turn_takeCommand {code length : Nat} {act : Frame → State → Answer}
    (hact : ∀ b u, Written s u → Written s (act b u).state) : Turn c s (takeCommand code length act s) :=
  .of_written (written_takeCommand hact)

/-- A read with an index. -/
theorem turn_indexedRead {code length n : Nat} {body : Nat → State → Frame} :
    Turn c s (takeCommand code length (indexed n fun i _ u => .done (body i u) u) s) :=
  turn_takeCommand fun _ _ hu => hu.indexed fun _ => hu

/-- A write with an index of an entry that runs nothing. -/
theorem turn_indexedWrite {α : Type} {code length n : Nat} {value : Nat → Frame → State → Option α}
    {store : Nat → α → State → State}
    (hs : ∀ i b u x, value i b u = some x → RunsNoMore u (store i x u))
    (hm : ∀ i x u, (store i x u).modeCtl = u.modeCtl) :
    Turn c s
      (takeCommand code length (writing (indexed n fun i b u => storing (value i b u) (store i) u)) s) :=
  turn_takeCommand fun b u hu => hu.writing fun hg => hu.indexed fun i => hu.storing fun x hx =>
    hu.outside hg (hs i b u x hx) (hm i x u)

theorem turn_badControlFrame (h : execBadControlFrame s = .next t) : Turn c s t := by
  unfold execBadControlFrame at h
  split at h
  · cases h
    exact .steady .of_eq rfl
  · split at h <;> cases h
    · exact .steady .of_eq rfl
    · exact .steady .of_eq

theorem turn_unknownCommand (h : execUnknownCommand s = .next t) : Turn c s t := by
  unfold execUnknownCommand at h
  split at h
  · cases h
    exact .steady .of_eq rfl
  · split at h <;> cases h
    · exact turn_refused rfl
    · exact .steady .of_eq rfl

/-! ### The events of the line, the ports and the time base -/

theorem turn_tick : Turn .tick s (countTick (settleTick s)) := by
  have calm : Calm s (countTick (settleTick s)) := .countTick .of_eq
  refine .of_calm calm ?_
  have settled := (pulseEnd_move s).trans (resumeWindowEnd_move _)
  rcases takeHeldTick_modeCtl (resumeWindowEnd (pulseEnd s)) with h | ⟨hg, hw⟩
  · exact .of_handshake (settled.trans (h ▸ tickAtWakeLine_move _))
  · exact .wakes (settled.mode ▸ hg) hw (.inr (.inl rfl))

theorem turn_quietIntervalEnd : Turn .quietIntervalEnd s (takeHeldTick s) := by
  refine .of_calm .of_eq ?_
  rcases takeHeldTick_modeCtl s with h | ⟨hg, hw⟩
  · exact .of_eq h
  · exact .wakes hg hw (.inl rfl)

theorem turn_wakeRequest {place : Nat} (h : execWakeRequest place s = .next t) :
    Turn (.wakeRequest place) s t := by
  cases hr : s.wake.requests[place]? with
  | none =>
    simp only [execWakeRequest, hr] at h
    cases h
    exact .steady .of_eq rfl
  | some r =>
    rw [execWakeRequest_of_some hr] at h
    cases h
    refine .of_calm ?_ ?_
    · exact .of_eq
    · have judged := judgeRequest_modeCtl r
        { s with wake := { s.wake with requests := s.wake.requests.eraseIdx place } }
      rcases judged with h | ⟨hg, hw⟩ | ⟨hg, hw⟩
      · exact move_endDrain h
      · rw [endDrain_of_not_drain (by simp [hw])]
        exact .wakes hg hw (.inr (.inr ⟨place, rfl⟩))
      · rw [endDrain_of_not_drain (by simp [hw])]
        exact .stays (hw.trans hg.symm) fun _ h => absurd hw h

theorem turn_systemReadyRise (h : execSystemReadyRise s = .next t) : Turn c s t := by
  unfold execSystemReadyRise at h
  split at h
  · cases h
    exact .steady .of_eq rfl
  · dsimp only at h
    split at h <;> cases h
    · rename_i hw
      refine .of_calm .of_eq (.of_handshake ⟨?_, fun hn => absurd hw hn⟩)
      show (riseAtWakeLine s.ctl.cfg s.modeCtl).mode = s.modeCtl.mode
      unfold riseAtWakeLine
      split <;> rfl
    · exact .steady .of_eq

theorem turn_systemReadyFall (h : execSystemReadyFall s = .next t) : Turn c s t := by
  unfold execSystemReadyFall at h
  split at h <;> cases h
  · exact .steady .of_eq
  · exact .steady .of_eq rfl

theorem turn_linkDown {receiving : Option Nat} (h : execLinkDown receiving s = .next t) : Turn c s t := by
  unfold execLinkDown at h
  split at h
  · split at h <;> cases h
    · exact .steady (.linkLost (.bump (.refl s)))
    · exact .steady (.linkLost (.refl s))
  · cases h
    exact .steady .of_eq rfl

theorem turn_linkUp (h : execLinkUp s = .next t) : Turn c s t := by
  unfold execLinkUp at h
  split at h <;> cases h
  · exact .steady .of_eq rfl
  · exact .steady (.linkUp (.refl s))

theorem turn_lineFrameReceived {rx : LineReception} (h : execLineFrameReceived rx s = .next t) :
    Turn c s t := by
  unfold execLineFrameReceived at h
  split at h
  · cases h
    exact .steady .of_eq
  split at h
  · cases h
    exact .steady .of_eq rfl
  split at h <;> cases h
  · exact .steady .of_eq
  · exact .steady .of_eq

theorem turn_sysFrameReceived {rx : SystemReception} (h : execSysFrameReceived rx s = .next t) :
    Turn c s t := by
  unfold execSysFrameReceived at h
  split at h
  · cases h
    exact .steady .of_eq rfl
  split at h <;> cases h
  · exact .steady .of_eq
  · exact .steady .of_eq

theorem turn_parseFrame (h : execParseFrame s = .next t) : Turn c s t := by
  unfold execParseFrame at h
  split at h
  · cases h
    exact .steady .of_eq rfl
  dsimp only at h
  split at h
  · split at h <;> cases h
    · exact .steady .of_eq rfl
    · exact .draining .of_eq
  split at h <;> cases h
  · exact .steady .of_eq rfl
  · exact .draining .of_eq

theorem turn_classifyFrame (h : execClassifyFrame s = .next t) : Turn c s t := by
  unfold execClassifyFrame at h
  split at h
  · cases h
    exact .steady .of_eq rfl
  split at h <;> cases h
  · exact .draining (.classify .of_eq)
  · exact .steady .of_eq rfl

/-- A notice taken from those on their way. -/
theorem calm_takeNotice {timer : Nat} {n : ExpiryNotice} (h : takeNotice timer s = some (n, t)) :
    Calm s t ∧ t.modeCtl = s.modeCtl := by
  obtain ⟨-, rfl⟩ := takeNotice_eq_some h
  exact ⟨.of_eq rfl rfl rfl rfl rfl rfl rfl rfl, rfl⟩

theorem turn_sessionTimerExpiry {i : Nat} (h : execSessionTimerExpiry i s = .next t) : Turn c s t := by
  unfold execSessionTimerExpiry at h
  split at h
  · cases h
    exact .steady .of_eq rfl
  split at h
  · cases h
    exact .steady .of_eq rfl
  · rename_i n u hn
    obtain ⟨taken, hm⟩ := calm_takeNotice hn
    cases h
    refine .steady (.setTimers ?_ (fun _ => id) rfl) ?_
    · split
      · rename_i ha
        have running : (u.session i).running = true := by simp [Session.running, ha]
        split
        · exact taken
        · exact .expiryAlive taken running
      · rename_i hp
        exact .expiryProbing taken (by simp [Session.running, hp])
      · exact taken
    · dsimp only [State.setBank_modeCtl]
      rw [← hm]
      split
      · split <;> simp
      · simp
      · rfl

theorem turn_expiryAnswer {i : Nat} (h : execExpiryAnswer i s = .next t) : Turn c s t := by
  unfold execExpiryAnswer at h
  split at h <;> cases h
  · exact .steady (.answered (.setTimers (.refl s) (fun _ => id) rfl))
  · exact .steady .of_eq rfl

theorem turn_alarmExpiry {n : Nat} (h : execAlarmExpiry n s = .next t) : Turn c s t := by
  unfold execAlarmExpiry at h
  split at h
  · cases h
    exact .steady .of_eq rfl
  · rename_i hn
    obtain ⟨taken, hm⟩ := calm_takeNotice hn
    split at h <;> cases h
    · exact .steady (.alarmExpires taken) (by simp [hm])
    · exact .steady taken hm

theorem turn_holdAppend (h : execHoldAppend s = .next t) : Turn c s t := by
  unfold execHoldAppend at h
  split at h
  · cases h
    exact .steady .of_eq rfl
  dsimp only at h
  split at h <;> cases h
  · exact .steady .of_eq
  · exact .draining .of_eq

theorem turn_lineTxGrant (h : execLineTxGrant s = .next t) : Turn c s t := by
  unfold execLineTxGrant at h
  split at h <;> cases h
  · exact .steady (.grantLine (.refl s))
  · exact .steady .of_eq rfl

theorem turn_lineTxDone (h : execLineTxDone s = .next t) : Turn c s t := by
  unfold execLineTxDone at h
  split at h <;> cases h
  · exact .steady .of_eq rfl
  · exact .steady (.freeAndHandOn .of_eq)
  · exact .steady .of_eq

theorem turn_systemFrameDiscard (h : execSystemFrameDiscard s = .next t) : Turn c s t := by
  unfold execSystemFrameDiscard at h
  split at h
  · split at h <;> cases h
    · exact .steady (.bump (.inspectOutbound (calm_takeHead s)))
    · exact .steady .of_eq rfl
  · cases h
    exact .steady .of_eq rfl

theorem turn_sysEgressGrant (h : execSysEgressGrant s = .next t) : Turn c s t := by
  unfold execSysEgressGrant at h
  split at h <;> cases h
  · exact .steady .of_eq
  · exact .steady .of_eq rfl

/-- An item told complete leaves the mode controller alone, or DRAIN may end. -/
theorem move_completeItem {item : EgressItem} (hm : t.modeCtl = s.modeCtl) :
    Move c s (completeItem item t) := by
  cases item with
  | forward => exact .of_eq hm
  | response => exact .of_eq hm
  | rehearsal i => exact .of_eq (by simp [completeItem, hm])
  | _ => exact move_endDrain hm

theorem turn_sysDeliveryDone (h : execSysDeliveryDone s = .next t) : Turn c s t := by
  unfold execSysDeliveryDone at h
  split at h <;> cases h
  · exact .steady .of_eq rfl
  · exact .of_calm (.completeItem .of_eq) (move_completeItem rfl)

/-! ### Every command -/

/-- Every command's step is a turn: R1's changes of the mode, R3 and R99. -/
theorem exec_turn (h : exec c s = .next t) : Turn c s t := by
  cases c with
  | powerOnReset =>
    cases h
    have quiet := powerOnReset_quiet s
    exact ⟨.resets (.inr rfl) quiet rfl, Or.inl (.of_quiet quiet), fun _ h => absurd rfl h⟩
  | softReset => cases h; exact turn_softReset
  | identify => cases h; exact turn_takeCommand fun _ _ hu => hu
  | readStatus =>
    cases h
    exact turn_takeCommand fun _ u hu => hu.after_calm (u := clearLatch u) .of_eq
  | writeConfig =>
    cases h
    exact turn_takeCommand fun _ _ hu => hu.writing fun hg => hu.storing fun _ _ => hu.outside hg .of_eq
  | readConfig => cases h; exact turn_takeCommand fun _ _ hu => hu
  | writeMatch => cases h; exact turn_indexedWrite (fun _ _ _ _ _ => .of_eq) fun _ _ _ => rfl
  | readMatch => cases h; exact turn_indexedRead
  | writeIdentity => cases h; exact turn_indexedWrite (fun _ _ _ _ _ => .of_eq) fun _ _ _ => rfl
  | readIdentity => cases h; exact turn_indexedRead
  | writeName => cases h; exact turn_indexedWrite (fun _ _ _ _ _ => .of_eq) fun _ _ _ => rfl
  | readName => cases h; exact turn_indexedRead
  | writeSession =>
    cases h
    exact turn_indexedWrite (fun _ _ _ _ hx => runsNoMore_storeSession (decodeSession_not_running hx))
      fun _ _ _ => rfl
  | readSession => cases h; exact turn_indexedRead
  | writeAlarm =>
    cases h
    exact turn_indexedWrite (fun _ _ _ _ hx => runsNoMore_storeAlarm (decodeAlarm_idle hx)) fun _ _ _ => rfl
  | readAlarm => cases h; exact turn_indexedRead
  | clearTable =>
    cases h
    refine turn_takeCommand fun _ _ hu => hu.writing fun hg => hu.storing fun _ hx => ?_
    obtain ⟨hm, hr⟩ := runsNoMore_clearedTable hx
    exact hu.outside hg hr hm
  | enterGuard => cases h; exact turn_enterGuard
  | leaveGuard => cases h; exact turn_leaveGuard
  | readWakeRecord =>
    cases h
    exact turn_takeCommand fun _ u hu => hu.after_calm (u := u.setWake { u.wake with record := none }) .of_eq
  | readCounters =>
    cases h
    refine turn_takeCommand fun _ u hu => ?_
    unfold readCounters
    split
    · rename_i clear _
      cases clear
      · exact hu
      · exact hu.after_calm (u := clearCounters u) .of_eq
    · exact hu
  | badControlFrame => exact turn_badControlFrame h
  | unknownCommand => exact turn_unknownCommand h
  | tick => cases h; exact turn_tick
  | linkDown receiving => exact turn_linkDown h
  | linkUp => exact turn_linkUp h
  | systemReadyRise => exact turn_systemReadyRise h
  | systemReadyFall => exact turn_systemReadyFall h
  | lineFrameReceived rx => exact turn_lineFrameReceived h
  | sysFrameReceived rx => exact turn_sysFrameReceived h
  | parseFrame => exact turn_parseFrame h
  | classifyFrame => exact turn_classifyFrame h
  | sessionTimerExpiry i => exact turn_sessionTimerExpiry h
  | expiryAnswer i => exact turn_expiryAnswer h
  | alarmExpiry n => exact turn_alarmExpiry h
  | quietIntervalEnd => cases h; exact turn_quietIntervalEnd
  | wakeRequest place => exact turn_wakeRequest h
  | pulseEnd => cases h; exact .of_calm .of_eq (.of_handshake (pulseEnd_move s))
  | resumeWindowEnd => cases h; exact .of_calm .of_eq (.of_handshake (resumeWindowEnd_move s))
  | holdAppend => exact turn_holdAppend h
  | lineTxGrant => exact turn_lineTxGrant h
  | lineTxDone => exact turn_lineTxDone h
  | systemFrameDiscard => exact turn_systemFrameDiscard h
  | sysEgressGrant => exact turn_sysEgressGrant h
  | sysDeliveryDone => exact turn_sysDeliveryDone h

end commands
end Sys2Proof.Machine

namespace Sys2Proof.Machine

/-! ### What every step keeps (O54, O59, O60) -/

section invariants
variable {c : Instr} {s t : State}

theorem inGuard_eq_true_iff : inGuard s = true ↔ s.modeCtl.mode = .guard ∨ s.modeCtl.mode = .waking := by
  simp [inGuard]

theorem inGuard_congr (h : t.modeCtl.mode = s.modeCtl.mode) : inGuard t = inGuard s := by
  rw [inGuard, inGuard, h]

/-- The wake line rests after a change of the mode as it rested before (R13). -/
theorem Move.wakeLineRests (m : Move c s t) (hs : WakeLineRests s) : WakeLineRests t := by
  cases m with
  | stays _ rests => exact rests hs
  | drains before after =>
    intro _
    rw [after, hs (by simp [before])]
    rfl
  | wakes _ after => exact fun hw => absurd after hw
  | enters before after =>
    intro _
    rw [after, hs (by simp [before])]
    rfl
  | leaves _ _ _ m _ after => exact fun _ => after ▸ rfl
  | resets _ _ after => exact fun _ => after ▸ rfl

/-- Outside guard nothing runs after a turn, if nothing ran before it (R149). -/
theorem Turn.quietOutsideGuard (h : Turn c s t) (hs : QuietOutsideGuard s) : QuietOutsideGuard t := by
  intro ht
  have kept (hg : inGuard s = false) : Quiet t := by
    rcases h.runs with hr | ⟨-, hg'⟩
    · exact hr.quiet (hs hg)
    · simp [ht] at hg'
  cases h.move with
  | stays mode => exact kept (inGuard_congr mode ▸ ht)
  | drains before => exact kept (by simp [inGuard, before])
  | wakes _ after => simp [inGuard, after] at ht
  | enters _ after => simp [inGuard, after] at ht
  | leaves _ _ quiet => exact quiet
  | resets _ quiet => exact quiet

/-- Settles O54: a command's turn keeps both properties, and a step is a turn on the rest of the queue. -/
theorem outsideGuardIsQuiet : Obligations.OutsideGuardIsQuiet := by
  intro c s t h hw hq
  have kept : ∀ c' s', exec c' s' = .next t → WakeLineRests s' → QuietOutsideGuard s' →
      WakeLineRests t ∧ QuietOutsideGuard t := fun c' s' h' hw' hq' =>
    ⟨(exec_turn h').move.wakeLineRests hw', (exec_turn h').quietOutsideGuard hq'⟩
  rcases h with h | h
  · exact kept c s h hw hq
  · unfold step at h
    split at h
    · cases h
      exact ⟨hw, hq⟩
    · exact kept _ _ h hw hq

/-- Settles O59, by the moves of the mode that a turn can make. -/
theorem modeChangesOnlyAsNamed : Obligations.ModeChangesOnlyAsNamed := by
  intro c s t h hne
  cases (exec_turn h).move with
  | stays mode => exact absurd mode hne
  | enters before after cause => exact .inl ⟨before, by rw [after], cause⟩
  | wakes before after cause => exact .inr (.inl ⟨before, after, cause⟩)
  | leaves before cause _ m next after =>
    exact .inr (.inr (.inl ⟨inGuard_eq_true_iff.1 before, cause, by rw [after]; exact next⟩))
  | drains before after records pending waiting =>
    exact .inr (.inr (.inr (.inl ⟨before, by rw [after], records, pending, waiting⟩)))
  | resets cause _ after => exact .inr (.inr (.inr (.inr ⟨by rw [after]; rfl, cause⟩)))

/-- Settles O60: a turn in guard leaves what is loaded, and only ENTER_GUARD's starts a session. -/
theorem tablesAreFixedInGuard : Obligations.TablesAreFixedInGuard := by
  intro c s t h
  have turn := exec_turn h
  constructor
  · intro hg hc
    have fixed := turn.loaded (inGuard_eq_true_iff.2 hg) hc
    simp only [State.loaded, Prod.mk.injEq] at fixed
    exact fixed
  · intro hc i hi
    rcases turn.runs with hr | ⟨he, -⟩
    · exact hr.session i hi
    · exact absurd he hc

end invariants
end Sys2Proof.Machine

namespace Sys2Proof.Machine

/-! ### Commands refused, and guard entered and left (O12, O14, O15) -/

section control
variable {s : State} {f : Frame} {rest : List Frame} {code length : Nat}

/-- The state whose control unit has taken the head of the receive FIFO. -/
def State.withRx (s : State) (rest : List Frame) : State := { s with sys := { s.sys with rx := rest } }

theorem takeCommand_eq_respond (act : Frame → State → Answer) (h : Offers s f rest code length) :
    takeCommand code length act s = respond (readControl f) (act (bodyOf f) (s.withRx rest)) :=
  takeCommand_of_offers act h

theorem respond_refuse_withRx (status : Status) :
    respond (readControl f) (.refuse status (s.withRx rest)) = s.answered f rest status [] := rfl

/-- A write in GUARD or WAKING is answered WRONG_MODE (R3, R186). -/
theorem takeCommand_writing_inGuard {act : Frame → State → Answer} (h : Offers s f rest code length)
    (hm : s.modeCtl.mode = .guard ∨ s.modeCtl.mode = .waking) :
    takeCommand code length (writing act) s = s.answered f rest .wrongMode [] := by
  have refused : admitsWrites (s.withRx rest) = false := by
    rcases hm with hm | hm <;> simp [admitsWrites, State.withRx, hm]
  rw [takeCommand_eq_respond _ h, writing, if_neg (by simp [refused]), respond_refuse_withRx]

/-- A write beyond its table is answered BAD_INDEX (R188). -/
theorem takeCommand_indexed_beyond {n : Nat} {act : Nat → Frame → State → Answer}
    (h : Offers s f rest code length) (hm : s.modeCtl.mode = .pass ∨ s.modeCtl.mode = .drain)
    (hn : n ≤ byteAt (bodyOf f) 0) :
    takeCommand code length (writing (indexed n act)) s = s.answered f rest .badIndex [] := by
  have allowed : admitsWrites (s.withRx rest) = true := by
    rcases hm with hm | hm <;> simp [admitsWrites, State.withRx, hm]
  rw [takeCommand_eq_respond _ h, writing, if_pos allowed, indexed, if_neg (Nat.not_lt.2 hn),
    respond_refuse_withRx]

/-- The six writes and CLEAR_TABLE are commands that check the mode first. -/
theorem exec_write {c : Instr × Nat × Nat} (hc : c ∈ commandTable)
    (hw : c.1 ∈ [.writeConfig, .writeMatch, .writeIdentity, .writeName, .writeSession, .writeAlarm,
      .clearTable]) :
    ∃ act, ∀ s, exec c.1 s = .next (takeCommand c.2.1 c.2.2 (writing act) s) := by
  obtain ⟨i, code, length⟩ := c
  simp only [List.mem_cons, List.not_mem_nil, or_false] at hw
  rcases hw with rfl | rfl | rfl | rfl | rfl | rfl | rfl <;>
    · simp only [commandTable, List.mem_cons, Prod.mk.injEq, reduceCtorEq, false_and, false_or, true_and,
        List.not_mem_nil, or_false] at hc
      obtain ⟨rfl, rfl⟩ := hc
      exact ⟨_, fun _ => rfl⟩

/-- The five writes of a table check their index against its size. -/
theorem exec_indexedWrite {c : Instr × Nat × Nat} {n : Nat} (hc : c ∈ commandTable)
    (hw : (c.1, n) ∈ [(Instr.writeMatch, 48), (.writeIdentity, 12), (.writeName, 4), (.writeSession, 8),
      (.writeAlarm, 4)]) :
    ∃ act, ∀ s, exec c.1 s = .next (takeCommand c.2.1 c.2.2 (writing (indexed n act)) s) := by
  obtain ⟨i, code, length⟩ := c
  simp only [List.mem_cons, List.not_mem_nil, or_false, Prod.mk.injEq] at hw
  rcases hw with ⟨rfl, rfl⟩ | ⟨rfl, rfl⟩ | ⟨rfl, rfl⟩ | ⟨rfl, rfl⟩ | ⟨rfl, rfl⟩ <;>
    · simp only [commandTable, List.mem_cons, Prod.mk.injEq, reduceCtorEq, false_and, false_or, true_and,
        List.not_mem_nil, or_false] at hc
      obtain ⟨rfl, rfl⟩ := hc
      exact ⟨_, fun _ => rfl⟩

/-- Settles O12: a write's mode is checked before its index, and both before its body. -/
theorem writesAreRefused : Obligations.WritesAreRefused := by
  intro s f rest
  constructor
  · intro hm c hc hw ho
    obtain ⟨act, he⟩ := exec_write hc hw
    rw [he, takeCommand_writing_inGuard ho hm]
  · intro hm c hc n hw ho hn
    obtain ⟨act, he⟩ := exec_indexedWrite hc hw
    rw [he, takeCommand_indexed_beyond ho hm hn]

/-! ### LEAVE_GUARD -/

theorem leave_eq (x : Session) :
    x.leave = if x.state = .alive ∨ x.state = .probing then { x with state := .armed } else x := by
  simp [Session.leave, Session.running]

theorem leave_code (x : Session) :
    x.leave.state.code = (if x.state = .alive ∨ x.state = .probing then SessionState.armed else x.state).code := by
  rw [leave_eq]
  split <;> rfl

theorem toBytes_one (n : Nat) : toBytes 1 n = [BitVec.ofNat 8 n] := by simp [toBytes]

/-- The response body of LEAVE_GUARD: a byte for each session and one for the record (R10). -/
theorem leaveGuardBody_guardExit (s : State) :
    leaveGuardBody (guardExit s) =
      s.sessions.map (fun x =>
          BitVec.ofNat 8
            (if x.state = .alive ∨ x.state = .probing then SessionState.armed else x.state).code)
        ++ [if s.wake.record.isSome then 1 else 0] := by
  have sessions : (guardExit s).sessions = s.sessions.map Session.leave := rfl
  have record : (guardExit s).wake.record = s.wake.record := rfl
  rw [leaveGuardBody, sessions, record]
  congr 1
  · rw [List.map_map, ← List.flatMap_def, List.map_eq_flatMap]
    simp only [Function.comp_def, toBytes_one, leave_code]
  · cases s.wake.record <;> simp [toBytes_one, boolCode]

theorem guardExit_eq (s : State) :
    guardExit s =
      { s with
        modeCtl :=
          ⟨if s.hold.records = [] ∧ guardPending s = false then .pass else .drain, false, .idle, 0, none,
            none⟩
        wake := { s.wake with deferred := 0 }
        probes := []
        sessions :=
          s.sessions.map fun x =>
            if x.state = .alive ∨ x.state = .probing then { x with state := .armed } else x
        bank :=
          { s.bank with
            timers :=
              s.bank.timers.map fun t => { t with state := .stopped, staged := none, outstanding := false }
            alarms := s.bank.alarms.map fun a => if a.state = .running then { a with state := .idle } else a } } := by
  have sessions : s.sessions.map Session.leave = s.sessions.map fun x =>
      if x.state = .alive ∨ x.state = .probing then { x with state := .armed } else x :=
    List.map_congr_left fun x _ => leave_eq x
  have next : (if (s.hold.records.isEmpty && !guardPending s) = true then Mode.pass else .drain) =
      if s.hold.records = [] ∧ guardPending s = false then .pass else .drain := by simp
  rw [← sessions, ← next]
  unfold guardExit
  simp only [stopAllTimers, State.setBank, State.setSessions, State.setProbes, State.setWake,
    State.setModeCtl]
  rfl

theorem leaveGuard_of_inGuard (h : inGuard s = true) :
    leaveGuard s = .done (leaveGuardBody (guardExit s)) (guardExit s) := if_pos h

theorem leaveGuard_of_outside (h : inGuard s = false) : leaveGuard s = .refuse .wrongMode s :=
  if_neg (by simp [h])

/-- Settles O15: LEAVE_GUARD is refused outside guard, and is `guardExit` in it. -/
theorem leaveGuardActs : Obligations.LeaveGuardActs := by
  intro s f rest ho
  have taken : exec .leaveGuard s =
      .next (respond (readControl f) (leaveGuard (s.withRx rest))) :=
    congrArg _ (takeCommand_eq_respond _ ho)
  constructor
  · intro hm
    have outside : inGuard (s.withRx rest) = false := by
      rcases hm with hm | hm <;> simp [inGuard, State.withRx, hm]
    rw [taken, leaveGuard_of_outside outside, respond_refuse_withRx]
  · intro hm
    have inside : inGuard (s.withRx rest) = true := inGuard_eq_true_iff.2 hm
    rw [taken, leaveGuard_of_inGuard inside, leaveGuardBody_guardExit, guardExit_eq]
    rfl

end control
end Sys2Proof.Machine

namespace Sys2Proof.Machine

/-! ### ENTER_GUARD (O14) -/

section entry
variable {s : State}

theorem enterGuard_of_not_pass (h : s.modeCtl.mode ≠ .pass) : enterGuard s = .refuse .wrongMode s := if_pos h

theorem enterGuard_of_badMac (hm : s.modeCtl.mode = .pass)
    (h : s.ctl.cfg.hostMac = 0 ∨ isGroupMac s.ctl.cfg.hostMac = true) :
    enterGuard s = .refuse .badValue s := by
  rw [enterGuard, if_neg (Decidable.not_not.2 hm), if_pos h]

/-- With a mode and a host MAC that pass, a misplaced session is named (R5). -/
theorem enterGuard_of_misplaced {i : Nat} (hm : s.modeCtl.mode = .pass) (h0 : s.ctl.cfg.hostMac ≠ 0)
    (hg : isGroupMac s.ctl.cfg.hostMac = false) (hs : misplacedSession s = some i) :
    enterGuard s = ⟨.badIndex, toBytes 1 i, s⟩ := by
  rw [enterGuard, if_neg (Decidable.not_not.2 hm), if_neg (not_or.2 ⟨h0, by simp [hg]⟩), hs]

theorem enterGuard_of_placed (hm : s.modeCtl.mode = .pass) (h0 : s.ctl.cfg.hostMac ≠ 0)
    (hg : isGroupMac s.ctl.cfg.hostMac = false) (hs : misplacedSession s = none) :
    enterGuard s = .done [] (guardEntry s) := by
  rw [enterGuard, if_neg (Decidable.not_not.2 hm), if_neg (not_or.2 ⟨h0, by simp [hg]⟩), hs]

theorem misplacedSession_eq_some {i : Nat} (hi : i < s.sessions.length)
    (hbad : sessionPlaced s.identities (s.session i) = false)
    (hgood : ∀ k < i, sessionPlaced s.identities (s.session k) = true) : misplacedSession s = some i := by
  have entry : ∀ k (hk : k < s.sessions.length), s.sessions[k] = s.session k := fun k hk => by
    simp [State.session, hk]
  unfold misplacedSession
  rw [List.findIdx?_eq_some_iff_getElem]
  refine ⟨hi, by simp [entry, hbad], fun k hk => ?_⟩
  simp [entry k (Nat.lt_trans hk hi), hgood k hk]

theorem misplacedSession_eq_none (h : ∀ x ∈ s.sessions, sessionPlaced s.identities x = true) :
    misplacedSession s = none := by
  unfold misplacedSession
  rw [List.findIdx?_eq_none_iff]
  intro x hx
  simp [h x hx]

/-- A session timer that starts belongs to a valid ARMED session. -/
theorem sessionStarts_zero {l : List Session} (hl : l.length = 8) (i : Nat) :
    sessionStarts 0 l i = true ↔
      i < 8 ∧ (l.getD i Session.powerOn).valid = true ∧ (l.getD i Session.powerOn).state = .armed := by
  by_cases hi : i < 8
  · simp [sessionStarts, hi]
  · have : ¬ i < l.length := by omega
    simp [sessionStarts, hi, List.getD_eq_getElem?_getD, this, Session.powerOn]

/-- An alarm timer that starts belongs to a valid alarm. -/
theorem alarmStarts_zero {l : List Alarm} (hl : l.length = 4) (i : Nat) :
    alarmStarts 0 l i = true ↔ 8 ≤ i ∧ i < 12 ∧ (l.getD (i - 8) Alarm.powerOn).valid = true := by
  by_cases hi : i < 12
  · simp [alarmStarts, hi]
  · have : ¬ i - 8 < l.length := by omega
    simp [alarmStarts, hi, List.getD_eq_getElem?_getD, this, Alarm.powerOn]

/-- The timer of a started session (R104). -/
def startedSessionTimer (up : Bool) (x : Session) : Timer :=
  ⟨if up then .running else .frozen, x.idle, x.idle, none, .periodic, false⟩

/-- The timer of a started alarm (R152). -/
def startedAlarmTimer (a : Alarm) : Timer := ⟨.running, a.count, a.count, none, a.mode, false⟩

theorem getD_mapIdx {α : Type} (l : List α) (g : Nat → α → α) (i : Nat) (d : α) (hi : i < l.length) :
    (l.mapIdx g).getD i d = g i (l.getD i d) := by
  simp [List.getD_eq_getElem?_getD, hi]

/-- The bank at guard entry (R6): every timer that starts is of a session or of an alarm. -/
theorem enterTimers_bank (s : State) :
    (enterTimers s).bank.elapsed = 0
      ∧ (enterTimers s).bank.alarms = s.bank.alarms.map Alarm.enter
      ∧ (enterTimers s).bank.notices = s.bank.notices.filter (fun n =>
          !(sessionStarts 0 s.sessions n.timer || alarmStarts 0 s.bank.alarms n.timer))
      ∧ (enterTimers s).bank.answers = s.bank.answers.filter (fun i =>
          !(sessionStarts 0 s.sessions i || alarmStarts 0 s.bank.alarms i)) := by
  simp only [enterTimers, startAlarmTimers_eq, startSessionTimers_eq, State.setBank_bank, List.filter_filter,
    Bool.not_or, Bool.and_comm]
  exact ⟨trivial, trivial, trivial, trivial⟩

theorem enterTimers_timer_session {i : Nat} (ht : s.bank.timers.length = 12) (hi : i < 8) :
    (enterTimers s).timer i =
      if sessionStarts 0 s.sessions i = true then startedSessionTimer s.linePort.up (s.session i)
      else s.timer i := by
  have none : alarmStarts 0 s.bank.alarms i = false := by simp [alarmStarts, show ¬ 8 ≤ i by omega]
  simp only [enterTimers, startAlarmTimers_eq, startSessionTimers_eq, State.timer, State.setBank_bank]
  rw [getD_mapIdx _ _ _ _ (by simp [ht]; omega), getD_mapIdx _ _ _ _ (by simp [ht]; omega)]
  cases hu : s.linePort.up <;> simp [none, startedSessionTimer, gated, hi, hu, State.session]

theorem enterTimers_timer_alarm {n : Nat} (ht : s.bank.timers.length = 12) (hs : s.sessions.length = 8)
    (hn : n < 4) :
    (enterTimers s).timer (8 + n) =
      if alarmStarts 0 s.bank.alarms (8 + n) = true then startedAlarmTimer (s.alarm n)
      else s.timer (8 + n) := by
  have none : sessionStarts 0 s.sessions (8 + n) = false := by
    simpa using mt (sessionStarts_zero hs (8 + n)).1 (by omega)
  simp only [enterTimers, startAlarmTimers_eq, startSessionTimers_eq, State.timer, State.setBank_bank]
  rw [getD_mapIdx _ _ _ _ (by simp [ht]; omega), getD_mapIdx _ _ _ _ (by simp [ht]; omega)]
  simp [none, startedAlarmTimer, State.alarm]

/-- What guard entry makes of the sessions, the identities and the wake controller, and what it leaves alone
(R6). -/
theorem guardEntry_blocks (s : State) :
    (guardEntry s).sessions = s.sessions.map Session.enter
      ∧ (guardEntry s).identities = s.identities.map (fun i => { i with state := .ready })
      ∧ (guardEntry s).wake = { s.wake with deferred := 0 }
      ∧ (guardEntry s).ctl = s.ctl ∧ (guardEntry s).sys = s.sys
      ∧ (guardEntry s).pending = s.pending ∧ (guardEntry s).linePort = s.linePort
      ∧ (guardEntry s).guardPath = s.guardPath ∧ (guardEntry s).matchTable = s.matchTable
      ∧ (guardEntry s).names = s.names ∧ (guardEntry s).probes = s.probes
      ∧ (guardEntry s).reply = s.reply ∧ (guardEntry s).arb = s.arb ∧ (guardEntry s).hold = s.hold := by
  simp [guardEntry]

/-- The timers that a guard entry starts, as R104 and R152 name them. -/
theorem starts_eq {started : Nat → Bool} (hs : s.sessions.length = 8) (ha : s.bank.alarms.length = 4)
    (h : ∀ i, started i = true ↔
      (i < 8 ∧ (s.session i).valid = true ∧ (s.session i).state = .armed)
        ∨ (8 ≤ i ∧ i < 12 ∧ (s.alarm (i - 8)).valid = true)) (i : Nat) :
    started i = (sessionStarts 0 s.sessions i || alarmStarts 0 s.bank.alarms i) := by
  rw [Bool.eq_iff_iff, h, Bool.or_eq_true, sessionStarts_zero hs, alarmStarts_zero ha]
  rfl

/-- Settles O14: the checks one by one, then the bank of a guard entry by its two groups of timers. -/
theorem enterGuardChecks : Obligations.EnterGuardChecks := by
  intro s f rest ho
  have taken : exec .enterGuard s =
      .next (respond (readControl f) (enterGuard (s.withRx rest))) :=
    congrArg _ (takeCommand_eq_respond _ ho)
  refine ⟨fun hm => ?_, fun hm hmac => ?_, fun hm h0 hg i hi _ hbad hgood => ?_,
    fun started hsizes hm h0 hg hplaced hstarted => ?_⟩
  · rw [taken, enterGuard_of_not_pass (s := s.withRx rest) hm, respond_refuse_withRx]
  · rw [taken, enterGuard_of_badMac (s := s.withRx rest) hm hmac,
      respond_refuse_withRx]
  · have first : misplacedSession (s.withRx rest) = some i :=
      misplacedSession_eq_some hi hbad hgood
    rw [taken, enterGuard_of_misplaced (s := s.withRx rest) hm h0 hg first, toBytes_one]
    rfl
  · have none : misplacedSession (s.withRx rest) = none := misplacedSession_eq_none hplaced
    obtain ⟨-, -, -, hsessions, -, htimers, halarms, -⟩ := hsizes
    have starts := starts_eq hsessions halarms hstarted
    have session : ∀ i < 8, started i = sessionStarts 0 s.sessions i := fun i hi => by
      simp [starts i, alarmStarts, show ¬ 8 ≤ i by omega]
    have alarm : ∀ n, started (8 + n) = alarmStarts 0 s.bank.alarms (8 + n) := fun n => by
      have : sessionStarts 0 s.sessions (8 + n) = false := by
        simpa using mt (sessionStarts_zero hsessions (8 + n)).1 (by omega)
      simp [starts (8 + n), this]
    obtain ⟨elapsed, alarms, notices, answers⟩ := enterTimers_bank (s.withRx rest)
    rw [taken, enterGuard_of_placed (s := s.withRx rest) hm h0 hg none]
    obtain ⟨sessions, identities, wake, ctl, blocks⟩ := guardEntry_blocks (s.withRx rest)
    refine ⟨_, rfl, guardEntry_modeCtl _, elapsed, enterTimers_bank_tick _, sessions, alarms, fun i hi => ?_,
      fun n hn => ?_, ?_, ?_, identities, wake, ?_, blocks⟩
    · rw [session i hi]
      exact enterTimers_timer_session (s := s.withRx rest) htimers hi
    · rw [alarm n]
      exact enterTimers_timer_alarm (s := s.withRx rest) htimers hsessions hn
    · simp only [starts]
      exact notices
    · simp only [starts]
      exact answers
    · simp only [respond, Answer.done, State.setCtl_ctl, ctl]
      rfl

end entry
end Sys2Proof.Machine

namespace Sys2Proof.Machine

/-! ### The wake line's countdowns and system-ready (O24, O25) -/

section wakeLine
variable {s : State}

/-- The window's end in GAP below the retry limit: a further pulse (R16). -/
theorem windowEndInGap_below (h : s.modeCtl.retry < s.ctl.cfg.retryLimit) :
    windowEndInGap s =
      { s with
        modeCtl :=
          ⟨s.modeCtl.mode, true, .asserted, s.modeCtl.retry + 1, some s.ctl.cfg.pulseWidth,
            some (max s.ctl.cfg.resumeWindow s.ctl.cfg.pulseWidth)⟩ } := if_pos h

/-- The window's end in GAP at the retry limit: UNANSWERED, and counted (R16). -/
theorem windowEndInGap_at (h : s.ctl.cfg.retryLimit ≤ s.modeCtl.retry) :
    windowEndInGap s =
      bump .wakeUnanswered
        { s with modeCtl := ⟨s.modeCtl.mode, false, .unanswered, s.modeCtl.retry, none, none⟩ } :=
  if_neg (Nat.not_lt.2 h)

/-- The end of a pulse gives GAP, and a window that ends with it is acted on there (R16). -/
theorem pulseEnd_of_ended (hw : s.ctl.cfg.wakeMode = .pulse) (hs : s.modeCtl.sub = .asserted)
    (hp : s.modeCtl.pulse = some 0) :
    pulseEnd s =
      if s.modeCtl.window = some 0 then
        windowEndInGap (s.setModeCtl { s.modeCtl with active := false, sub := .gap, pulse := none })
      else s.setModeCtl { s.modeCtl with active := false, sub := .gap, pulse := none } :=
  if_pos ⟨hw, hs, hp⟩

theorem resumeWindowEnd_of_gap (hm : s.ctl.cfg.wakeMode = .pulse) (hs : s.modeCtl.sub = .gap)
    (hw : s.modeCtl.window = some 0) : resumeWindowEnd s = windowEndInGap s := by
  rw [resumeWindowEnd, if_pos hw, hm, hs]

theorem resumeWindowEnd_of_level (hm : s.ctl.cfg.wakeMode = .level) (hs : s.modeCtl.sub = .asserted)
    (hw : s.modeCtl.window = some 0) :
    resumeWindowEnd s = bump .resumeLate (s.setModeCtl { s.modeCtl with window := none }) := by
  rw [resumeWindowEnd, if_pos hw, hm, hs]

/-- Settles O24, by the retry count at the end of the window. -/
theorem wakeLineCountdownsEnd : Obligations.WakeLineCountdownsEnd := by
  intro s
  refine ⟨fun hm hs hp => ⟨fun hw => ?_, fun hw hr => ?_, fun hw hr => ?_⟩,
    fun hm hs hw => ⟨fun hr => ?_, fun hr => ?_⟩, fun hm hs hw => ?_⟩
  · exact congrArg _ ((pulseEnd_of_ended hm hs hp).trans (if_neg hw))
  · exact congrArg _ (((pulseEnd_of_ended hm hs hp).trans (if_pos hw)).trans (windowEndInGap_below hr))
  · exact congrArg _ (((pulseEnd_of_ended hm hs hp).trans (if_pos hw)).trans (windowEndInGap_at hr))
  · exact congrArg _ ((resumeWindowEnd_of_gap hm hs hw).trans (windowEndInGap_below hr))
  · exact congrArg _ ((resumeWindowEnd_of_gap hm hs hw).trans (windowEndInGap_at hr))
  · exact congrArg _ (resumeWindowEnd_of_level hm hs hw)

/-- The rise of system-ready at a low level: the level is high, and in WAKING the handshake takes it. -/
theorem exec_systemReadyRise_of_low (h : s.sys.ready = false) :
    exec .systemReadyRise s =
      .next
        (if s.modeCtl.mode = .waking then
          { s with sys := { s.sys with ready := true }, modeCtl := riseAtWakeLine s.ctl.cfg s.modeCtl }
        else { s with sys := { s.sys with ready := true } }) := by
  have low : ¬ s.sys.ready = true := by simp [h]
  change execSystemReadyRise s = _
  unfold execSystemReadyRise
  rw [if_neg low]
  by_cases hw : s.modeCtl.mode = .waking
  · exact (if_pos hw).trans (congrArg _ (if_pos hw).symm)
  · exact (if_neg hw).trans (congrArg _ (if_neg hw).symm)

/-- Under PULSE a pulse, a gap and an unanswered cycle end in RESUMED (R17). -/
theorem riseAtWakeLine_pulse {c : ConfigRecord} {m : ModeCtl} (hc : c.wakeMode = .pulse)
    (hs : m.sub = .asserted ∨ m.sub = .gap ∨ m.sub = .unanswered) : riseAtWakeLine c m = m.resume := by
  rcases hs with hs | hs | hs <;> simp [riseAtWakeLine, hc, hs]

theorem riseAtWakeLine_resumed {c : ConfigRecord} {m : ModeCtl} (hc : c.wakeMode = .pulse)
    (hs : m.sub = .resumed) : riseAtWakeLine c m = m := by simp [riseAtWakeLine, hc, hs]

theorem riseAtWakeLine_level {c : ConfigRecord} {m : ModeCtl} (hc : c.wakeMode = .level)
    (hs : m.sub = .asserted) : riseAtWakeLine c m = { m with window := none } := by
  simp [riseAtWakeLine, hc, hs]

/-- Settles O25, by what the rise does at the wake line. -/
theorem systemReadyActs : Obligations.SystemReadyActs := by
  intro s
  refine ⟨fun hr => ⟨fun hw => ?_, fun hw hc => ⟨fun hs => ?_, fun hs => ?_⟩, fun hw hc hs => ?_⟩,
    fun hr => if_pos hr⟩
  · rw [exec_systemReadyRise_of_low hr, if_neg hw]
  · rw [exec_systemReadyRise_of_low hr, if_pos hw, riseAtWakeLine_pulse hc hs, ModeCtl.resume, hw]
  · rw [exec_systemReadyRise_of_low hr, if_pos hw, riseAtWakeLine_resumed hc hs]
  · rw [exec_systemReadyRise_of_low hr, if_pos hw, riseAtWakeLine_level hc hs]

end wakeLine
end Sys2Proof.Machine

namespace Sys2Proof.Machine

/-! ### A rehearsal copy (O47) -/

/-- What a rehearsal copy may change (R20): it sends rehearsal requests, builds notices, counts MATCH_NONE and a
match entry's hits, and leaves the guard path. -/
structure CopyKeeps (s t : State) : Prop where
  identities : t.identities = s.identities
  sessions : t.sessions = s.sessions
  probes : t.probes = s.probes
  bank : t.bank = s.bank
  hold : t.hold = s.hold
  names : t.names = s.names
  ipId : t.reply.ipId = s.reply.ipId
  queue : t.reply.queue = s.reply.queue
  counters : ∀ k : Counter, k ≠ .matchNone → t.counter k = s.counter k
  requests : ∃ rs, t.wake = { s.wake with requests := s.wake.requests ++ rs } ∧ ∀ r ∈ rs, r.rehearsal = true
  slots : ∀ i, t.slot i = s.slot i
    ∨ ((s.slot i).state = .free ∧ (t.slot i).state = .queued ∧ (t.slot i).dest = .notice)

section copies
variable {s t u : State} {p : ParsedFrame}

/-- A change of the blocks that R20 does not list. -/
theorem CopyKeeps.of_eq (hi : t.identities = s.identities := by simp) (hs : t.sessions = s.sessions := by simp)
    (hp : t.probes = s.probes := by simp) (hb : t.bank = s.bank := by simp) (hh : t.hold = s.hold := by simp)
    (hn : t.names = s.names := by simp) (hr : t.reply = s.reply := by simp) (hc : t.ctl = s.ctl := by simp)
    (hw : t.wake = s.wake := by simp) : CopyKeeps s t where
  identities := hi
  sessions := hs
  probes := hp
  bank := hb
  hold := hh
  names := hn
  ipId := by rw [hr]
  queue := by rw [hr]
  counters k _ := by rw [State.counter, hc, State.counter]
  requests := ⟨[], by simp [hw], by simp⟩
  slots i := .inl (by rw [State.slot, hr, State.slot])

theorem CopyKeeps.refl (s : State) : CopyKeeps s s := .of_eq

theorem CopyKeeps.trans (h : CopyKeeps s t) (k : CopyKeeps t u) : CopyKeeps s u where
  identities := k.identities.trans h.identities
  sessions := k.sessions.trans h.sessions
  probes := k.probes.trans h.probes
  bank := k.bank.trans h.bank
  hold := k.hold.trans h.hold
  names := k.names.trans h.names
  ipId := k.ipId.trans h.ipId
  queue := k.queue.trans h.queue
  counters c hc := (k.counters c hc).trans (h.counters c hc)
  requests := by
    obtain ⟨rs, hw, hr⟩ := h.requests
    obtain ⟨rs', hw', hr'⟩ := k.requests
    refine ⟨rs ++ rs', by simp [hw', hw], fun r hmem => ?_⟩
    exact (List.mem_append.1 hmem).elim (hr r) (hr' r)
  slots i := by
    rcases k.slots i with hk | ⟨hf, hq, hd⟩
    · rw [hk]
      exact h.slots i
    · rcases h.slots i with hh | ⟨-, hq', -⟩
      · exact .inr ⟨hh ▸ hf, hq, hd⟩
      · simp [hf] at hq'

theorem Counter.ofNat_index (c : Counter) : Counter.ofNat c.index = c := by cases c <;> rfl

/-- Counters have places of their own (R194). -/
theorem Counter.index_injective {a b : Counter} (h : a.index = b.index) : a = b := by
  rw [← Counter.ofNat_index a, h, Counter.ofNat_index]

theorem counter_bump_of_ne {a b : Counter} (h : b ≠ a) (s : State) : (bump a s).counter b = s.counter b := by
  have hne : ¬ a.index = b.index := fun hi => h (Counter.index_injective hi).symm
  simp [State.counter, bump, hne]

theorem copyKeeps_matchNone (s : State) : CopyKeeps s (bump .matchNone s) :=
  { CopyKeeps.of_eq (s := s) (t := s) with
    counters := fun k hk => counter_bump_of_ne hk s }

/-- A notice built into a FREE slot (R125). -/
theorem copyKeeps_fillSlot {i : Nat} {k : ReplyKind} {n : Option Nat} {v4 : Bool} {f : Frame}
    (hf : freeSlot s = some i) : CopyKeeps s (fillSlot i .notice k n v4 f s) :=
  { CopyKeeps.refl s with
    ipId := by simp [fillSlot]
    queue := by simp [fillSlot]
    slots := fun j => by
      obtain ⟨hi, hfree⟩ := freeSlot_eq_some hf
      have slot : (fillSlot i .notice k n v4 f s).slot j =
          if i = j ∧ j < s.reply.slots.length then ⟨.queued, .notice, k, n, f⟩ else s.slot j := getD_set ..
      rw [slot]
      split
      · rename_i h
        obtain ⟨rfl, -⟩ := h
        exact .inr ⟨hfree, rfl, rfl⟩
      · exact .inl rfl }

theorem copyKeeps_buildReply {k : ReplyKind} {n : Option Nat} {v4 : Bool} {frame : BitVec 16 → Frame}
    (hp : p.path = .copy) (h : buildReply p.path k n v4 frame s = some t) : CopyKeeps s t := by
  obtain ⟨i, hf, rfl⟩ := buildReply_some h
  rw [hp]
  exact copyKeeps_fillSlot hf

theorem copyKeeps_sendRequest {r : WakeRequest} (hr : r.rehearsal = true) : CopyKeeps s (sendRequest r s) :=
  { CopyKeeps.refl s with requests := ⟨[r], rfl, by simp [hr]⟩ }

/-- A copy's reply that finds no slot is not counted (R125). -/
theorem skipReply_copy (hp : p.path = .copy) (s : State) : skipReply p.path s = s := by
  rw [hp]
  rfl

theorem copyKeeps_answer {c : Counter} {v4 : Bool} {frame : BitVec 16 → Frame} (hp : p.path = .copy) :
    CopyKeeps s (answer p c v4 frame s) := by
  unfold answer
  split
  · rename_i h
    rw [hp]
    exact copyKeeps_buildReply hp h
  · rw [skipReply_copy hp]
    exact .refl s

theorem copyKeeps_answerName {entry : Nat} {v4 : Bool} {frame : BitVec 16 → Frame} (hp : p.path = .copy) :
    CopyKeeps s (answerName p entry v4 frame s) := by
  unfold answerName
  split
  · rename_i h
    rw [if_pos hp]
    exact copyKeeps_buildReply hp h
  · rw [skipReply_copy hp]
    exact .refl s

theorem copyKeeps_defend {form : ConflictForm} {i : Identity} (hp : p.path = .copy) :
    CopyKeeps s (defend form i p s) := by
  unfold defend
  split
  · split
    · rename_i h
      exact copyKeeps_buildReply hp h
    · rw [skipReply_copy hp]
      exact .refl s
  · exact .refl s

/-- A copy's conflict is declined, or defended by a notice and sent as a rehearsal request (R76). -/
theorem copyKeeps_handleConflict {id : Nat} {form : ConflictForm} (hp : p.path = .copy) :
    CopyKeeps s (handleConflict id form p s).state := by
  unfold handleConflict
  dsimp only
  rw [if_pos hp]
  split
  · exact .refl s
  · exact (copyKeeps_defend hp).trans (copyKeeps_sendRequest rfl)

/-- A copy dropped for a bad checksum is not counted (R76, R85, R96). -/
theorem dropBadSum_copy (hp : p.path = .copy) (s : State) : dropBadSum p s = .done s := by
  rw [dropBadSum, hp]
  rfl

theorem copyKeeps_judgeAddress (hp : p.path = .copy) : CopyKeeps s (judgeAddress p s).state := by
  rcases judgeAddress_cases p s with e | e | ⟨i, form, e⟩ | ⟨c, frame, e⟩ <;> rw [e]
  · exact .refl s
  · rw [dropBadSum_copy hp]
    exact .refl s
  · exact copyKeeps_handleConflict hp
  · exact copyKeeps_answer hp

theorem copyKeeps_judgeEcho (hp : p.path = .copy) : CopyKeeps s (judgeEcho p s).state := by
  rcases judgeEcho_cases p s with e | e | ⟨v4, frame, e⟩ <;> rw [e]
  · exact .refl s
  · rw [dropBadSum_copy hp]
    exact .refl s
  · exact copyKeeps_answer hp

theorem copyKeeps_judgeName (hp : p.path = .copy) : CopyKeeps s (judgeName p s).state := by
  rcases judgeName_cases p s with e | e | ⟨k, v4, frame, e⟩ <;> rw [e]
  · exact .refl s
  · rw [dropBadSum_copy hp]
    exact .refl s
  · exact copyKeeps_answerName hp

/-- The keepalive unit declines a copy (R20). -/
theorem judgeSession_copy (hp : p.path = .copy) (s : State) : judgeSession p s = .decline s := if_pos hp

/-- A copy is not held (R20). -/
theorem holdVerdict_copy (hp : p.path = .copy) (s : State) : holdVerdict p s = s := if_pos hp

theorem copyKeeps_wakeVerdict {cause : WakeCause} {entry cls : Nat} (hp : p.path = .copy) :
    CopyKeeps s (wakeVerdict cause entry cls p s) := by
  rw [wakeVerdict, if_pos hp]
  exact copyKeeps_sendRequest rfl

theorem copyKeeps_applyFallback {entry : Nat} {e : MatchEntry} (hp : p.path = .copy) :
    CopyKeeps s (applyFallback entry e p s) := by
  unfold applyFallback
  split
  · exact .refl s
  · rw [holdVerdict_copy hp]
    exact .refl s
  · exact copyKeeps_wakeVerdict hp

theorem copyKeeps_afterResponder {entry : Nat} {e : MatchEntry} {j : Judged} (hp : p.path = .copy)
    (h : CopyKeeps s j.state) : CopyKeeps s (afterResponder entry e p j) := by
  unfold afterResponder
  split
  · exact h.trans (copyKeeps_applyFallback hp)
  · exact h

theorem copyKeeps_carryOut {entry : Nat} {e : MatchEntry} (hp : p.path = .copy) :
    CopyKeeps s (carryOut entry e p s) := by
  unfold carryOut
  split
  · exact .refl s
  · rw [holdVerdict_copy hp]
    exact .refl s
  · exact copyKeeps_wakeVerdict hp
  · exact copyKeeps_afterResponder hp (copyKeeps_judgeAddress hp)
  · exact copyKeeps_afterResponder hp (copyKeeps_judgeEcho hp)
  · exact copyKeeps_afterResponder hp (copyKeeps_judgeName hp)
  · rw [judgeSession_copy hp]
    exact copyKeeps_afterResponder hp (.refl s)

theorem copyKeeps_classify (hp : p.path = .copy) : CopyKeeps s (classify p s) := by
  unfold classify
  split
  · exact .trans .of_eq (copyKeeps_carryOut hp)
  · dsimp only
    rw [holdVerdict_copy hp, ite_self]
    exact copyKeeps_matchNone s

/-- The end of DRAIN touches the mode controller alone, and that in DRAIN. -/
theorem endDrain_modeCtl (s : State) : (endDrain s).modeCtl = s.modeCtl ∨ s.modeCtl.mode = .drain := by
  rcases endDrain_cases s with h | ⟨hd, -⟩
  · exact .inl (by rw [h])
  · exact .inr hd

/-- A copy parsed is handed to the classifier and not counted (R40). -/
theorem copyKeeps_parseFrame (hc : s.guardPath.fifo.head?.map GuardItem.path = some .copy)
    (h : execParseFrame s = .next t) :
    CopyKeeps s t ∧ (t.modeCtl = s.modeCtl ∨ s.modeCtl.mode = .drain) := by
  unfold execParseFrame at h
  split at h
  · cases h
    exact ⟨.refl s, .inl rfl⟩
  · rename_i g rest hfifo
    have hg : g.path = .copy := by simpa [hfifo] using hc
    dsimp only at h
    rw [if_neg (by simp [hg])] at h
    split at h <;> cases h
    · exact ⟨.refl s, .inl rfl⟩
    · have uncounted : ∀ q u, countParse g.path q u = u := fun q u => if_neg (by simp [hg])
      rw [uncounted]
      refine ⟨.of_eq, ?_⟩
      exact endDrain_modeCtl (s.setGuardPath _)

theorem copyKeeps_classifyFrame (hc : s.guardPath.parsed.map ParsedFrame.path = some .copy)
    (h : execClassifyFrame s = .next t) :
    CopyKeeps s t ∧ (t.modeCtl = s.modeCtl ∨ s.modeCtl.mode = .drain) := by
  unfold execClassifyFrame at h
  split at h
  · cases h
    exact ⟨.refl s, .inl rfl⟩
  · rename_i p hparsed
    have hp : p.path = .copy := by simpa [hparsed] using hc
    split at h <;> cases h
    · have taken : CopyKeeps s (s.setGuardPath { s.guardPath with parsed := none }) := .of_eq
      refine ⟨(taken.trans (copyKeeps_classify hp)).trans .of_eq, ?_⟩
      simpa using endDrain_modeCtl (classify p (s.setGuardPath { s.guardPath with parsed := none }))
    · exact ⟨.refl s, .inl rfl⟩

/-- Settles O47, by what a copy keeps at the parser and at the classifier. -/
theorem copiesLeaveTheStateAlone : Obligations.CopiesLeaveTheStateAlone := by
  intro s t c hcopy h
  have kept : CopyKeeps s t ∧ (t.modeCtl = s.modeCtl ∨ s.modeCtl.mode = .drain) := by
    rcases hcopy with ⟨rfl, hc⟩ | ⟨rfl, hc⟩
    · exact copyKeeps_parseFrame hc h
    · exact copyKeeps_classifyFrame hc h
  obtain ⟨k, hm⟩ := kept
  exact ⟨k.identities, k.sessions, k.probes, k.bank, k.hold, k.names, k.ipId, k.queue, k.counters, k.requests,
    k.slots, hm⟩

end copies
end Sys2Proof.Machine

namespace Sys2Proof.Machine

/-! ### The tables read and written (O10, O11) -/

section tables
variable {s : State} {f : Frame} {rest : List Frame} {code length n : Nat}

/-- A table read answers the entry at an index of the table and refuses a greater index (R188). -/
theorem takeCommand_indexed_read {body : Nat → State → Frame} (h : Offers s f rest code length) :
    takeCommand code length (indexed n fun i _ s => .done (body i s) s) s =
      if byteAt (bodyOf f) 0 < n then
        s.answered f rest .ok (body (byteAt (bodyOf f) 0) (s.withRx rest))
      else s.answered f rest .badIndex [] := by
  rw [takeCommand_eq_respond _ h, indexed]
  split <;> rfl

/-- Settles O10: the five reads are reads of a table at an index. -/
theorem tableReadsReport : Obligations.TableReadsReport := fun _ _ _ =>
  ⟨fun h => congrArg _ (takeCommand_indexed_read h), fun h => congrArg _ (takeCommand_indexed_read h),
    fun h => congrArg _ (takeCommand_indexed_read h), fun h => congrArg _ (takeCommand_indexed_read h),
    fun h => congrArg _ (takeCommand_indexed_read h)⟩

/-- A write that the mode and the index allow stores the value that its body gives and answers OK, or answers
BAD_VALUE and changes nothing (R186, R188). -/
theorem exec_indexedWrite_stores {α : Type} {c : Instr} (value : Nat → Frame → State → Option α)
    (store : Nat → α → State → State) (h : Offers s f rest code length)
    (hc : exec c s =
      .next
        (takeCommand code length (writing (indexed n fun i b s => storing (value i b s) (store i) s)) s))
    (hm : s.modeCtl.mode = .pass ∨ s.modeCtl.mode = .drain) (hn : byteAt (bodyOf f) 0 < n) :
    (∀ x, value (byteAt (bodyOf f) 0) (bodyOf f) (s.withRx rest) = some x →
        exec c s =
          .next (respond (readControl f) (.done [] (store (byteAt (bodyOf f) 0) x (s.withRx rest)))))
      ∧ (value (byteAt (bodyOf f) 0) (bodyOf f) (s.withRx rest) = none →
        exec c s = .next (s.answered f rest .badValue [])) := by
  have allowed : admitsWrites (s.withRx rest) = true := by
    rcases hm with hm | hm <;> simp [admitsWrites, State.withRx, hm]
  rw [hc, takeCommand_eq_respond _ h, writing, if_pos allowed, indexed, if_pos hn]
  constructor
  · intro x hx
    rw [hx]
    rfl
  · intro hx
    rw [hx]
    rfl

/-- The address of an identity is taken when another valid identity holds it (R62, check 5). -/
theorem addressTaken_iff {ids : List Identity} {i : Nat} {a : Addr} :
    addressTaken ids i a = true ↔
      ∃ k < ids.length, k ≠ i ∧ (ids.getD k Identity.powerOn).valid = true
        ∧ (ids.getD k Identity.powerOn).addr = a := by
  simp only [addressTaken, List.any_eq_true, List.mem_range, Bool.and_eq_true, bne_iff_ne, beq_iff_eq,
    and_assoc]

theorem identityFor_of_free {ids : List Identity} {i : Nat} {x : Identity}
    (h : x.valid = true → ∀ k < ids.length, k ≠ i → (ids.getD k Identity.powerOn).valid = true →
      (ids.getD k Identity.powerOn).addr ≠ x.addr) :
    identityFor ids i x = some x := by
  refine if_neg fun refused => ?_
  obtain ⟨hv, ht⟩ := Bool.and_eq_true_iff.1 refused
  obtain ⟨k, hk, hki, hkv, ha⟩ := addressTaken_iff.1 ht
  exact h hv k hk hki hkv ha

theorem identityFor_of_taken {ids : List Identity} {i k : Nat} {x : Identity} (hv : x.valid = true)
    (hk : k < ids.length) (hki : k ≠ i) (hkv : (ids.getD k Identity.powerOn).valid = true)
    (ha : (ids.getD k Identity.powerOn).addr = x.addr) : identityFor ids i x = none :=
  if_pos (Bool.and_eq_true_iff.2 ⟨hv, addressTaken_iff.2 ⟨k, hk, hki, hkv, ha⟩⟩)

/-- Settles O11: each write is a write at an index, and WRITE_IDENTITY has the check of R62 besides. -/
theorem tableWritesStore : Obligations.TableWritesStore := by
  intro s f rest hm
  refine ⟨fun h => exec_indexedWrite_stores (fun _ b _ => decodeMatch b) storeMatch h rfl hm,
    fun h hn => ?_, fun h => exec_indexedWrite_stores (fun _ b _ => decodeName b) storeName h rfl hm,
    fun h => exec_indexedWrite_stores (fun _ b _ => decodeSession b) storeSession h rfl hm,
    fun h => exec_indexedWrite_stores (fun _ b _ => decodeAlarm b) storeAlarm h rfl hm⟩
  obtain ⟨stores, refuses⟩ :=
    exec_indexedWrite_stores (fun i b s => (decodeIdentity b).bind (identityFor s.identities i))
      storeIdentity h (c := .writeIdentity) rfl hm hn
  refine ⟨fun x hx free => stores x ?_, fun x hx hv k hk hki hkv ha => refuses ?_, fun hx => refuses ?_⟩
  · rw [hx, Option.bind_some]
    exact identityFor_of_free free
  · rw [hx, Option.bind_some]
    exact identityFor_of_taken hv hk hki hkv ha
  · rw [hx, Option.bind_none]

end tables
end Sys2Proof.Machine

namespace Sys2Proof.Machine

/-! ### The classifier's verdict (O41, O42) -/

section verdicts
variable {s t : State} {p : ParsedFrame} {k : Nat} {e : MatchEntry}

/-! #### The lowest entry that matches (R42 to R44) -/

/-- A present term compares the bits of its mask; a position that holds nothing matches (R42). -/
theorem termMatches_iff {v : FieldVector} {o : Option Term} :
    termMatches v o = true ↔
      ∀ x, o = some x → BitVec.ofNat 32 (v.get x.field) &&& x.mask = x.value &&& x.mask := by
  cases o <;> simp [termMatches]

/-- An entry matches when it is valid and every term that is present agrees (R43). -/
theorem entryMatches_iff {v : FieldVector} :
    entryMatches v e = true ↔
      e.valid = true ∧
        ∀ x, some x ∈ e.terms →
          BitVec.ofNat 32 (v.get x.field) &&& x.mask = x.value &&& x.mask := by
  simp only [entryMatches, Bool.and_eq_true, List.all_eq_true, termMatches_iff]
  refine and_congr_right fun _ => ⟨fun h x hx => h _ hx x rfl, ?_⟩
  rintro h _ ho x rfl
  exact h x ho

/-- An entry changed in place is the changed entry put in its place. -/
theorem modify_eq_set {α : Type} {l : List α} {i : Nat} {a : α} {f : α → α} (h : l[i]? = some a) :
    l.modify i f = l.set i (f a) := by
  obtain ⟨hi, rfl⟩ := List.getElem?_eq_some_iff.1 h
  refine List.ext_getElem (by simp only [List.length_modify, List.length_set]) fun j _ _ => ?_
  rw [List.getElem_modify, List.getElem_set]
  split
  · rename_i hij
    subst hij
    rfl
  · rfl

/-- The first match is the entry that matches with none below it that does (R44). -/
theorem firstMatch_eq_some {l : List MatchEntry} {v : FieldVector} (he : l[k]? = some e)
    (hm : entryMatches v e = true)
    (hlow : ∀ j < k, ∀ e', l[j]? = some e' → ¬entryMatches v e' = true) : firstMatch l v = some k := by
  obtain ⟨hk, rfl⟩ := List.getElem?_eq_some_iff.1 he
  refine List.findIdx?_eq_some_iff_getElem.2 ⟨hk, hm, fun j hj => ?_⟩
  exact hlow j hj _ (List.getElem?_eq_getElem (Nat.lt_trans hj hk))

/-! #### Only a frame without an entry moves MATCH_NONE (R45) -/

theorem counter_of_ctl {c : Counter} (h : t.ctl = s.ctl) : t.counter c = s.counter c := by
  rw [State.counter, h, State.counter]

theorem counter_bumpIf_of_ne {a b : Counter} (h : b ≠ a) (q : Bool) (s : State) :
    (bumpIf q a s).counter b = s.counter b := by
  cases q
  · rfl
  · exact counter_bump_of_ne h s

theorem counter_bump_self {c : Counter} (h : s.ctl.counters.length = Config.counterCount) :
    (bump c s).counter c = satBump (s.counter c) := by
  have hc : c.index < s.ctl.counters.length := by
    rw [h]
    cases c <;> decide
  simp [State.counter, bump, hc]

theorem buildReply_ctl {path : Path} {kind : ReplyKind} {n : Option Nat} {v4 : Bool}
    {frame : BitVec 16 → Frame} (h : buildReply path kind n v4 frame s = some t) : t.ctl = s.ctl := by
  obtain ⟨i, -, rfl⟩ := buildReply_some h
  exact fillSlot_ctl ..

theorem skipReply_matchNone (path : Path) (s : State) :
    (skipReply path s).counter .matchNone = s.counter .matchNone :=
  counter_bumpIf_of_ne (by decide) _ s

theorem dropBadSum_matchNone (p : ParsedFrame) (s : State) :
    (dropBadSum p s).state.counter .matchNone = s.counter .matchNone :=
  counter_bumpIf_of_ne (by decide) _ s

theorem answer_matchNone {c : Counter} (hc : .matchNone ≠ c) {v4 : Bool} {frame : BitVec 16 → Frame} :
    (answer p c v4 frame s).counter .matchNone = s.counter .matchNone := by
  unfold answer
  split
  · rename_i h
    rw [counter_bumpIf_of_ne hc, counter_of_ctl (buildReply_ctl h)]
  · exact skipReply_matchNone _ _

theorem answerName_matchNone {entry : Nat} {v4 : Bool} {frame : BitVec 16 → Frame} :
    (answerName p entry v4 frame s).counter .matchNone = s.counter .matchNone := by
  unfold answerName
  split
  · rename_i h
    split
    · exact counter_of_ctl (buildReply_ctl h)
    · rw [counter_bump_of_ne (by decide)]
      exact counter_of_ctl ((State.setNames_ctl ..).trans (buildReply_ctl h))
  · exact skipReply_matchNone _ _

theorem ackReply_matchNone (i : Nat) (p : ParsedFrame) (s : State) :
    (ackReply i p s).counter .matchNone = s.counter .matchNone := by
  unfold ackReply
  dsimp only
  split
  · rename_i h
    rw [counter_bump_of_ne (by decide)]
    exact counter_of_ctl ((modifySession_ctl ..).trans (buildReply_ctl h))
  · exact skipReply_matchNone _ _

theorem defend_matchNone (form : ConflictForm) (i : Identity) (p : ParsedFrame) (s : State) :
    (defend form i p s).counter .matchNone = s.counter .matchNone := by
  unfold defend
  split
  · split
    · rename_i h
      exact counter_of_ctl (buildReply_ctl h)
    · exact skipReply_matchNone _ _
  · rfl

theorem countConflict_matchNone (i : Nat) (s : State) :
    (countConflict i s).counter .matchNone = s.counter .matchNone :=
  counter_bump_of_ne (by decide) _

theorem handleConflict_matchNone (id : Nat) (form : ConflictForm) (p : ParsedFrame) (s : State) :
    (handleConflict id form p s).state.counter .matchNone = s.counter .matchNone := by
  unfold handleConflict
  dsimp only
  split
  · split
    · rfl
    · exact defend_matchNone ..
  split
  · exact countConflict_matchNone id s
  · have conflicted : ∀ u : State, u.counter .matchNone = s.counter .matchNone →
        (detachIdentity id (countConflict id u)).counter .matchNone = s.counter .matchNone := fun u hu => by
      rw [counter_of_ctl (detachIdentity_ctl ..), countConflict_matchNone, hu]
    split
    all_goals exact conflicted _ (defend_matchNone ..)

theorem answerArp_matchNone (p : ParsedFrame) (s : State) :
    (answerArp p s).state.counter .matchNone = s.counter .matchNone := by
  have shape : answerArp p s = .decline s
      ∨ ∃ frame, answerArp p s = .done (answer p .answerArp false frame s) := by
    unfold answerArp
    dsimp only
    split
    · exact .inr ⟨_, rfl⟩
    · exact .inl rfl
  rcases shape with h | ⟨frame, h⟩ <;> rw [h]
  · rfl
  · exact answer_matchNone (by decide)

theorem answerSolicitation_matchNone (p : ParsedFrame) (s : State) :
    (answerSolicitation p s).state.counter .matchNone = s.counter .matchNone := by
  have shape : answerSolicitation p s = .decline s
      ∨ ∃ frame, answerSolicitation p s = .done (answer p .answerNd false frame s) := by
    unfold answerSolicitation
    dsimp only
    split
    · exact .inr ⟨_, rfl⟩
    · exact .inl rfl
  rcases shape with h | ⟨frame, h⟩ <;> rw [h]
  · rfl
  · exact answer_matchNone (by decide)

theorem judgeNd_matchNone (kind : AddressKind) (p : ParsedFrame) (s : State) :
    (judgeNd kind p s).state.counter .matchNone = s.counter .matchNone := by
  rcases judgeNd_cases kind p s with h | h | ⟨i, form, h⟩ | h <;> rw [h]
  · rfl
  · exact dropBadSum_matchNone ..
  · exact handleConflict_matchNone ..
  · exact answerSolicitation_matchNone ..

theorem judgeAddress_matchNone (p : ParsedFrame) (s : State) :
    (judgeAddress p s).state.counter .matchNone = s.counter .matchNone := by
  cases hk : addressKind p.fv with
  | none =>
    have declined : judgeAddress p s = .decline s := by simp only [judgeAddress, hk]
    rw [declined]
    rfl
  | some kind =>
    by_cases ha : kind = .arp
    · subst ha
      cases hc : arpConflict s p with
      | some j =>
        rw [judgeAddress_of_arpConflict hk hc]
        exact handleConflict_matchNone ..
      | none =>
        rw [judgeAddress_of_noArpConflict hk hc]
        exact answerArp_matchNone ..
    · rw [judgeAddress_of_nd hk ha]
      exact judgeNd_matchNone ..

theorem judgeEcho_matchNone (p : ParsedFrame) (s : State) :
    (judgeEcho p s).state.counter .matchNone = s.counter .matchNone := by
  rcases judgeEcho_cases p s with h | h | ⟨v4, frame, h⟩ <;> rw [h]
  · rfl
  · exact dropBadSum_matchNone ..
  · exact answer_matchNone (by decide)

theorem judgeName_matchNone (p : ParsedFrame) (s : State) :
    (judgeName p s).state.counter .matchNone = s.counter .matchNone := by
  rcases judgeName_cases p s with h | h | ⟨entry, v4, frame, h⟩ <;> rw [h]
  · rfl
  · exact dropBadSum_matchNone ..
  · exact answerName_matchNone

theorem judgeSegment_matchNone (i : Nat) (p : ParsedFrame) (s : State) :
    (judgeSegment i p s).state.counter .matchNone = s.counter .matchNone := by
  have passed : ∀ x cls cause, (passOn i x cls cause p s).state.counter .matchNone = s.counter .matchNone :=
    fun x cls cause => counter_of_ctl (passOn_ctl ..)
  have heard : ∀ v, (liveness i v s).counter .matchNone = s.counter .matchNone :=
    fun v => counter_of_ctl (liveness_ctl ..)
  have acked : ∀ v, (ackReply i p (liveness i v s)).counter .matchNone = s.counter .matchNone :=
    fun v => (ackReply_matchNone ..).trans (heard v)
  have counted : ∀ c, .matchNone ≠ c → (bump c s).counter .matchNone = s.counter .matchNone :=
    fun c hc => counter_bump_of_ne hc s
  simp [judgeSegment, apply_ite Judged.state, apply_ite (State.counter · .matchNone), Judged.done, passed, heard,
    acked, counted]

theorem judgeSession_matchNone (p : ParsedFrame) (s : State) :
    (judgeSession p s).state.counter .matchNone = s.counter .matchNone := by
  unfold judgeSession
  dsimp only
  split
  · rfl
  split
  · rfl
  split
  · rfl
  split
  · rfl
  split
  · exact counter_bump_of_ne (by decide) s
  · exact judgeSegment_matchNone ..

theorem afterResponder_matchNone {entry : Nat} {j : Judged}
    (h : j.state.counter .matchNone = s.counter .matchNone) :
    (afterResponder entry e p j).counter .matchNone = s.counter .matchNone := by
  unfold afterResponder
  split
  · exact (counter_of_ctl (applyFallback_ctl ..)).trans h
  · exact h

/-- No verdict of an entry moves MATCH_NONE (R45). -/
theorem carryOut_matchNone (entry : Nat) (e : MatchEntry) (p : ParsedFrame) (s : State) :
    (carryOut entry e p s).counter .matchNone = s.counter .matchNone := by
  unfold carryOut
  split
  · rfl
  · exact counter_of_ctl (holdVerdict_ctl ..)
  · exact counter_of_ctl (wakeVerdict_ctl ..)
  · exact afterResponder_matchNone (judgeAddress_matchNone ..)
  · exact afterResponder_matchNone (judgeEcho_matchNone ..)
  · exact afterResponder_matchNone (judgeName_matchNone ..)
  · exact afterResponder_matchNone (judgeSession_matchNone ..)

/-! #### The step -/

/-- The frame taken from the classifier, MATCH_NONE moved (R45). -/
def State.unmatched (s : State) : State :=
  bump .matchNone { s with guardPath := { s.guardPath with parsed := none } }

theorem exec_classifyFrame_of_decides (h : Decides s p k e) :
    exec .classifyFrame s = .next (endDrain (carryOut k e p (s.hit k))) := execClassifyFrame_of_decides h

theorem exec_classifyFrame_of_none (hp : s.guardPath.parsed = some p) (hf : classifierFree s = true)
    (hm : firstMatch s.matchTable p.fv = none) :
    exec .classifyFrame s =
      .next (endDrain (if s.ctl.cfg.defaultHold then holdVerdict p s.unmatched else s.unmatched)) :=
  execClassifyFrame_of_none hp hf hm

theorem exec_classifyFrame_of_busy (hp : s.guardPath.parsed = some p) (hf : classifierFree s = false) :
    exec .classifyFrame s = .next s := by
  change execClassifyFrame s = _
  simp [execClassifyFrame, hp, hf]

/-- The entry that decides is the one whose hit is counted, and MATCH_NONE stays (R44). -/
theorem decides_keeps (k : Nat) (e : MatchEntry) (p : ParsedFrame) (s : State) :
    (endDrain (carryOut k e p (s.hit k))).guardPath.parsed = none
      ∧ (endDrain (carryOut k e p (s.hit k))).matchTable =
          (s.matchTable.modify k fun e => { e with hits := satBump e.hits })
      ∧ (endDrain (carryOut k e p (s.hit k))).counter .matchNone = s.counter .matchNone := by
  refine ⟨by simp [State.hit], by simp [State.hit], ?_⟩
  rw [counter_of_ctl (endDrain_ctl _), carryOut_matchNone]
  rfl

/-- Without an entry the table stays and MATCH_NONE moves (R45). -/
theorem unmatched_keeps (hold : Bool) (p : ParsedFrame) (s : State)
    (hs : s.ctl.counters.length = Config.counterCount) :
    (endDrain (if hold then holdVerdict p s.unmatched else s.unmatched)).guardPath.parsed = none
      ∧ (endDrain (if hold then holdVerdict p s.unmatched else s.unmatched)).matchTable = s.matchTable
      ∧ (endDrain (if hold then holdVerdict p s.unmatched else s.unmatched)).counter .matchNone =
          satBump (s.counter .matchNone) := by
  have counted : s.unmatched.counter .matchNone = satBump (s.counter .matchNone) := counter_bump_self hs
  cases hold
  · refine ⟨by simp [State.unmatched], by simp [State.unmatched], ?_⟩
    rw [counter_of_ctl (endDrain_ctl _)]
    exact counted
  · refine ⟨by simp [State.unmatched], by simp [State.unmatched], ?_⟩
    rw [counter_of_ctl (endDrain_ctl _)]
    exact (counter_of_ctl (holdVerdict_ctl ..)).trans counted

/-- Settles O41: `firstMatch` is the lowest entry that matches, and no verdict touches the table or MATCH_NONE. -/
theorem lowestMatchDecides : Obligations.LowestMatchDecides := by
  intro s p hits sizes hp hhits
  obtain ⟨-, -, -, -, -, -, -, -, counters⟩ := sizes
  have hits_iff : ∀ e, hits e ↔ entryMatches p.fv e = true := fun e => (hhits e).trans entryMatches_iff.symm
  refine ⟨exec_classifyFrame_of_busy hp, fun hf => ?_⟩
  cases hm : firstMatch s.matchTable p.fv with
  | none =>
    have nothing : ∀ e ∈ s.matchTable, ¬hits e := fun e he => by
      simpa [hits_iff] using List.findIdx?_eq_none_iff.1 hm e he
    obtain ⟨taken, table, counted⟩ := unmatched_keeps s.ctl.cfg.defaultHold p s counters
    exact ⟨_, exec_classifyFrame_of_none hp hf hm, taken,
      fun k e he hit => absurd hit (nothing e (List.mem_of_getElem? he)), fun _ => ⟨table, counted⟩⟩
  | some k =>
    obtain ⟨hk, hmatch, -⟩ := List.findIdx?_eq_some_iff_getElem.1 hm
    have he : s.matchTable[k]? = some s.matchTable[k] := List.getElem?_eq_getElem hk
    obtain ⟨taken, table, kept⟩ := decides_keeps k s.matchTable[k] p s
    refine ⟨_, exec_classifyFrame_of_decides ⟨hp, hf, hm, he⟩, taken, fun j e hj hit lowest => ⟨?_, kept⟩,
      fun nothing => absurd ((hits_iff _).2 hmatch) (nothing _ (List.getElem_mem hk))⟩
    have decided : firstMatch s.matchTable p.fv = some j :=
      firstMatch_eq_some hj ((hits_iff e).1 hit) fun i hi e' he' => mt (hits_iff e').2 (lowest i hi e' he')
    obtain rfl : k = j := Option.some.inj (hm.symm.trans decided)
    rw [table, modify_eq_set hj]

end verdicts
end Sys2Proof.Machine

namespace Sys2Proof.Machine

/-! ### The verdicts that need no responder (O42) -/

section disposals
variable {s : State} {p : ParsedFrame} {k : Nat} {e : MatchEntry}

/-- A frame handed to the hold queue and not yet appended is pending, and so DRAIN does not end (R11, R12). -/
theorem endDrain_handToHold {o : Origin} (ho : o ≠ .drained) (f : HeldFrame) (s : State) :
    endDrain (handToHold o f s) = handToHold o f s := by
  have pending : guardPending (handToHold o f s) = true := by simp [guardPending, handToHold, ho]
  simp [endDrain, pending]

/-- A guard-path frame's HOLD verdict (R48). -/
theorem holdVerdict_of_guardPath (hp : p.path = .guardPath) (s : State) :
    holdVerdict p s = handToHold (if s.modeCtl.mode = .guard then .held else .follower) p.held s :=
  if_neg (by simp [hp])

theorem endDrain_holdVerdict (hp : p.path = .guardPath) (s : State) :
    endDrain (holdVerdict p s) =
      handToHold (if s.modeCtl.mode = .guard then .held else .follower) p.held s := by
  rw [holdVerdict_of_guardPath hp]
  exact endDrain_handToHold (by split <;> decide) _ _

/-- A guard-path frame's WAKE in guard is a request (R49, R52). -/
theorem wakeVerdict_of_inGuard {cause : WakeCause} {entry cls : Nat} (hp : p.path = .guardPath)
    (hg : inGuard s = true) :
    wakeVerdict cause entry cls p s = s.requested ⟨cls, cause, entry, some p.held, false⟩ := by
  rw [wakeVerdict, if_neg (by simp [hp]), if_pos hg]
  rfl

/-- A guard-path frame's WAKE after LEAVE_GUARD is an append (R11). -/
theorem wakeVerdict_of_outside {cause : WakeCause} {entry cls : Nat} (hp : p.path = .guardPath)
    (hg : inGuard s = false) : wakeVerdict cause entry cls p s = handToHold .follower p.held s := by
  rw [wakeVerdict, if_neg (by simp [hp]), if_neg (by simp [hg])]

/-- A fallback in GUARD or WAKING disposes of a guard-path frame (R52). -/
theorem applyFallback_of_inGuard (hp : p.path = .guardPath) (hg : inGuard s = true) :
    applyFallback k e p s = s.disposed k e p := by
  cases hf : e.fallback with
  | drop => simp only [applyFallback, State.disposed, hf]
  | hold =>
    simp only [applyFallback, State.disposed, hf, holdVerdict_of_guardPath hp]
    rfl
  | wake =>
    simp only [applyFallback, State.disposed, hf, wakeVerdict_of_inGuard hp hg]
    rfl

/-- A fallback in DRAIN other than DROP appends a guard-path frame as FOLLOWER (R11, R48, R52). -/
theorem applyFallback_of_drain (hp : p.path = .guardPath) (hm : s.modeCtl.mode = .drain)
    (hf : e.fallback ≠ .drop) : applyFallback k e p s = handToHold .follower p.held s := by
  cases hfb : e.fallback with
  | drop => exact absurd hfb hf
  | hold => simp only [applyFallback, hfb, holdVerdict_of_guardPath hp, hm, reduceCtorEq, if_false]
  | wake => simp only [applyFallback, hfb, wakeVerdict_of_outside hp (by simp [inGuard, hm] : inGuard s = false)]

/-- Each responder declines a frame whose PSTATUS is not OK (R66, R79, R89, R111). -/
theorem carryOut_of_badStatus (ha : e.action ∈ [.answerAddress, .answerEcho, .answerName, .answerSession])
    (hs : p.fv.pstatus ≠ .ok) : carryOut k e p s = applyFallback k e p s := by
  have address : judgeAddress p s = .decline s := by simp [judgeAddress, addressKind, hs]
  have echo : judgeEcho p s = .decline s := by simp [judgeEcho, isEchoRequest, hs]
  have name : judgeName p s = .decline s := by simp [judgeName, hs]
  have session : judgeSession p s = .decline s := by simp [judgeSession, hs]
  simp only [List.mem_cons, List.not_mem_nil, or_false] at ha
  rcases ha with h | h | h | h
  · simp only [carryOut, h, address]; rfl
  · simp only [carryOut, h, echo]; rfl
  · simp only [carryOut, h, name]; rfl
  · simp only [carryOut, h, session]; rfl

/-- In guard the end of DRAIN changes nothing after a verdict, which leaves the mode. -/
theorem endDrain_carryOut_of_inGuard (hg : inGuard s = true) :
    endDrain (carryOut k e p s) = carryOut k e p s := by
  refine endDrain_of_not_drain ?_
  rw [carryOut_modeCtl]
  rcases inGuard_eq_true_iff.1 hg with hm | hm <;> simp [hm]

/-- A hit leaves the mode. -/
@[simp] theorem State.hit_modeCtl (s : State) (k : Nat) : (s.hit k).modeCtl = s.modeCtl := rfl

/-- Settles O42: each clause is the verdict's equation, and a pending append keeps DRAIN from ending. -/
theorem verdictsAreCarriedOut : Obligations.VerdictsAreCarriedOut := by
  intro s p hp
  constructor
  · intro k e hd
    have step := exec_classifyFrame_of_decides hd
    have inside : s.modeCtl.mode = .guard ∨ s.modeCtl.mode = .waking → inGuard (s.hit k) = true :=
      inGuard_eq_true_iff.2
    have waking : e.action = .wake →
        carryOut k e p (s.hit k) = wakeVerdict .frameMatch k e.cls p (s.hit k) := fun ha => by
      simp only [carryOut, ha]
    refine ⟨fun ha hm => ?_, fun ha => ?_, fun ha hm => ?_, fun ha hm => ?_,
      fun ha hs => ⟨fun hm => ?_, fun hm hf => ?_⟩⟩
    · have dropped : carryOut k e p (s.hit k) = s.hit k := by simp only [carryOut, ha]
      rw [step, dropped, endDrain_of_not_drain (by simpa using hm)]
    · have held : carryOut k e p (s.hit k) = holdVerdict p (s.hit k) := by simp only [carryOut, ha]
      rw [step, held, endDrain_holdVerdict hp]
      rfl
    · rw [step, endDrain_carryOut_of_inGuard (inside hm), waking ha, wakeVerdict_of_inGuard hp (inside hm)]
      rfl
    · have outside : inGuard (s.hit k) = false := by simp [inGuard, hm]
      rw [step, waking ha, wakeVerdict_of_outside hp outside, endDrain_handToHold (by decide)]
      rfl
    · rw [step, endDrain_carryOut_of_inGuard (inside hm), carryOut_of_badStatus ha hs,
        applyFallback_of_inGuard hp (inside hm)]
    · rw [step, carryOut_of_badStatus ha hs, applyFallback_of_drain hp (by simpa using hm) hf,
        endDrain_handToHold (by decide)]
      rfl
  · intro hparsed hfree hnone
    have step := exec_classifyFrame_of_none hparsed hfree hnone
    refine ⟨fun hdef hm => ?_, fun hdef => ?_⟩
    · have kept : s.unmatched.modeCtl.mode ≠ .drain := hm
      rw [step, if_neg (by simp [hdef]), endDrain_of_not_drain kept]
      rfl
    · rw [step, if_pos hdef, endDrain_holdVerdict hp]
      rfl

end disposals
end Sys2Proof.Machine

namespace Sys2Proof.Machine

/-! ### The ranges of the fields and the order of the header positions (O40) -/

section ranges
variable {k : ParseContext} {b : Frame} {v : FieldVector} {l3 l4 pay stop len : Nat}

theorem byteAt_lt (b : Frame) (i : Nat) : byteAt b i < 256 := (b.getD i 0).isLt

theorem beNat_lt (b : Frame) (i n : Nat) : beNat b i n < 256 ^ n := by
  induction n generalizing i with
  | zero => simp [beNat]
  | succ n ih =>
    have high := Nat.mul_le_mul_right (256 ^ n) (Nat.le_of_lt_succ (byteAt_lt b i))
    have low := ih (i + 1)
    rw [beNat, Nat.pow_succ]
    omega

/-- Each field that the parser reads as a number is in its width (2.3, R42). -/
structure FieldVector.Fits (v : FieldVector) : Prop where
  etype : v.etype < 2 ^ 16
  dstid : v.dstid < 2 ^ 4
  proto : v.proto < 2 ^ 8
  sport : v.sport < 2 ^ 16
  dport : v.dport < 2 ^ 16
  tcpflags : v.tcpflags < 2 ^ 8
  icmptype : v.icmptype < 2 ^ 8
  arpop : v.arpop < 2 ^ 16
  session : v.session < 2 ^ 4
  l4len : v.l4len < 2 ^ 16
  lead : v.lead < 2 ^ 32
  src4 : v.src4 < 2 ^ 32

/-- The codes of the enumerations are in their widths as well, so every field is. -/
theorem FieldVector.Fits.get_lt (h : v.Fits) {id : Nat} (hid : id ≤ 15) : v.get id < 2 ^ fieldWidth id := by
  have dclass : v.dclass.code < 2 ^ 3 := by cases v.dclass <;> decide
  have l3kind : v.l3kind.code < 2 ^ 3 := by cases v.l3kind <;> decide
  have frag : v.frag.code < 2 ^ 2 := by cases v.frag <;> decide
  have pstatus : v.pstatus.code < 2 ^ 3 := by cases v.pstatus <;> decide
  match id, hid with
  | 0, _ => exact dclass
  | 1, _ => exact h.etype
  | 2, _ => exact l3kind
  | 3, _ => exact h.dstid
  | 4, _ => exact h.proto
  | 5, _ => exact h.sport
  | 6, _ => exact h.dport
  | 7, _ => exact h.tcpflags
  | 8, _ => exact h.icmptype
  | 9, _ => exact h.arpop
  | 10, _ => exact h.session
  | 11, _ => exact h.l4len
  | 12, _ => exact h.lead
  | 13, _ => exact frag
  | 14, _ => exact pstatus
  | 15, _ => exact h.src4

/-- What O40 says of a parsed frame. -/
structure Parsed.Sound (b : Frame) (q : Parsed) : Prop where
  fits : q.fv.Fits
  placed : 18 ≤ b.length →
    q.pos.l3 ≤ q.pos.l4 ∧ q.pos.l4 ≤ q.pos.pay ∧ q.pos.pay + q.fv.l4len ≤ b.length

/-- A parse that stops at an offset within the frame, before any payload is counted. -/
theorem sound_of_stopped (h : v.Fits) (hz : v.l4len = 0) (h34 : l3 ≤ l4)
    (hl : 18 ≤ b.length → l4 ≤ b.length) : Parsed.Sound b ⟨v, ⟨l3, l4, l4⟩⟩ :=
  ⟨h, fun hb => ⟨h34, Nat.le_refl _, by simpa [hz] using hl hb⟩⟩

/-- A payload that lies in the frame (R37). -/
theorem fits_withPayload (h : v.Fits) (hlen : len < 2 ^ 16) : (withPayload b pay len v).Fits :=
  { h with
    l4len := hlen
    lead := beNat_lt _ 0 4 }

theorem sound_of_payload {w : FieldVector} (h : w.Fits) (hw : w.l4len = len) (h34 : l3 ≤ l4) (h4p : l4 ≤ pay)
    (hl : pay + len ≤ b.length) : Parsed.Sound b ⟨w, ⟨l3, l4, pay⟩⟩ :=
  ⟨h, fun _ => ⟨h34, h4p, hw ▸ hl⟩⟩

/-! #### The indices that the tables give (R38, R39) -/

theorem findIdx?_getD_lt {α : Type} (l : List α) (q : α → Bool) (hl : l.length ≤ 12) :
    (l.findIdx? q).getD 15 < 2 ^ 4 := by
  cases h : l.findIdx? q with
  | none => decide
  | some i =>
    obtain ⟨hi, -⟩ := List.findIdx?_eq_some_iff_getElem.1 h
    simp only [Option.getD_some]
    omega

theorem targetIdOf_lt {ids : List Identity} (h : ids.length = 12) (a : Addr) : targetIdOf ids a < 2 ^ 4 :=
  findIdx?_getD_lt _ _ (Nat.le_of_eq h)

theorem dstidOf_lt {ids : List Identity} (h : ids.length = 12) (a : Addr) : dstidOf ids a < 2 ^ 4 := by
  have target := targetIdOf_lt h a
  unfold targetIdOf at target
  unfold dstidOf
  cases hid : identityOf ids a with
  | none => dsimp only; split <;> decide
  | some i => simpa [hid] using target

theorem sessionOf_lt (h : k.sessions.length = 8) (v : FieldVector) (src : Addr) :
    sessionOf k v src < 2 ^ 4 := findIdx?_getD_lt _ _ (by omega)

/-! #### The layers, from the inside out -/

/-- A transport header with room up to the end of the payload, which lies in the frame (R37). -/
theorem sound_parseTransport (hi : k.identities.length = 12) (hs : k.sessions.length = 8) (h : v.Fits)
    (hz : v.l4len = 0) (h34 : l3 ≤ l4) (h4 : l4 ≤ stop) (hstop : stop ≤ b.length) (hlen : stop - l4 < 2 ^ 16) :
    Parsed.Sound b (parseTransport k b l3 l4 stop v) := by
  have stopped : ∀ w : FieldVector, w.Fits → w.l4len = 0 → Parsed.Sound b ⟨w, ⟨l3, l4, l4⟩⟩ :=
    fun w hw hwz => sound_of_stopped hw hwz h34 fun _ => Nat.le_trans h4 hstop
  have ports : FieldVector.Fits { v with sport := beNat b l4 2, dport := beNat b (l4 + 2) 2 } :=
    { h with sport := beNat_lt _ _ 2, dport := beNat_lt _ _ 2 }
  unfold parseTransport
  extract_lets avail v1 header v2 v3 udp v4 v5
  have havail : avail = stop - l4 := rfl
  split
  · split
    · exact stopped _ { h with } hz
    · have flags : v1.Fits := { ports with tcpflags := byteAt_lt _ _ }
      split
      · exact stopped _ { flags with } hz
      · refine sound_of_payload (len := avail - header) ?_ rfl h34 (by omega) (by omega)
        exact { fits_withPayload (len := avail - header) flags (by omega) with session := sessionOf_lt hs _ _ }
  split
  · split
    · exact stopped _ { h with } hz
    split
    · split
      · exact stopped _ { ports with } hz
      · exact sound_of_payload (len := udp - 8) (fits_withPayload ports (by omega)) rfl h34 (by omega) (by omega)
    · exact sound_of_payload (len := avail - 8) (fits_withPayload ports (by omega)) rfl h34 (by omega) (by omega)
  split
  · split
    · exact stopped _ { h with } hz
    · have typed : v4.Fits := fits_withPayload { h with icmptype := byteAt_lt _ _ } (by omega)
      have targeted : v5.Fits ∧ v5.l4len = avail - 8 := by
        unfold v5
        split
        · exact ⟨{ typed with dstid := targetIdOf_lt hi _ }, rfl⟩
        · exact ⟨typed, rfl⟩
      obtain ⟨fits, counted⟩ := targeted
      exact sound_of_payload fits counted h34 (by omega) (by omega)
  · exact sound_of_payload (len := avail) (fits_withPayload h hlen) rfl h34 (Nat.le_refl _) (by omega)

/-- An ARP body (R34). -/
theorem sound_parseArp (hi : k.identities.length = 12) (h : v.Fits) (hz : v.l4len = 0)
    (hl3 : 18 ≤ b.length → l3 ≤ b.length) : Parsed.Sound b (parseArp k b l3 v) := by
  have op : FieldVector.Fits { v with arpop := beNat b (l3 + 6) 2 } := { h with arpop := beNat_lt _ _ 2 }
  unfold parseArp
  dsimp only
  split
  · exact sound_of_stopped { op with dstid := targetIdOf_lt hi _ } hz (Nat.le_refl _) hl3
  · exact sound_of_stopped { op with } hz (Nat.le_refl _) hl3

/-- An IPv4 header, whose total length lies in the frame where it is used (R35). -/
theorem sound_parseIpv4 (hi : k.identities.length = 12) (hs : k.sessions.length = 8) (h : v.Fits)
    (hz : v.l4len = 0) (hl3 : 18 ≤ b.length → l3 ≤ b.length) : Parsed.Sound b (parseIpv4 k b l3 v) := by
  have stopped : ∀ w : FieldVector, w.Fits → w.l4len = 0 → Parsed.Sound b ⟨w, ⟨l3, l3, l3⟩⟩ :=
    fun w hw hwz => sound_of_stopped hw hwz (Nat.le_refl _) hl3
  have total := beNat_lt b (l3 + 2) 2
  unfold parseIpv4
  dsimp only
  split
  · exact stopped _ { h with } hz
  split
  · exact stopped _ { h with } hz
  split
  · exact stopped _ { h with } hz
  have header : FieldVector.Fits
      { v with
        src4 := beNat b (l3 + 12) 4
        proto := byteAt b (l3 + 9)
        dstid := dstidOf k.identities (.v4 (v4At b (l3 + 16)))
        frag := fragOf (beNat b (l3 + 6) 2 % 8192) ((beNat b (l3 + 6) 2).testBit 13) } :=
    { h with
      src4 := beNat_lt _ _ 4
      proto := byteAt_lt _ _
      dstid := dstidOf_lt hi _ }
  split
  · exact stopped _ { header with } hz
  · exact sound_parseTransport hi hs header hz (by omega) (by omega) (by omega) (by omega)

/-- The walk of the extension headers never passes the end of the payload (R36). -/
theorem sound_walkExtensions (hi : k.identities.length = 12) (hs : k.sessions.length = 8) {more nh off : Nat}
    (h : v.Fits) (hz : v.l4len = 0) (hnh : nh < 2 ^ 8) (h3 : l3 ≤ off) (hoff : off ≤ stop)
    (hstop : stop ≤ b.length) (hlen : stop - off < 2 ^ 16) :
    Parsed.Sound b (walkExtensions k b l3 stop more nh off v) := by
  have named : ∀ {w : FieldVector} {n : Nat}, w.Fits → n < 2 ^ 8 → FieldVector.Fits { w with proto := n } :=
    fun hw hn => { hw with proto := hn }
  induction more generalizing nh off v with
  | zero =>
    unfold walkExtensions
    split
    · exact sound_of_stopped { named h hnh with } hz h3 fun _ => Nat.le_trans hoff hstop
    · exact sound_parseTransport hi hs (named h hnh) hz h3 hoff hstop hlen
  | succ more ih =>
    have next := byteAt_lt b off
    unfold walkExtensions
    split
    · extract_lets len field w
      split
      · exact sound_of_stopped { h with } hz h3 fun _ => Nat.le_trans hoff hstop
      split
      · split
        · exact sound_parseTransport hi hs (named { h with } next) hz (by omega) (by omega) hstop (by omega)
        · exact ih { h with } hz next (by omega) (by omega) (by omega)
      · exact ih h hz next (by omega) (by omega) (by omega)
    · exact sound_parseTransport hi hs (named h hnh) hz h3 hoff hstop hlen

/-- An IPv6 header, whose payload lies in the frame where it is used (R36). -/
theorem sound_parseIpv6 (hi : k.identities.length = 12) (hs : k.sessions.length = 8) (h : v.Fits)
    (hz : v.l4len = 0) (hl3 : 18 ≤ b.length → l3 ≤ b.length) : Parsed.Sound b (parseIpv6 k b l3 v) := by
  have payload := beNat_lt b (l3 + 4) 2
  unfold parseIpv6
  dsimp only
  split
  · exact sound_of_stopped { h with } hz (Nat.le_refl _) hl3
  split
  · exact sound_of_stopped { h with } hz (Nat.le_refl _) hl3
  · exact sound_walkExtensions hi hs { h with dstid := dstidOf_lt hi _ } hz (byteAt_lt _ _) (by omega) (by omega)
      (by omega) (by omega)

theorem etherType_lt (b : Frame) : etherType b < 2 ^ 16 := by
  unfold etherType
  split <;> exact beNat_lt _ _ 2

theorem l3Offset_le (b : Frame) : l3Offset b ≤ 18 := by
  unfold l3Offset
  split <;> omega

theorem fits_blank : FieldVector.blank.Fits := by constructor <;> decide

/-- Every frame, whichever layer its parse stops at. -/
theorem sound_parseFrame (hi : k.identities.length = 12) (hs : k.sessions.length = 8) (b : Frame) :
    Parsed.Sound b (parseFrame k b) := by
  have hl3 : 18 ≤ b.length → l3Offset b ≤ b.length := Nat.le_trans (l3Offset_le b)
  have header : FieldVector.Fits
      { FieldVector.blank with
        dclass := classOfMac k (macAt b 0)
        etype := etherType b
        l3kind := kindOfType (etherType b) } := { fits_blank with etype := etherType_lt b }
  unfold parseFrame
  dsimp only
  split
  · exact sound_parseArp hi header rfl hl3
  · exact sound_parseIpv4 hi hs header rfl hl3
  · exact sound_parseIpv6 hi hs header rfl hl3
  · exact sound_of_stopped header rfl (Nat.le_refl _) hl3
  · split
    · exact sound_of_stopped { header with } rfl (Nat.le_refl _) hl3
    · exact sound_of_stopped header rfl (Nat.le_refl _) hl3

/-- Settles O40, layer by layer. -/
theorem fieldsAreInRange : Obligations.FieldsAreInRange := by
  rintro s b q hi hs rfl
  have sound : Parsed.Sound b (parseFrame (s.parseContext true) b) := sound_parseFrame hi hs b
  exact ⟨fun _ hid => sound.fits.get_lt hid, sound.placed⟩

end ranges
end Sys2Proof.Machine

namespace Sys2Proof.Machine

/-! ### Fields of a body read back (O18) -/

section bodies
variable {b c : Frame} {i m n x : Nat}

/-! #### Numbers in a run of bytes -/

@[simp] theorem length_toBytes (k n : Nat) : (toBytes k n).length = k := by
  induction k with
  | zero => rfl
  | succ k ih => simp [toBytes, ih]

theorem byteAt_eq_beNat (b : Frame) (i : Nat) : byteAt b i = beNat b i 1 := by simp [beNat]

/-- A byte past a run of bytes is read in what follows it. -/
theorem byteAt_append_of_le (h : b.length ≤ i) : byteAt (b ++ c) i = byteAt c (i - b.length) := by
  rw [byteAt, byteAt, List.getD_eq_getElem?_getD, List.getD_eq_getElem?_getD, List.getElem?_append_right h]

/-- A field past a run of bytes is read in what follows it. -/
theorem beNat_append_of_le (h : b.length ≤ i) : beNat (b ++ c) i n = beNat c (i - b.length) n := by
  induction n generalizing i with
  | zero => rfl
  | succ n ih => rw [beNat, beNat, byteAt_append_of_le h, ih (by omega), Nat.sub_add_comm h]

theorem beNat_toBytes_after (h : m ≤ i) : beNat (toBytes m x ++ c) i n = beNat c (i - m) n := by
  rw [beNat_append_of_le (by simpa using h), length_toBytes]

/-- The field that stands first is its number, reduced to its bytes. -/
theorem beNat_toBytes_first (n x : Nat) (c : Frame) : beNat (toBytes n x ++ c) 0 n = x % 256 ^ n := by
  induction n generalizing x with
  | zero => simp [beNat, Nat.mod_one]
  | succ n ih =>
    have high : byteAt (toBytes (n + 1) x ++ c) 0 = x / 256 ^ n % 256 := by
      simp [toBytes, byteAt]
    have low : beNat (toBytes (n + 1) x ++ c) 1 n = x % 256 ^ n := by
      have shifted := beNat_append_of_le (b := [BitVec.ofNat 8 (x / 256 ^ n)]) (c := toBytes n x ++ c)
        (i := 1) (n := n) (Nat.le_refl _)
      exact shifted.trans (ih x)
    rw [beNat, high, low, Nat.pow_succ, Nat.mod_mul, Nat.mul_comm, Nat.add_comm]

theorem byteAt_toBytes_after (h : m ≤ i) : byteAt (toBytes m x ++ c) i = byteAt c (i - m) := by
  rw [byteAt_eq_beNat, byteAt_eq_beNat, beNat_toBytes_after h]

/-- A byte that stands first. -/
theorem byteAt_toBytes_first (h : x < 256) (c : Frame) : byteAt (toBytes 1 x ++ c) 0 = x := by
  rw [byteAt_eq_beNat, beNat_toBytes_first, Nat.mod_eq_of_lt (by omega)]

/-- A 32-bit word that stands first. -/
theorem v4At_toBytes_first (w : BitVec 32) (c : Frame) : v4At (toBytes 4 w.toNat ++ c) 0 = w := by
  rw [v4At, beNat_toBytes_first, Nat.mod_eq_of_lt (by omega), BitVec.ofNat_toNat, BitVec.setWidth_eq]

theorem v4At_toBytes_after {i : Nat} (h : m ≤ i) : v4At (toBytes m x ++ c) i = v4At c (i - m) := by
  rw [v4At, v4At, beNat_toBytes_after h]

/-! #### Codes -/

theorem boolCode_lt (q : Bool) : boolCode q < 256 := by cases q <;> decide

@[simp] theorem yesNo_boolCode (q : Bool) : yesNo (boolCode q) = some q := by cases q <;> rfl

theorem action_code_lt (a : Action) : a.code < 256 := by cases a <;> decide

@[simp] theorem action_ofCode_code (a : Action) : Action.ofCode a.code = some a := by cases a <;> rfl

theorem disposal_code_lt (d : Disposal) : d.code < 256 := by cases d <;> decide

@[simp] theorem disposal_ofCode_code (d : Disposal) : Disposal.ofCode d.code = some d := by cases d <;> rfl

theorem timerMode_code_lt (t : TimerMode) : t.code < 256 := by cases t <;> decide

@[simp] theorem timerMode_ofCode_code (t : TimerMode) : TimerMode.ofCode t.code = some t := by cases t <;> rfl

theorem familyCode_lt (a : Addr) : familyCode a < 256 := by cases a <;> simp [familyCode]

/-! #### Match entries (R54, R56) -/

@[simp] theorem length_termBytes (o : Option Term) : (termBytes o).length = 10 := by
  cases o <;> simp [termBytes]

/-- A term position reads back what was written at it. -/
theorem termAt_termBytes {pre post : Frame} {o : Option Term} {t : Nat} (hpre : pre.length = 5 + 10 * t)
    (ho : ∀ x, o = some x → x.admitted = true) : termAt (pre ++ (termBytes o ++ post)) t = some o := by
  have byte : ∀ j, byteAt (pre ++ (termBytes o ++ post)) (5 + j + 10 * t) = byteAt (termBytes o ++ post) j :=
    fun j => by rw [byteAt_append_of_le (by omega)]; congr 1; omega
  have word : ∀ j, v4At (pre ++ (termBytes o ++ post)) (5 + j + 10 * t) = v4At (termBytes o ++ post) j :=
    fun j => by rw [v4At, v4At, beNat_append_of_le (by omega)]; congr 2; omega
  cases o with
  | none =>
    have absent : byteAt (pre ++ (termBytes none ++ post)) (5 + 10 * t) = 0 := byte 0
    simp only [termAt, absent, yesNo]
  | some x =>
    have admitted := ho x rfl
    have hfield : x.field < 256 := by
      simp only [Term.admitted, Bool.and_eq_true, decide_eq_true_eq] at admitted
      omega
    have parts : termBytes (some x) ++ post =
        toBytes 1 1 ++ (toBytes 1 x.field ++ (toBytes 4 x.value.toNat ++ (toBytes 4 x.mask.toNat ++ post))) := by
      simp only [termBytes, List.append_assoc]
    rw [parts] at byte word ⊢
    have present := (byte 0).trans (byteAt_toBytes_first (by decide) _)
    have field := (byte 1).trans ((byteAt_toBytes_after (Nat.le_refl _)).trans (byteAt_toBytes_first hfield _))
    have value := (word 2).trans
      ((v4At_toBytes_after (by decide)).trans ((v4At_toBytes_after (Nat.le_refl _)).trans (v4At_toBytes_first _ _)))
    have mask := (word 6).trans
      ((v4At_toBytes_after (by decide)).trans ((v4At_toBytes_after (by decide)).trans
        ((v4At_toBytes_after (Nat.le_refl _)).trans (v4At_toBytes_first _ _))))
    simp only [Nat.reduceAdd] at present field value mask
    simp only [termAt, present, field, value, mask, yesNo, admitted, if_true]

theorem length_flatten_map_termBytes (l : List (Option Term)) : (l.map termBytes).flatten.length = 10 * l.length := by
  induction l with
  | nil => rfl
  | cons o l ih =>
    simp only [List.map_cons, List.flatten_cons, List.length_append, length_termBytes, ih, List.length_cons]
    omega

/-- The term positions of a match body stand behind its five header bytes, ten bytes each. -/
theorem termAt_matchBody {e : MatchEntry} {t : Nat} {o : Option Term} (index : Nat) (ho : e.terms[t]? = some o)
    (ha : ∀ x, some x ∈ e.terms → x.admitted = true) : termAt (matchBody index e) t = some o := by
  obtain ⟨ht, rfl⟩ := List.getElem?_eq_some_iff.1 ho
  have parts : matchBody index e =
      (toBytes 1 index ++ toBytes 1 (boolCode e.valid) ++ toBytes 1 e.action.code ++ toBytes 1 e.cls
          ++ toBytes 1 e.fallback.code ++ ((e.terms.take t).map termBytes).flatten)
        ++ (termBytes e.terms[t] ++ ((e.terms.drop (t + 1)).map termBytes).flatten) := by
    have split : e.terms = e.terms.take t ++ e.terms[t] :: e.terms.drop (t + 1) := by simp
    rw [matchBody]
    conv =>
      lhs
      rw [split]
    simp only [List.map_append, List.map_cons, List.flatten_append, List.flatten_cons, List.append_assoc]
  rw [parts]
  refine termAt_termBytes ?_ fun x hx => ha x (hx ▸ List.getElem_mem ht)
  simp only [List.length_append, length_toBytes, length_flatten_map_termBytes, List.length_take]
  omega

theorem decodeMatch_matchBody {e : MatchEntry} (index : Nat) (hl : e.terms.length = 4)
    (ha : ∀ x, some x ∈ e.terms → x.admitted = true) (hc : e.cls ≤ 7) :
    decodeMatch (matchBody index e) = some { e with hits := 0 } := by
  have term : ∀ (t : Nat) (ht : t < e.terms.length), termAt (matchBody index e) t = some e.terms[t] :=
    fun t ht => termAt_matchBody index (List.getElem?_eq_getElem ht) ha
  have terms : [e.terms[0], e.terms[1], e.terms[2], e.terms[3]] = e.terms :=
    List.ext_getElem (by simp [hl]) fun j hj _ => by
      have : j < 4 := hj
      match j, this with
      | 0, _ | 1, _ | 2, _ | 3, _ => rfl
  have cls : e.cls < 256 := by omega
  have header : byteAt (matchBody index e) 1 = boolCode e.valid ∧ byteAt (matchBody index e) 2 = e.action.code
      ∧ byteAt (matchBody index e) 3 = e.cls ∧ byteAt (matchBody index e) 4 = e.fallback.code := by
    simp [matchBody, byteAt_toBytes_after, byteAt_toBytes_first, boolCode_lt, action_code_lt, disposal_code_lt, cls]
  obtain ⟨hvalid, haction, hcls, hfallback⟩ := header
  simp only [decodeMatch, hvalid, haction, hcls, hfallback, term 0 (by omega), term 1 (by omega),
    term 2 (by omega), term 3 (by omega), yesNo_boolCode, action_ofCode_code,
    disposal_ofCode_code, Option.bind_eq_bind, Option.bind_some, hc, if_true, terms]

/-! #### Identities and alarms (R62, R64, R151) -/

@[simp] theorem length_addrFieldBytes (a : Addr) : (addrFieldBytes a).length = 16 := by
  cases a <;> simp [addrFieldBytes, addrBytes, padTo]

/-- An address field reads back under its family's code. -/
theorem addrField_addrFieldBytes {a : Addr} {family off : Nat} {post : Frame} (hf : byteAt b family = familyCode a)
    (hb : ∀ n, beNat b off n = beNat (addrFieldBytes a ++ post) 0 n) : addrField b family off = some a := by
  cases a with
  | v4 w =>
    have word : v4At b off = w := by
      rw [v4At, hb, addrFieldBytes, padTo, List.append_assoc]
      exact v4At_toBytes_first w _
    simp only [addrField, hf, familyCode, word]
  | v6 w =>
    have word : v6At b off = w := by
      rw [v6At, hb, addrFieldBytes, padTo, List.append_assoc, addrBytes, beNat_toBytes_first,
        Nat.mod_eq_of_lt (by omega), BitVec.ofNat_toNat, BitVec.setWidth_eq]
    simp only [addrField, hf, familyCode, word]

/-- The three flags of an identity in one byte (11.6). -/
theorem flags_testBit (r q d : Bool) :
    (boolCode r + 2 * boolCode q + 4 * boolCode d).testBit 0 = r
      ∧ (boolCode r + 2 * boolCode q + 4 * boolCode d).testBit 1 = q
      ∧ (boolCode r + 2 * boolCode q + 4 * boolCode d).testBit 2 = d
      ∧ boolCode r + 2 * boolCode q + 4 * boolCode d < 8 := by
  revert r q d
  decide

theorem decodeIdentity_identityBody {y : Identity} (index : Nat) (ha : isHostAddr y.addr = true) (hc : y.cls ≤ 7) :
    decodeIdentity (identityBody index y) = some { y with state := .ready, conflicts := 0 } := by
  obtain ⟨resolution, echo, defends, flags⟩ := flags_testBit y.answerResolution y.answerEcho y.defend
  have flagsByte := Nat.lt_trans flags (show 8 < 256 by decide)
  have cls : y.cls < 256 := by omega
  have header : byteAt (identityBody index y) 1 = boolCode y.valid
      ∧ byteAt (identityBody index y) 2 = familyCode y.addr
      ∧ byteAt (identityBody index y) 3 =
          boolCode y.answerResolution + 2 * boolCode y.answerEcho + 4 * boolCode y.defend
      ∧ byteAt (identityBody index y) 4 = y.cls := by
    simp [identityBody, byteAt_toBytes_after, byteAt_toBytes_first, boolCode_lt, familyCode_lt, flagsByte, cls]
  obtain ⟨hvalid, hfamily, hflags, hcls⟩ := header
  have addr : addrField (identityBody index y) 2 5 = some y.addr :=
    addrField_addrFieldBytes (post := []) hfamily fun n => by
      simp [identityBody, beNat_toBytes_after]
  simp only [decodeIdentity, hvalid, addr, hflags, hcls, yesNo_boolCode, resolution, echo, defends, flags, hc, ha,
    Option.bind_eq_bind, Option.bind_some, and_self, if_true]

theorem clamp_of_mem {lo hi : Nat} (h : lo ≤ n ∧ n ≤ hi) : clamp lo hi n = n := by
  rw [clamp, Nat.min_eq_right h.2, Nat.max_eq_right h.1]

theorem decodeAlarm_alarmBody {a : Alarm} (index : Nat) (hc : 1 ≤ a.cls ∧ a.cls ≤ 7)
    (hn : 1 ≤ a.count ∧ a.count ≤ 16777215) :
    decodeAlarm (alarmBody index a) = some { a with state := .idle } := by
  have cls : a.cls < 256 := by omega
  have header : byteAt (alarmBody index a) 1 = boolCode a.valid ∧ byteAt (alarmBody index a) 2 = a.mode.code
      ∧ byteAt (alarmBody index a) 3 = a.cls := by
    simp [alarmBody, byteAt_toBytes_after, byteAt_toBytes_first, boolCode_lt, timerMode_code_lt, cls]
  obtain ⟨hvalid, hmode, hcls⟩ := header
  have count : beNat (alarmBody index a) 4 4 = a.count := by
    have first := beNat_toBytes_first 4 a.count []
    rw [List.append_nil, Nat.mod_eq_of_lt (by omega)] at first
    simp [alarmBody, beNat_toBytes_after, first]
  simp only [decodeAlarm, hvalid, hmode, hcls, count, yesNo_boolCode, timerMode_ofCode_code, clamp_of_mem hn,
    Option.bind_eq_bind, Option.bind_some, hc, and_self, if_true]

/-- Settles O18: every field of a body reads back, code by code and byte by byte. -/
theorem entryBodiesReadBack : Obligations.EntryBodiesReadBack := by
  refine ⟨fun i e hl ha hc => ⟨?_, decodeMatch_matchBody i hl ha hc⟩,
    fun i y ha hc => ⟨?_, decodeIdentity_identityBody i ha hc⟩,
    fun i a hc hn => ⟨?_, decodeAlarm_alarmBody i hc hn⟩⟩
  · simp only [matchBody, List.length_append, length_toBytes, length_flatten_map_termBytes, hl]
  · simp only [identityBody, List.length_append, length_toBytes, length_addrFieldBytes]
  · simp only [alarmBody, List.length_append, length_toBytes]

end bodies
end Sys2Proof.Machine

namespace Sys2Proof.Machine

/-! ### The address responder's answer to an ARP request (O43) -/

section arpAnswer
variable {s : State} {p : ParsedFrame} {i k : Nat} {e : MatchEntry} {x : Identity}

/-- An entry of the address responder: its judgement, then the fallback if it declines (R51, R52). -/
theorem carryOut_of_answerAddress (ha : e.action = .answerAddress) :
    carryOut k e p s = afterResponder k e p (judgeAddress p s) := by
  simp only [carryOut, ha]

/-- An ARP frame is sorted by its network-layer kind (R66). -/
theorem addressKind_eq_arp (hok : p.fv.pstatus = .ok) (hl : p.fv.l3kind = .arp) :
    addressKind p.fv = some .arp := by
  simp [addressKind, hok, hl]

/-- An address that no valid identity has is no identity's (R62). -/
theorem identityOf_eq_none {ids : List Identity} {a : Addr}
    (h : ∀ y ∈ ids, y.valid = true → y.addr ≠ a) : identityOf ids a = none := by
  simpa [identityOf, List.findIdx?_eq_none_iff] using h

/-- The index of a valid identity names an identity of its family. -/
theorem namesIdentity_of_getElem? {ids : List Identity} {v4 : Bool} (hx : ids[i]? = some x)
    (hv : x.valid = true) (ha : isV4 x.addr = v4) : namesIdentity ids i v4 = true := by
  simp [namesIdentity, hx, hv, ha]

/-- The index of an identity in the table reads that identity. -/
theorem identity_of_getElem? (hx : s.identities[i]? = some x) : s.identity i = x := by
  rw [State.identity, List.getD_eq_getElem?_getD, hx, Option.getD_some]

/-- The ARP reply's bytes (R69, R129): a 28-byte body leaves 18 bytes of padding. -/
theorem arpFrame_reply_bytes (c : ConfigRecord) (dst target : Mac) (sender ip : BitVec 32) :
    arpFrame c dst 2 sender target ip =
      macBytes dst ++ macBytes c.hostMac
        ++ (if c.vid = 0 then [] else toBytes 2 0x8100 ++ toBytes 2 (c.pcp * 2 ^ 13 + c.vid))
        ++ [0x08, 0x06, 0, 1, 0x08, 0x00, 6, 4, 0, 2] ++ macBytes c.hostMac ++ toBytes 4 sender.toNat
        ++ macBytes target ++ toBytes 4 ip.toNat ++ List.replicate 18 0 := by
  have header : toBytes 2 0x0806 ++ toBytes 2 1 ++ toBytes 2 0x0800 ++ toBytes 1 6 ++ toBytes 1 4 ++ toBytes 2 2 =
      [0x08, 0x06, 0, 1, 0x08, 0x00, 6, 4, 0, 2] := by decide
  rw [← header]
  simp only [arpFrame, ethernetFrame, tagBytes, padTo, macBytes, List.length_append, length_toBytes,
    List.append_assoc, Nat.reducePow, Nat.reduceAdd, Nat.reduceSub]

/-- An ARP frame from another station whose sender address is no identity's and not 0 shows no conflict (R71). -/
theorem arpConflict_eq_none (hs : v4At p.bytes (p.pos.l3 + 14) ≠ 0)
    (hn : identityOf s.identities (.v4 (v4At p.bytes (p.pos.l3 + 14))) = none) : arpConflict s p = none := by
  simp only [arpConflict, arpBody, hn, hs, false_and, and_false, if_false, ite_self]

/-- An ARP request for a READY identity that answers for its address is answered (R69). -/
theorem answerArp_of_request {ip : BitVec 32} (hop : beNat p.bytes (p.pos.l3 + 6) 2 = 1)
    (hm : macAt p.bytes (p.pos.l3 + 8) ≠ s.ctl.cfg.hostMac) (hs : v4At p.bytes (p.pos.l3 + 14) ≠ 0)
    (hx : s.identities[p.fv.dstid]? = some x) (hv : x.valid = true) (ha : x.addr = .v4 ip)
    (hr : x.state = .ready) (hans : x.answerResolution = true) :
    answerArp p s =
      .done
        (answer p .answerArp false
          (fun _ =>
            arpFrame s.ctl.cfg (macAt p.bytes (p.pos.l3 + 8)) 2 ip (macAt p.bytes (p.pos.l3 + 8))
              (v4At p.bytes (p.pos.l3 + 14)))
          s) := by
  have ready : namesReady s.identities p.fv.dstid true Identity.answerResolution = true := by
    simp [namesReady, namesIdentity_of_getElem? hx hv (by rw [ha]; rfl : isV4 x.addr = true), hx, hr, hans]
  rw [answerArp, if_pos ⟨hop, hm, hs, ready⟩, identity_of_getElem? hx, ha]
  rfl

/-- Settles O43: the frame shows no conflict, so it is answered, and the two clauses are the grant of a slot and
its refusal. -/
theorem arpRequestIsAnswered : Obligations.ArpRequestIsAnswered := by
  intro s p k i e x ip mac sender hd hp ha hm hok hl hop hmac hhost hsender hzero hother hi hx hv hip hr hans
  subst hmac hsender hi
  have judged : judgeAddress p (s.hit k) = answerArp p (s.hit k) :=
    judgeAddress_of_noArpConflict (addressKind_eq_arp hok hl)
      (arpConflict_eq_none hzero (identityOf_eq_none hother))
  have guarded : inGuard (s.hit k) = true := inGuard_eq_true_iff.2 hm
  have step := exec_classifyFrame_of_decides hd
  rw [endDrain_carryOut_of_inGuard guarded, carryOut_of_answerAddress ha, judged,
    answerArp_of_request (s := s.hit k) hop hhost hzero hx hv hip hr hans] at step
  refine ⟨fun slot hf => step.trans ?_, fun hf => step.trans ?_⟩
  · rw [answer_of_freeSlot (s := s.hit k) hp hf, arpFrame_reply_bytes]
    rfl
  · rw [answer_of_noFreeSlot (s := s.hit k) hp hf]
    rfl

end arpAnswer
end Sys2Proof.Machine

namespace Sys2Proof.Machine

/-! ### The four forms of a conflict (R71) -/

section forms
variable {s : State} {p : ParsedFrame} {i : Nat} {x : Identity}

/-- A sender address that is an identity's, from another station, is a foreign claim. -/
theorem judgeAddress_of_foreignClaim (hok : p.fv.pstatus = .ok) (hl : p.fv.l3kind = .arp)
    (hm : macAt p.bytes (p.pos.l3 + 8) ≠ s.ctl.cfg.hostMac)
    (hi : identityOf s.identities (.v4 (v4At p.bytes (p.pos.l3 + 14))) = some i) :
    judgeAddress p s = handleConflict i .foreignClaim p s := by
  have shown : arpConflict s p = some (i, .foreignClaim) := by
    simp only [arpConflict, arpBody, hi, hm, if_false]
  exact judgeAddress_of_arpConflict (addressKind_eq_arp hok hl) shown

/-- A request with the sender address 0 for an identity, from another station, is an ARP probe. -/
theorem judgeAddress_of_arpProbe (hok : p.fv.pstatus = .ok) (hl : p.fv.l3kind = .arp)
    (hm : macAt p.bytes (p.pos.l3 + 8) ≠ s.ctl.cfg.hostMac) (hs : v4At p.bytes (p.pos.l3 + 14) = 0)
    (hn : identityOf s.identities (.v4 0) = none) (hop : beNat p.bytes (p.pos.l3 + 6) 2 = 1)
    (hi : namesIdentity s.identities p.fv.dstid true = true) :
    judgeAddress p s = handleConflict p.fv.dstid .arpProbe p s := by
  have shown : arpConflict s p = some (p.fv.dstid, .arpProbe) := by
    simp only [arpConflict, arpBody, hs, hn, hop, hi, hm, and_self, if_true, if_false]
  exact judgeAddress_of_arpConflict (addressKind_eq_arp hok hl) shown

/-- A frame of neighbour discovery that R67 accepts is judged by the conflict it shows. -/
theorem judgeNd_of_ndConflict {kind : AddressKind} {j : Nat × ConflictForm} (ha : AcceptedNd p)
    (hc : ndConflict s kind p = some j) : judgeNd kind p s = handleConflict j.1 j.2 p s := by
  obtain ⟨whole, length, sum, hops, code, target⟩ := ha
  rw [judgeNd, if_neg (by simp [whole, length]), if_neg (by simp [sum]), if_neg (by simp [hops, code]),
    if_neg (by simp [target]), hc]

/-- A solicitation from the unspecified address for an identity is a duplicate-address probe. -/
theorem judgeAddress_of_duplicateProbe (hok : p.fv.pstatus = .ok) (hl : p.fv.l3kind = .ipv6)
    (hp : p.fv.proto = 58) (ht : p.fv.icmptype = 135) (ha : AcceptedNd p)
    (hm : macAt p.bytes 6 ≠ s.ctl.cfg.hostMac) (hi : namesIdentity s.identities p.fv.dstid false = true)
    (hs : sourceOf .ipv6 p.bytes p.pos.l3 = .v6 0) :
    judgeAddress p s = handleConflict p.fv.dstid .duplicateProbe p s := by
  have sorted : addressKind p.fv = some .solicitation := by simp [addressKind, hok, hl, hp, ht]
  have shown : ndConflict s .solicitation p = some (p.fv.dstid, .duplicateProbe) := by
    simp [ndConflict, hm, hi, hs, isUnspecified]
  rw [judgeAddress_of_nd sorted (by decide), judgeNd_of_ndConflict ha shown]

/-- An advertisement of an identity from another station is a foreign advertisement. -/
theorem judgeAddress_of_foreignAdvertisement (hok : p.fv.pstatus = .ok) (hl : p.fv.l3kind = .ipv6)
    (hp : p.fv.proto = 58) (ht : p.fv.icmptype = 136) (ha : AcceptedNd p)
    (hm : macAt p.bytes 6 ≠ s.ctl.cfg.hostMac) (hi : namesIdentity s.identities p.fv.dstid false = true) :
    judgeAddress p s = handleConflict p.fv.dstid .foreignAdvertisement p s := by
  have sorted : addressKind p.fv = some .advertisement := by simp [addressKind, hok, hl, hp, ht]
  have shown : ndConflict s .advertisement p = some (p.fv.dstid, .foreignAdvertisement) := by
    simp [ndConflict, hm, hi]
  rw [judgeAddress_of_nd sorted (by decide), judgeNd_of_ndConflict ha shown]

end forms
end Sys2Proof.Machine

namespace Sys2Proof.Machine

/-! ### The sessions on an identity detached (R120) -/

section detached
variable {s : State} {i j : Nat} {on : Nat → Bool}

theorem mem_runningSessions {q : Session → Bool} :
    j ∈ runningSessions q s ↔ (s.session j).running = true ∧ q (s.session j) = true := by
  simp only [runningSessions, List.mem_filter, List.mem_range, Bool.and_eq_true]
  exact ⟨And.right, fun h => ⟨lt_of_running h.1, h⟩⟩

/-- The sessions that a conflict on an identity detaches. -/
theorem mem_detached (hon : ∀ j, on j = true ↔ (s.session j).running = true ∧ (s.session j).localId = i) :
    j ∈ runningSessions (fun x => x.localId == i) s ↔ on j = true := by
  rw [mem_runningSessions, hon, beq_iff_eq]

theorem detachIdentity_sessions_eq (i : Nat) (s : State) :
    (detachIdentity i s).sessions =
      s.sessions.map fun y => if y.running = true ∧ y.localId = i then { y with state := .detached } else y := by
  rw [detachIdentity, leaveRunningAll_sessions]
  refine List.ext_getElem (by simp) fun j h _ => ?_
  have hj : j < s.sessions.length := by simpa using h
  have read : s.session j = s.sessions[j] := by simp [State.session, hj]
  simp only [List.getElem_mapIdx, List.getElem_map, mem_runningSessions, read, beq_iff_eq]

theorem detachIdentity_bank_eq
    (hon : ∀ j, on j = true ↔ (s.session j).running = true ∧ (s.session j).localId = i) :
    (detachIdentity i s).bank =
      { s.bank with timers := s.bank.timers.mapIdx fun j t => if on j = true then t.stop else t } := by
  simp only [detachIdentity, leaveRunningAll_bank, mem_detached hon]

theorem detachIdentity_probes_eq
    (hon : ∀ j, on j = true ↔ (s.session j).running = true ∧ (s.session j).localId = i) :
    (detachIdentity i s).probes = s.probes.filter fun j => !on j := by
  have member : ∀ j, (runningSessions (fun x => x.localId == i) s).contains j = on j := fun j =>
    Bool.eq_iff_iff.2 (List.contains_iff_mem.trans (mem_detached hon))
  simp only [detachIdentity, leaveRunningAll_probes, member]

end detached
end Sys2Proof.Machine

namespace Sys2Proof.Machine

/-! ### A conflict handled (R72 to R75) -/

section conflict
variable {s : State} {p : ParsedFrame} {i : Nat} {x : Identity} {form : ConflictForm} {on : Nat → Bool}

/-- The state of a READY identity's conflict before its frame is passed on: the defence built, the identity
CONFLICTED and counted, its sessions detached (R72, steps 1 to 3). -/
def State.claimed (s : State) (i : Nat) (form : ConflictForm) (p : ParsedFrame) : State :=
  detachIdentity i
    (countConflict i
      (modifyIdentity i (fun y => { y with state := .conflicted }) (defend form (s.identity i) p s)))

/-- A READY identity's conflict: the frame goes where a WAKE verdict of the identity's class would send it. -/
theorem handleConflict_of_ready (hp : p.path = .guardPath) (hr : (s.identity i).state = .ready) :
    handleConflict i form p s =
      .done (wakeVerdict .addressConflict i (s.identity i).cls p (s.claimed i form p)) := by
  unfold handleConflict
  dsimp only
  rw [if_neg (by simp [hp]), if_neg (by simp [hr]), ← State.claimed]
  cases hg : inGuard (s.claimed i form p)
  · rw [wakeVerdict_of_outside hp hg]
    rfl
  · rw [wakeVerdict_of_inGuard hp hg]
    rfl

/-- A CONFLICTED identity's conflict is counted and declined (R73). -/
theorem handleConflict_of_conflicted (hp : p.path = .guardPath) (hc : (s.identity i).state = .conflicted) :
    handleConflict i form p s = .decline (countConflict i s) := by
  rw [handleConflict, if_neg (by simp [hp]), if_pos hc]

/-- An identity's counts moved (R72, R73). -/
theorem countConflict_eq (hx : s.identities[i]? = some x) :
    countConflict i s =
      bump .conflicts
        { s with identities := s.identities.set i { x with conflicts := satBump x.conflicts } } := by
  rw [countConflict, modifyIdentity, modify_eq_set hx]
  rfl

/-- The end of DRAIN never follows a WAKE verdict of a guard-path frame: it is a request in guard and an append
outside. -/
theorem endDrain_wakeVerdict {cause : WakeCause} {entry cls : Nat} (hp : p.path = .guardPath) :
    endDrain (wakeVerdict cause entry cls p s) = wakeVerdict cause entry cls p s := by
  cases hg : inGuard s
  · rw [wakeVerdict_of_outside hp hg]
    exact endDrain_handToHold (by decide) _ _
  · refine endDrain_of_not_drain ?_
    rw [wakeVerdict_modeCtl]
    rcases inGuard_eq_true_iff.1 hg with hm | hm <;> simp [hm]

theorem counter_wakeVerdict {cause : WakeCause} {entry cls : Nat} {c : Counter} :
    (wakeVerdict cause entry cls p s).counter c = s.counter c := counter_of_ctl (wakeVerdict_ctl ..)

/-! #### The defence -/

/-- A defence moves no counter but that of the skipped answers. -/
theorem counter_defend {c : Counter} (hp : p.path = .guardPath) (hc : c ≠ .replySkipped) :
    (defend form x p s).counter c = s.counter c := by
  rcases defend_cases form x s hp with ⟨-, h⟩ | ⟨-, -, h⟩ | ⟨slot, -, -, h⟩ <;> rw [h]
  · exact counter_bump_of_ne hc s
  · rfl

theorem length_counters_defend (hp : p.path = .guardPath) :
    (defend form x p s).ctl.counters.length = s.ctl.counters.length := by
  rcases defend_cases form x s hp with ⟨-, h⟩ | ⟨-, -, h⟩ | ⟨slot, -, -, h⟩ <;> rw [h]
  · simp [bump]
  · rfl

/-- Without the defend flag nothing is built; with it and no FREE slot the defence is skipped and counted; with a
FREE slot it is QUEUED there (R72, R125). The state after may differ from the defence's elsewhere. -/
theorem reply_of_defend {u : State} (hp : p.path = .guardPath)
    (hl : s.ctl.counters.length = Config.counterCount) (hu : u.reply = (defend form x p s).reply)
    (hc : u.counter .replySkipped = (defend form x p s).counter .replySkipped) :
    (x.defend = false → u.reply = s.reply ∧ u.counter .replySkipped = s.counter .replySkipped)
      ∧ (x.defend = true → freeSlot s = none →
        u.reply = s.reply ∧ u.counter .replySkipped = satBump (s.counter .replySkipped))
      ∧ (∀ slot, x.defend = true → freeSlot s = some slot →
        u.reply = (s.queued slot .defence none false (defenceFrame s.ctl.cfg form x p)).reply
          ∧ u.counter .replySkipped = s.counter .replySkipped) := by
  rcases defend_cases form x s hp with ⟨hd, h⟩ | ⟨hd, hf, h⟩ | ⟨slot, hd, hf, h⟩ <;> rw [hu, hc, h, hd]
  · exact ⟨fun _ => ⟨rfl, rfl⟩, nofun, nofun⟩
  · rw [hf]
    exact ⟨nofun, fun _ _ => ⟨bump_reply .., counter_bump_self hl⟩, nofun⟩
  · rw [hf]
    refine ⟨nofun, nofun, fun other _ same => ?_⟩
    cases same
    exact ⟨rfl, rfl⟩

/-! #### What the conflict leaves -/

theorem claimed_identities (hx : s.identities[i]? = some x) :
    (s.claimed i form p).identities =
      s.identities.set i { x with state := .conflicted, conflicts := satBump x.conflicts } := by
  have twice : (s.claimed i form p).identities =
      (s.identities.modify i fun y => { y with state := .conflicted }).modify i
        fun y => { y with conflicts := satBump y.conflicts } := by
    simp [State.claimed, countConflict, modifyIdentity]
  rw [twice, List.modify_modify_eq, modify_eq_set hx]
  rfl

theorem claimed_sessions (s : State) (i : Nat) (form : ConflictForm) (p : ParsedFrame) :
    (s.claimed i form p).sessions =
      s.sessions.map fun y => if y.running = true ∧ y.localId = i then { y with state := .detached } else y := by
  rw [State.claimed, detachIdentity_sessions_eq, countConflict_sessions, modifyIdentity_sessions, defend_sessions]

theorem claimed_bank (hon : ∀ j, on j = true ↔ (s.session j).running = true ∧ (s.session j).localId = i) :
    (s.claimed i form p).bank =
      { s.bank with timers := s.bank.timers.mapIdx fun j t => if on j = true then t.stop else t } := by
  rw [State.claimed, detachIdentity_bank_eq (on := on) (by simpa [State.session] using hon)]
  simp

theorem claimed_probes (hon : ∀ j, on j = true ↔ (s.session j).running = true ∧ (s.session j).localId = i) :
    (s.claimed i form p).probes = s.probes.filter fun j => !on j := by
  rw [State.claimed, detachIdentity_probes_eq (on := on) (by simpa [State.session] using hon)]
  simp

section frame
variable (s : State) (i : Nat) (form : ConflictForm) (p : ParsedFrame)

@[simp] theorem claimed_modeCtl : (s.claimed i form p).modeCtl = s.modeCtl := by simp [State.claimed]
@[simp] theorem claimed_linePort : (s.claimed i form p).linePort = s.linePort := by simp [State.claimed]
@[simp] theorem claimed_names : (s.claimed i form p).names = s.names := by simp [State.claimed]
@[simp] theorem claimed_arb : (s.claimed i form p).arb = s.arb := by simp [State.claimed]
@[simp] theorem claimed_wake : (s.claimed i form p).wake = s.wake := by simp [State.claimed]
@[simp] theorem claimed_hold : (s.claimed i form p).hold = s.hold := by simp [State.claimed]
@[simp] theorem claimed_sys : (s.claimed i form p).sys = s.sys := by simp [State.claimed]

end frame

theorem claimed_reply (s : State) (i : Nat) (form : ConflictForm) (p : ParsedFrame) :
    (s.claimed i form p).reply = (defend form (s.identity i) p s).reply := by
  simp [State.claimed]

theorem counter_claimed_of_ne {c : Counter} (hc : c ≠ .conflicts) :
    (s.claimed i form p).counter c = (defend form (s.identity i) p s).counter c := by
  rw [State.claimed, counter_of_ctl (detachIdentity_ctl ..), countConflict, counter_bump_of_ne hc]
  rfl

theorem counter_conflicts_claimed (hp : p.path = .guardPath)
    (hl : s.ctl.counters.length = Config.counterCount) :
    (s.claimed i form p).counter .conflicts = satBump (s.counter .conflicts) := by
  rw [State.claimed, counter_of_ctl (detachIdentity_ctl ..), countConflict,
    counter_bump_self (by simpa [length_counters_defend hp] using hl)]
  exact congrArg satBump (counter_defend hp (by decide))

/-! #### The classifier's step on a claim -/

section claim
variable {k : Nat} {e : MatchEntry}

/-- A READY identity's conflict, with no further step of the classifier (R72, R75). -/
theorem exec_classifyFrame_of_readyConflict (hd : Decides s p k e) (ha : e.action = .answerAddress)
    (hp : p.path = .guardPath) (hx : s.identities[i]? = some x) (hr : x.state = .ready)
    (hj : judgeAddress p (s.hit k) = handleConflict i form p (s.hit k)) :
    exec .classifyFrame s =
      .next (wakeVerdict .addressConflict i x.cls p ((s.hit k).claimed i form p)) := by
  have read : (s.hit k).identity i = x := identity_of_getElem? hx
  have handled := handleConflict_of_ready (s := s.hit k) (i := i) (form := form) hp (by rw [read, hr])
  rw [exec_classifyFrame_of_decides hd, carryOut_of_answerAddress ha, hj, handled, read]
  exact congrArg _ (endDrain_wakeVerdict hp)

/-- A CONFLICTED identity's conflict is counted, and the fallback applies (R52, R73). -/
theorem exec_classifyFrame_of_knownConflict (hd : Decides s p k e) (ha : e.action = .answerAddress)
    (hp : p.path = .guardPath) (hx : s.identities[i]? = some x) (hc : x.state = .conflicted)
    (hj : judgeAddress p (s.hit k) = handleConflict i form p (s.hit k)) :
    exec .classifyFrame s = .next (endDrain (applyFallback k e p (countConflict i (s.hit k)))) := by
  have read : (s.hit k).identity i = x := identity_of_getElem? hx
  rw [exec_classifyFrame_of_decides hd, carryOut_of_answerAddress ha, hj,
    handleConflict_of_conflicted hp (by rw [read, hc])]
  rfl

end claim

/-- Settles O44: each of the four forms is a conflict on the identity; READY, it is `State.claimed` with the frame
passed on, and CONFLICTED, it is counted and the fallback applies. -/
theorem foreignClaimsAreHandled : Obligations.ForeignClaimsAreHandled := by
  intro s p k i e x defence on sizes hd hp ha hok hx hv hon claim
  obtain ⟨-, -, -, -, -, timers, -, -, counters⟩ := sizes
  have named : ∀ v4, isV4 x.addr = v4 → namesIdentity (s.hit k).identities i v4 = true :=
    fun _ => namesIdentity_of_getElem? hx hv
  have shown : ∃ form, judgeAddress p (s.hit k) = handleConflict i form p (s.hit k)
      ∧ defenceFrame s.ctl.cfg form x p = defence := by
    rcases claim with ⟨mac, ip, hl, rfl, hm, hip, ⟨rfl, hi, rfl⟩ | ⟨hs, hn, hop, rfl, rfl⟩⟩
      | ⟨ip, hl, h58, accepted, hm, rfl, hip, ht | ⟨ht, hs⟩, rfl⟩
    · exact ⟨.foreignClaim, judgeAddress_of_foreignClaim hok hl hm hi, by rw [defenceFrame, hip]; rfl⟩
    · exact ⟨.arpProbe, judgeAddress_of_arpProbe hok hl hm hs hn hop (named _ (by rw [hip]; rfl)),
        by rw [defenceFrame, hip]; rfl⟩
    · exact ⟨.foreignAdvertisement,
        judgeAddress_of_foreignAdvertisement hok hl h58 ht accepted hm (named _ (by rw [hip]; rfl)),
        by rw [defenceFrame, hip]; rfl⟩
    · exact ⟨.duplicateProbe,
        judgeAddress_of_duplicateProbe hok hl h58 ht accepted hm (named _ (by rw [hip]; rfl)) hs,
        by rw [defenceFrame, hip]; rfl⟩
  obtain ⟨form, judged, rfl⟩ := shown
  refine ⟨fun hr _ => ?_, fun hc u hu => ?_⟩
  · have read : (s.hit k).identity i = x := identity_of_getElem? hx
    have bank := claimed_bank (s := s.hit k) (form := form) (p := p) hon
    refine ⟨_, exec_classifyFrame_of_readyConflict hd ha hp hx hr judged, ?_⟩
    have reply : (wakeVerdict .addressConflict i x.cls p ((s.hit k).claimed i form p)).reply =
        (defend form ((s.hit k).identity i) p (s.hit k)).reply := by
      rw [wakeVerdict_reply, claimed_reply]
    have skipped : (wakeVerdict .addressConflict i x.cls p ((s.hit k).claimed i form p)).counter .replySkipped =
        (defend form ((s.hit k).identity i) p (s.hit k)).counter .replySkipped := by
      rw [counter_wakeVerdict, counter_claimed_of_ne (by decide)]
    rw [read] at reply skipped
    obtain ⟨unflagged, full, granted⟩ := reply_of_defend (s := s.hit k) hp counters reply skipped
    refine ⟨?identities, ?conflicts, ?others, ?inside, ?outside, ?sessions, ?timers, ?bank, ?probes,
      unflagged, full, granted, ?frame⟩
    case identities => rw [wakeVerdict_identities]; exact claimed_identities hx
    case conflicts => rw [counter_wakeVerdict]; exact counter_conflicts_claimed hp counters
    case others =>
      intro c hc
      obtain ⟨conflicts, skips⟩ : c ≠ .conflicts ∧ c ≠ .replySkipped := by simpa using hc
      rw [counter_wakeVerdict, counter_claimed_of_ne conflicts]
      exact counter_defend hp skips
    case inside =>
      intro hm
      rw [wakeVerdict_of_inGuard hp (inGuard_eq_true_iff.2 (by rw [claimed_modeCtl]; exact hm))]
      simp only [State.requested, claimed_wake, claimed_hold]
      exact ⟨rfl, rfl⟩
    case outside =>
      intro hm
      have out : inGuard ((s.hit k).claimed i form p) = false := by simp [inGuard, hm]
      rw [wakeVerdict_of_outside hp out]
      simp only [handToHold, State.setHold, claimed_wake, claimed_hold]
      exact ⟨rfl, rfl⟩
    case sessions => rw [wakeVerdict_sessions]; exact claimed_sessions ..
    case timers =>
      intro j hj
      rw [State.timer, wakeVerdict_bank, bank]
      exact getD_mapIdx _ _ _ _ (timers.symm ▸ hj)
    case bank => rw [wakeVerdict_bank, bank]; rfl
    case probes => rw [wakeVerdict_probes]; exact claimed_probes hon
    case frame => simp [State.hit]
  · have counted : countConflict i (s.hit k) = u := (countConflict_eq (s := s.hit k) hx).trans hu.symm
    have step := exec_classifyFrame_of_knownConflict hd ha hp hx hc judged
    rw [counted] at step
    have mode : u.modeCtl = s.modeCtl := by rw [hu]; rfl
    have hold : u.hold = s.hold := by rw [hu]; rfl
    refine ⟨fun hm => step.trans ?_, fun hm hf => step.trans ?_⟩
    · have guarded : inGuard u = true := inGuard_eq_true_iff.2 (by rw [mode]; exact hm)
      rw [endDrain_of_not_drain (by rw [applyFallback_modeCtl, mode]; rcases hm with hm | hm <;> simp [hm]),
        applyFallback_of_inGuard hp guarded]
    · rw [applyFallback_of_drain hp (by rw [mode, hm]) hf, endDrain_handToHold (by decide), ← hold]
      rfl

end conflict
end Sys2Proof.Machine

namespace Sys2Proof.Machine

/-! ### Name and session bodies read back (O19) -/

section nameAndSession
variable {b c : Frame} {i m n x : Nat}

/-! #### Runs of bytes -/

theorem length_padTo (h : b.length ≤ n) : (padTo n b).length = n := by
  rw [padTo, List.length_append, List.length_replicate]
  omega

/-- A run past another one is cut from what follows that. -/
theorem slice_append_of_le (h : b.length ≤ i) : slice (b ++ c) i n = slice c (i - b.length) n := by
  rw [slice, slice, List.drop_append, List.drop_of_length_le h, List.nil_append]

/-- The run that stands first. -/
theorem slice_append_first (b c : Frame) : slice (b ++ c) 0 b.length = b := by
  rw [slice, List.drop_zero, List.take_left]

/-- A number that fits its bytes reads back where it stands first. -/
theorem beNat_toBytes_of_lt (h : x < 256 ^ n) (c : Frame) : beNat (toBytes n x ++ c) 0 n = x := by
  rw [beNat_toBytes_first, Nat.mod_eq_of_lt h]

/-- The same for a number with nothing behind it. -/
theorem beNat_toBytes_self (h : x < 256 ^ n) : beNat (toBytes n x) 0 n = x := by
  simpa using beNat_toBytes_of_lt h []

/-- A word that is no wider than its bytes reads back. -/
theorem ofNat_beNat_toBytes {k : Nat} (w : BitVec k) (h : 2 ^ k ≤ 256 ^ n) (c : Frame) :
    BitVec.ofNat k (beNat (toBytes n w.toNat ++ c) 0 n) = w := by
  rw [beNat_toBytes_of_lt (Nat.lt_of_lt_of_le w.isLt h), BitVec.ofNat_toNat, BitVec.setWidth_eq]

theorem macAt_macBytes (w : Mac) (c : Frame) : macAt (macBytes w ++ c) 0 = w :=
  ofNat_beNat_toBytes w (by decide) c

/-! #### Names (R87, R88) -/

theorem length_nameBody {e : NameEntry} (index : Nat) (hl : e.name.length ≤ 64) :
    (nameBody index e).length = 73 := by
  simp only [nameBody, List.length_append, length_toBytes, length_padTo hl]

/-- The bytes of a name stand behind three header bytes, padded to 64. -/
theorem slice_nameBody {e : NameEntry} (index : Nat) :
    slice (nameBody index e) 3 e.name.length = e.name := by
  have parts : nameBody index e =
      (toBytes 1 index ++ toBytes 1 (boolCode e.valid) ++ toBytes 1 e.name.length)
        ++ (e.name ++ (List.replicate (64 - e.name.length) 0 ++ (toBytes 2 e.idset.toNat ++ toBytes 4 e.ttl))) := by
    simp only [nameBody, padTo, List.append_assoc]
  rw [parts, slice_append_of_le (by simp)]
  exact slice_append_first _ _

/-- The two numbers of a name body stand behind its 67 bytes of header and name. -/
theorem beNat_nameBody {e : NameEntry} (index : Nat) (hl : e.name.length ≤ 64) :
    beNat (nameBody index e) (67 + i) n = beNat (toBytes 2 e.idset.toNat ++ toBytes 4 e.ttl) i n := by
  have header : (toBytes 1 index ++ toBytes 1 (boolCode e.valid) ++ toBytes 1 e.name.length
      ++ padTo 64 e.name).length = 67 := by
    simp only [List.length_append, length_toBytes, length_padTo hl]
  rw [nameBody, List.append_assoc, beNat_append_of_le (by omega), header, Nat.add_sub_cancel_left]

theorem decodeName_nameBody {e : NameEntry} (index : Nat) (hl : e.name.length ≤ 64)
    (hw : e.valid = true → nameWellFormed e.name = true) (ht : 1 ≤ e.ttl ∧ e.ttl ≤ 86400) :
    decodeName (nameBody index e) = some { e with answers := 0 } := by
  have valid : byteAt (nameBody index e) 1 = boolCode e.valid := by
    simp [nameBody, byteAt_toBytes_after, byteAt_toBytes_first, boolCode_lt]
  have length : byteAt (nameBody index e) 2 = e.name.length := by
    have : e.name.length < 256 := by omega
    simp [nameBody, byteAt_toBytes_after, byteAt_toBytes_first, this]
  have set : beNat (nameBody index e) 67 2 = e.idset.toNat :=
    (beNat_nameBody (i := 0) index hl).trans (beNat_toBytes_of_lt (by omega) _)
  have ttl : beNat (nameBody index e) 69 4 = e.ttl :=
    (beNat_nameBody (i := 2) index hl).trans
      ((beNat_toBytes_after (Nat.le_refl _)).trans (beNat_toBytes_self (by omega)))
  have admitted : e.name.length ≤ 64 ∧ e.idset.toNat < 4096
      ∧ (e.valid = true → nameWellFormed e.name = true) := ⟨hl, e.idset.isLt, hw⟩
  simp only [decodeName, valid, length, set, ttl, slice_nameBody, yesNo_boolCode, Option.bind_eq_bind,
    Option.bind_some, if_pos admitted, clamp_of_mem ht, BitVec.ofNat_toNat, BitVec.setWidth_eq]

/-! #### Sessions (R97, R100, R101) -/

/-- The timestamp part of a session body (11.6). -/
def tsBytes : Option TsPart → Frame
  | some t => toBytes 1 1 ++ (toBytes 4 t.base.toNat ++ (toBytes 4 t.echo.toNat ++ toBytes 2 t.rate))
  | none => List.replicate 11 0

/-- The eight bytes of a session body before the remote address (11.6). -/
def sessionHeader (index : Nat) (y : Session) : Frame :=
  toBytes 1 index ++ (toBytes 1 (boolCode y.valid) ++ (toBytes 1 (familyCode y.remote)
    ++ (toBytes 1 y.localId ++ (toBytes 2 y.localPort ++ toBytes 2 y.remotePort))))

/-- The twenty-six bytes of a session body between the remote address and the timestamp part (11.6). -/
def sessionFields (y : Session) : Frame :=
  macBytes y.nextHop ++ (toBytes 4 y.snd.toNat ++ (toBytes 4 y.rcv.toNat ++ (toBytes 2 y.window.toNat
    ++ (toBytes 4 y.idle ++ (toBytes 2 y.retry ++ (toBytes 1 y.missLimit ++ (toBytes 1 y.dataCls
    ++ (toBytes 1 y.endCls ++ toBytes 1 y.deadCls))))))))

theorem sessionBody_eq (index : Nat) (y : Session) :
    sessionBody index y =
      sessionHeader index y ++ (addrFieldBytes y.remote ++ (sessionFields y ++ tsBytes y.ts)) := by
  cases hts : y.ts <;>
    simp only [sessionBody, sessionHeader, sessionFields, tsBytes, hts, List.append_assoc]

@[simp] theorem length_tsBytes (o : Option TsPart) : (tsBytes o).length = 11 := by
  cases o <;> simp [tsBytes]

@[simp] theorem length_sessionHeader (index : Nat) (y : Session) : (sessionHeader index y).length = 8 := by
  simp [sessionHeader]

@[simp] theorem length_sessionFields (y : Session) : (sessionFields y).length = 26 := by
  simp [sessionFields, macBytes]

theorem length_sessionBody (index : Nat) (y : Session) : (sessionBody index y).length = 61 := by
  simp [sessionBody_eq]

/-- A number behind the header of a session body. -/
theorem beNat_sessionBody (index : Nat) (y : Session) (i n : Nat) :
    beNat (sessionBody index y) (i + 8) n =
      beNat (addrFieldBytes y.remote ++ (sessionFields y ++ tsBytes y.ts)) i n := by
  rw [sessionBody_eq, beNat_append_of_le (by simp), length_sessionHeader, Nat.add_sub_cancel]

/-- A number behind the remote address of a session body. -/
theorem beNat_sessionBody_fields (index : Nat) (y : Session) (i n : Nat) :
    beNat (sessionBody index y) (i + 24) n = beNat (sessionFields y ++ tsBytes y.ts) i n := by
  rw [beNat_sessionBody index y (i + 16), beNat_append_of_le (by simp), length_addrFieldBytes,
    Nat.add_sub_cancel]

/-- A timestamp part of an admitted rate reads back behind the fifty bytes of its header. -/
theorem tsAt_append_tsBytes {o : Option TsPart} (hb : b.length = 50)
    (hr : ∀ t, o = some t → 1 ≤ t.rate ∧ t.rate ≤ 1000) : tsAt (b ++ tsBytes o) = some o := by
  have number : ∀ j n, beNat (b ++ tsBytes o) (50 + j) n = beNat (tsBytes o) j n := fun j n => by
    rw [beNat_append_of_le (by omega), hb, Nat.add_sub_cancel_left]
  have word : ∀ j, v4At (b ++ tsBytes o) (50 + j) = v4At (tsBytes o) j := fun j =>
    congrArg (BitVec.ofNat 32) (number j 4)
  have byte : byteAt (b ++ tsBytes o) 50 = byteAt (tsBytes o) 0 := by
    simpa only [byteAt_eq_beNat] using number 0 1
  cases o with
  | none =>
    have absent : byteAt (b ++ tsBytes none) 50 = 0 := byte
    simp only [tsAt, absent, yesNo]
  | some t =>
    have range := hr t rfl
    have present := byte.trans (byteAt_toBytes_first (by decide) _)
    have base := (word 1).trans ((v4At_toBytes_after (Nat.le_refl _)).trans (v4At_toBytes_first t.base _))
    have echo := (word 5).trans
      ((v4At_toBytes_after (by decide)).trans
        ((v4At_toBytes_after (Nat.le_refl _)).trans (v4At_toBytes_first t.echo _)))
    have rate := (number 9 2).trans
      ((beNat_toBytes_after (by decide)).trans
        ((beNat_toBytes_after (by decide)).trans
          ((beNat_toBytes_after (Nat.le_refl _)).trans (beNat_toBytes_self (by omega)))))
    simp only [Nat.reduceAdd] at base echo rate
    simp only [tsAt, present, yesNo, base, echo, rate, clamp_of_mem range]

theorem decodeSession_sessionBody {y : Session} (index : Nat) (hid : y.localId ≤ 11)
    (hlp : y.localPort ≤ 65535) (hrp : y.remotePort ≤ 65535) (hi : 80 ≤ y.idle ∧ y.idle ≤ 16777215)
    (hr : 16 ≤ y.retry ∧ y.retry ≤ 65535) (hm : 1 ≤ y.missLimit ∧ y.missLimit ≤ 15)
    (hd : y.dataCls ≤ 7) (he : y.endCls ≤ 7) (hk : y.deadCls ≤ 7)
    (ht : ∀ t, y.ts = some t → 1 ≤ t.rate ∧ t.rate ≤ 1000) (hu : y.valid = true → y.usable = true) :
    decodeSession (sessionBody index y) = some y.resetRuntime := by
  have header : byteAt (sessionBody index y) 1 = boolCode y.valid
      ∧ byteAt (sessionBody index y) 2 = familyCode y.remote ∧ byteAt (sessionBody index y) 3 = y.localId
      ∧ beNat (sessionBody index y) 4 2 = y.localPort ∧ beNat (sessionBody index y) 6 2 = y.remotePort := by
    simp [sessionBody_eq, sessionHeader, byteAt_toBytes_after, byteAt_toBytes_first, boolCode_lt, familyCode_lt,
      beNat_toBytes_after, beNat_toBytes_of_lt, Nat.lt_succ_of_le, hlp, hrp, show y.localId < 256 by omega]
  have number := beNat_sessionBody_fields index y
  have byte : ∀ j, byteAt (sessionBody index y) (j + 24) = byteAt (sessionFields y ++ tsBytes y.ts) j := fun j => by
    simpa only [byteAt_eq_beNat] using number j 1
  have words : macAt (sessionBody index y) 24 = y.nextHop ∧ v4At (sessionBody index y) 30 = y.snd
      ∧ v4At (sessionBody index y) 34 = y.rcv
      ∧ BitVec.ofNat 16 (beNat (sessionBody index y) 38 2) = y.window := by
    rw [macAt, v4At, v4At, number 0, number 6, number 10, number 14]
    simp [sessionFields, macBytes, beNat_toBytes_after, ofNat_beNat_toBytes]
  have counts : beNat (sessionBody index y) 40 4 = y.idle ∧ beNat (sessionBody index y) 44 2 = y.retry
      ∧ byteAt (sessionBody index y) 46 = y.missLimit ∧ byteAt (sessionBody index y) 47 = y.dataCls
      ∧ byteAt (sessionBody index y) 48 = y.endCls ∧ byteAt (sessionBody index y) 49 = y.deadCls := by
    rw [number 16, number 20, byte 22, byte 23, byte 24, byte 25]
    simp [sessionFields, macBytes, beNat_toBytes_after, beNat_toBytes_of_lt, byteAt_toBytes_after,
      byteAt_toBytes_first, show y.idle < 4294967296 by omega, show y.retry < 65536 by omega,
      show y.missLimit < 256 by omega, show y.dataCls < 256 by omega, show y.endCls < 256 by omega,
      show y.deadCls < 256 by omega]
  obtain ⟨hnext, hsnd, hrcv, hwindow⟩ := words
  obtain ⟨hidle, hretry, hmiss, hdata, hend, hdead⟩ := counts
  obtain ⟨hvalid, hfamily, hlocal, hlport, hrport⟩ := header
  have remote : addrField (sessionBody index y) 2 8 = some y.remote :=
    addrField_addrFieldBytes hfamily fun n => beNat_sessionBody index y 0 n
  have ts : tsAt (sessionBody index y) = some y.ts := by
    rw [sessionBody_eq, ← List.append_assoc, ← List.append_assoc]
    exact tsAt_append_tsBytes (by simp) ht
  simp only [decodeSession, hvalid, hlocal, hlport, remote, hrport, hnext, hsnd, hrcv, hwindow, hidle, hretry, hmiss,
    hdata, hend, hdead, ts, yesNo_boolCode, clamp_of_mem hi, clamp_of_mem hr, clamp_of_mem hm,
    Option.bind_eq_bind, Option.bind_some]
  exact if_pos ⟨hid, hd, he, hk, hu⟩

/-- Settles O19: every field of a body reads back at its offset and passes its clamp or check. -/
theorem nameAndSessionBodiesReadBack : Obligations.NameAndSessionBodiesReadBack := by
  exact ⟨fun i e hl hw ht => ⟨length_nameBody i hl, decodeName_nameBody i hl hw ht⟩,
    fun i y hid hlp hrp hi hr hm hd he hk ht hu =>
      ⟨length_sessionBody i y, decodeSession_sessionBody i hid hlp hrp hi hr hm hd he hk ht hu⟩⟩

end nameAndSession
end Sys2Proof.Machine

namespace Sys2Proof.Machine

/-! ### A responder's judgement in guard (R51, R52, R125) -/

section responders
variable {s : State} {p : ParsedFrame} {i k : Nat} {e : MatchEntry}

/-- DSTID names an identity of a family: what the entry it reads says, the last one's end being invalid. -/
theorem namesIdentity_eq (s : State) (i : Nat) (v4 : Bool) :
    namesIdentity s.identities i v4 = ((s.identity i).valid && isV4 (s.identity i).addr == v4) := by
  cases h : s.identities[i]? <;>
    simp [namesIdentity, State.identity, List.getD_eq_getElem?_getD, h, Identity.powerOn]

/-- DSTID names a READY identity with a property. -/
theorem namesReady_eq (s : State) (i : Nat) (v4 : Bool) (q : Identity → Bool) :
    namesReady s.identities i v4 q =
      ((s.identity i).valid && isV4 (s.identity i).addr == v4 && (s.identity i).state == .ready
        && q (s.identity i)) := by
  rw [namesReady, namesIdentity_eq]
  cases h : s.identities[i]? <;>
    simp [State.identity, List.getD_eq_getElem?_getD, h, Identity.powerOn, Bool.and_assoc]

/-- A frame that its entry's responder declines in guard is left to the entry's fallback (R52). -/
theorem exec_classifyFrame_of_declined (hd : Decides s p k e) (hp : p.path = .guardPath)
    (hm : s.modeCtl.mode = .guard ∨ s.modeCtl.mode = .waking)
    (hj : carryOut k e p (s.hit k) = afterResponder k e p (.decline (s.hit k))) :
    exec .classifyFrame s = .next ((s.hit k).disposed k e p) := by
  have guarded : inGuard (s.hit k) = true := inGuard_eq_true_iff.2 hm
  rw [exec_classifyFrame_of_decides hd, endDrain_carryOut_of_inGuard guarded, hj]
  exact congrArg _ (applyFallback_of_inGuard hp guarded)

/-- A frame that its entry's responder disposes of in guard (R51). -/
theorem exec_classifyFrame_of_done {t : State} (hd : Decides s p k e)
    (hm : s.modeCtl.mode = .guard ∨ s.modeCtl.mode = .waking)
    (hj : carryOut k e p (s.hit k) = afterResponder k e p (.done t)) : exec .classifyFrame s = .next t := by
  have guarded : inGuard (s.hit k) = true := inGuard_eq_true_iff.2 hm
  rw [exec_classifyFrame_of_decides hd, endDrain_carryOut_of_inGuard guarded, hj]
  rfl

/-- A guard-path frame with a bad transport checksum is dropped and counted (R67, R80, R89). -/
theorem dropBadSum_of_guardPath (hp : p.path = .guardPath) (s : State) :
    dropBadSum p s = .done (bump .l4Badsum s) := by
  rw [dropBadSum, hp]
  rfl

/-- The two ends of an answer in guard: the lowest FREE slot is filled and the answer counted, or the answer is
skipped and counted (R125). -/
theorem exec_classifyFrame_of_answer {c : Counter} {v4 : Bool} {frame : BitVec 16 → Frame}
    (hd : Decides s p k e) (hp : p.path = .guardPath)
    (hm : s.modeCtl.mode = .guard ∨ s.modeCtl.mode = .waking)
    (hj : carryOut k e p (s.hit k) = afterResponder k e p (.done (answer p c v4 frame (s.hit k)))) :
    (∀ slot, freeSlot s = some slot →
        exec .classifyFrame s =
          .next (bump c ((s.hit k).queued slot .answer none v4 (frame s.reply.ipId))))
      ∧ (freeSlot s = none → exec .classifyFrame s = .next (bump .replySkipped (s.hit k))) := by
  have step := exec_classifyFrame_of_done hd hm hj
  refine ⟨fun slot hf => step.trans ?_, fun hf => step.trans ?_⟩
  · rw [answer_of_freeSlot (s := s.hit k) hp hf]
    rfl
  · rw [answer_of_noFreeSlot (s := s.hit k) hp hf]

end responders
end Sys2Proof.Machine

namespace Sys2Proof.Machine

/-! ### Echo requests and neighbour solicitations (O45) -/

section icmp
variable {s : State} {p : ParsedFrame} {k : Nat} {e : MatchEntry} {x : Identity} {src : Addr}

/-! #### The echo responder (R79 to R85) -/

theorem carryOut_of_answerEcho (ha : e.action = .answerEcho) :
    carryOut k e p s = afterResponder k e p (judgeEcho p s) := by
  simp only [carryOut, ha]

theorem isEchoRequest_of_kind (hok : p.fv.pstatus = .ok)
    (hk : (p.fv.l3kind = .ipv4 ∧ p.fv.proto = 1 ∧ p.fv.icmptype = 8)
      ∨ (p.fv.l3kind = .ipv6 ∧ p.fv.proto = 58 ∧ p.fv.icmptype = 128)) : isEchoRequest p.fv = true := by
  simpa [isEchoRequest, hok, and_assoc] using hk

/-- R81 and R82 together: what an echo request has to meet to be answered. -/
def EchoMeets (s : State) (p : ParsedFrame) : Prop :=
  echoAddressesMeet s p = true ∧ echoFits s.ctl.cfg (p.fv.l3kind == .ipv4) (p.fv.l4len + 8) = true

/-- A flag that agrees with the packet's family (R81). -/
theorem eq_beq_ipv4_iff {q : Bool} {l : L3Kind} : q = (l == .ipv4) ↔ (q = true ↔ l = .ipv4) := by
  rw [Bool.eq_iff_iff, beq_iff_eq]

theorem echoMeets_iff (s : State) (p : ParsedFrame) :
    EchoMeets s p ↔
      p.fv.dclass = .own ∧ (s.identity p.fv.dstid).valid = true
        ∧ (isV4 (s.identity p.fv.dstid).addr = true ↔ p.fv.l3kind = .ipv4)
        ∧ (s.identity p.fv.dstid).state = .ready ∧ (s.identity p.fv.dstid).answerEcho = true
        ∧ canReceive (sourceOf p.fv.l3kind p.bytes p.pos.l3) = true ∧ isGroupMac (macAt p.bytes 6) = false
        ∧ (if s.ctl.cfg.vid = 0 then 14 else 18) + (if p.fv.l3kind = .ipv4 then 20 else 40)
            + (p.fv.l4len + 8) ≤ 384 := by
  simp [EchoMeets, echoAddressesMeet, echoFits, namesReady_eq, eq_beq_ipv4_iff, Config.slotBytes, and_assoc]

section request
variable (hq : isEchoRequest p.fv = true) (hw : p.fv.frag = .whole)
include hq hw

/-- An echo request of a code other than 0 is declined (R80, check 2). -/
theorem judgeEcho_of_code (hc : byteAt p.bytes (p.pos.l4 + 1) ≠ 0) : judgeEcho p s = .decline s := by
  simp only [judgeEcho, hq, hw, hc, ne_eq, not_true_eq_false, not_false_eq_true, reduceCtorEq, if_true, if_false]

variable (hc : byteAt p.bytes (p.pos.l4 + 1) = 0)
include hc

/-- An echo request with a bad checksum is dropped (R80, check 3). -/
theorem judgeEcho_of_badSum (hs : echoSumGood p = false) : judgeEcho p s = dropBadSum p s := by
  simp only [judgeEcho, hq, hw, hc, hs, ne_eq, not_true_eq_false, reduceCtorEq, if_true, if_false]

/-- A good echo request that meets not all of R81 and R82 is declined. -/
theorem judgeEcho_of_not_meets (hs : echoSumGood p = true) (hm : ¬EchoMeets s p) :
    judgeEcho p s = .decline s := by
  simp only [judgeEcho, hq, hw, hc, hs, ne_eq, not_true_eq_false, reduceCtorEq, if_false]
  by_cases ha : echoAddressesMeet s p = true
  · have long : echoFits s.ctl.cfg (p.fv.l3kind == .ipv4) (p.fv.l4len + 8) = false :=
      Bool.eq_false_iff.2 fun hf => hm ⟨ha, hf⟩
    rw [if_neg (by simp [ha]), if_pos long]
  · rw [if_pos (Bool.eq_false_iff.2 ha)]

/-- A good echo request that meets R81 and R82 is answered (R83, R84). -/
theorem judgeEcho_of_meets (hs : echoSumGood p = true) (hm : EchoMeets s p) :
    judgeEcho p s =
      .done
        (answer p .answerEcho (p.fv.l3kind == .ipv4)
          (fun id => echoReplyFrame s.ctl.cfg id (s.identity p.fv.dstid) p) s) := by
  obtain ⟨addresses, fits⟩ := hm
  simp only [judgeEcho, hq, hw, hc, hs, addresses, fits, ne_eq, not_true_eq_false, reduceCtorEq, if_false]

end request

/-! #### Neighbour solicitations (R67, R70) -/

/-- A frame of neighbour discovery with a bad checksum is dropped (R67). -/
theorem judgeNd_of_badSum {kind : AddressKind} (hw : p.fv.frag = .whole) (hl : 24 ≤ p.fv.l4len + 8)
    (hs : transportGood p (p.fv.l4len + 8) 58 = false) : judgeNd kind p s = dropBadSum p s := by
  rw [judgeNd, if_neg (by simp [hw, hl]), if_pos hs]

/-- A whole frame of neighbour discovery that is too short, or has a good checksum and is not accepted, is
declined (R67). -/
theorem judgeNd_of_not_accepted {kind : AddressKind} (hw : p.fv.frag = .whole)
    (hs : p.fv.l4len + 8 < 24 ∨ transportGood p (p.fv.l4len + 8) 58 = true) (hn : ¬AcceptedNd p) :
    judgeNd kind p s = .decline s := by
  unfold judgeNd
  split
  · rfl
  rename_i long
  have long : 24 ≤ p.fv.l4len + 8 := by simpa [hw] using long
  have sum := hs.resolve_left (Nat.not_lt.2 long)
  rw [if_neg (by simp [sum])]
  split
  · rfl
  rename_i limits
  split
  · rfl
  rename_i target
  obtain ⟨hops, code⟩ := not_or.1 limits
  exact absurd ⟨hw, long, sum, Decidable.of_not_not hops, Decidable.of_not_not code, Bool.eq_false_iff.2 target⟩ hn

/-- An accepted solicitation without a conflict is answered or declined by R70. -/
theorem judgeNd_of_noConflict (ha : AcceptedNd p) (hc : ndConflict s .solicitation p = none) :
    judgeNd .solicitation p s = answerSolicitation p s := by
  obtain ⟨whole, length, sum, hops, code, target⟩ := ha
  rw [judgeNd, if_neg (by simp [whole, length]), if_neg (by simp [sum]), if_neg (by simp [hops, code]),
    if_neg (by simp [target]), hc]
  exact if_pos rfl

theorem sourceOf_ipv6 (b : Frame) (l3 : Nat) : sourceOf .ipv6 b l3 = .v6 (v6At b (l3 + 8)) := rfl

/-- The unspecified address of IPv6 is 0. -/
theorem eq_zero_of_isUnspecified {a : BitVec 128} (h : isUnspecified (.v6 a) = true) : Addr.v6 a = .v6 0 :=
  congrArg Addr.v6 (eq_of_beq h)

/-- A solicitation shows a conflict only as a duplicate-address probe from another station for an identity
(R71). -/
theorem ndConflict_solicitation_eq_none
    (h : ¬(sourceOf .ipv6 p.bytes p.pos.l3 = .v6 0 ∧ macAt p.bytes 6 ≠ s.ctl.cfg.hostMac
      ∧ (s.identity p.fv.dstid).valid = true ∧ isV4 (s.identity p.fv.dstid).addr = false)) :
    ndConflict s .solicitation p = none := by
  unfold ndConflict
  split
  · rfl
  rename_i foreign
  obtain ⟨mac, named⟩ := not_or.1 foreign
  rw [if_neg (by decide), if_neg]
  intro unspecified
  have named : (s.identity p.fv.dstid).valid = true ∧ isV4 (s.identity p.fv.dstid).addr = false := by
    simpa [namesIdentity_eq] using named
  rw [sourceOf_ipv6] at unspecified h
  exact h ⟨eq_zero_of_isUnspecified unspecified, mac, named⟩

/-- R70's conditions on the addresses: the source can receive, and DSTID names a READY V6 identity that answers. -/
def SolicitationMeets (s : State) (p : ParsedFrame) : Prop :=
  canReceive (sourceOf .ipv6 p.bytes p.pos.l3) = true
    ∧ namesReady s.identities p.fv.dstid false Identity.answerResolution = true

theorem solicitationMeets_iff (s : State) (p : ParsedFrame) :
    SolicitationMeets s p ↔
      canReceive (sourceOf .ipv6 p.bytes p.pos.l3) = true ∧ (s.identity p.fv.dstid).valid = true
        ∧ isV4 (s.identity p.fv.dstid).addr = false ∧ (s.identity p.fv.dstid).state = .ready
        ∧ (s.identity p.fv.dstid).answerResolution = true := by
  simp [SolicitationMeets, namesReady_eq, and_assoc]

theorem answerSolicitation_of_not_meets (h : ¬SolicitationMeets s p) : answerSolicitation p s = .decline s :=
  if_neg h

/-- A solicitation that meets R70 is answered from the identity to the station that solicits. -/
theorem answerSolicitation_of_meets {ip sender : BitVec 128} (h : SolicitationMeets s p)
    (hip : (s.identity p.fv.dstid).addr = .v6 ip) (hs : sourceOf .ipv6 p.bytes p.pos.l3 = .v6 sender) :
    answerSolicitation p s =
      .done
        (answer p .answerNd false
          (fun _ => advertisementFrame s.ctl.cfg (macAt p.bytes 6) ip sender solicitedOverride) s) := by
  obtain ⟨receives, ready⟩ := h
  rw [answerSolicitation, if_pos ⟨receives, ready⟩, hip, hs, v6Of, v6Of]

/-- The advertisement that answers a solicitation, its message written out (R70). -/
theorem advertisementFrame_solicited (c : ConfigRecord) (dst : Mac) (ip sender : BitVec 128) :
    advertisementFrame c dst ip sender solicitedOverride =
      ipFrame c 0 dst 255 58 (.v6 ip) (.v6 sender)
        (withChecksum (pseudoHeader (.v6 ip) (.v6 sender) 32 58) [136, 0]
          ([0x60, 0, 0, 0] ++ toBytes 16 ip.toNat ++ [2, 1] ++ macBytes c.hostMac) fun n => n) := by
  have flags : toBytes 1 solicitedOverride ++ toBytes 3 0 = [0x60, 0, 0, 0] := by decide
  have option : toBytes 1 2 ++ toBytes 1 1 = [2, 1] := by decide
  have type : toBytes 1 136 ++ toBytes 1 0 = [136, 0] := by decide
  rw [← flags, ← option, ← type]
  simp only [advertisementFrame, List.append_assoc]

/-- Settles O45: the checks in the order of each responder, each clause one of its ends. -/
theorem icmpRequestsAreAnswered : Obligations.IcmpRequestsAreAnswered := by
  intro s p k len e x src dst m from' good hd hp hmode hok hw hx hsrc hdst hlen hslice hfrom hgood
  subst hx hsrc hdst hlen hslice hfrom
  constructor
  · intro meets ha hk hmeets
    have request := isEchoRequest_of_kind hok hk
    have judged : carryOut k e p (s.hit k) = afterResponder k e p (judgeEcho p (s.hit k)) :=
      carryOut_of_answerEcho ha
    have sum : echoSumGood p = good := hgood.symm
    have meets_iff : meets ↔ EchoMeets (s.hit k) p := hmeets.trans (echoMeets_iff (s.hit k) p).symm
    refine ⟨fun hc => ?_, fun hc hg => ?_, fun hc hg hn => ?_, fun hc hg hm => ?_⟩
    · rw [judgeEcho_of_code request hw hc] at judged
      exact exec_classifyFrame_of_declined hd hp hmode judged
    · rw [judgeEcho_of_badSum request hw hc (sum.trans hg), dropBadSum_of_guardPath hp] at judged
      exact exec_classifyFrame_of_done hd hmode judged
    · rw [judgeEcho_of_not_meets request hw hc (sum.trans hg) (mt meets_iff.2 hn)] at judged
      exact exec_classifyFrame_of_declined hd hp hmode judged
    · rw [judgeEcho_of_meets request hw hc (sum.trans hg) (meets_iff.1 hm)] at judged
      obtain ⟨-, -, family, -⟩ := hmeets.1 hm
      have family : isV4 (s.identity p.fv.dstid).addr = (p.fv.l3kind == .ipv4) :=
        eq_beq_ipv4_iff.2 family
      rw [family]
      exact exec_classifyFrame_of_answer hd hp hmode judged
  · intro answers conflict ha hl h58 ht hanswers hconflict
    have sum : transportGood p (p.fv.l4len + 8) 58 = good := by
      rw [hgood, if_neg (by simp [hl])]
      rfl
    have sorted : addressKind p.fv = some .solicitation := by simp [addressKind, hok, hl, h58, ht]
    have judged : carryOut k e p (s.hit k) = afterResponder k e p (judgeNd .solicitation p (s.hit k)) := by
      rw [carryOut_of_answerAddress ha, judgeAddress_of_nd sorted (by decide)]
    rw [hl] at hanswers hconflict
    refine ⟨fun h24 hg => ?_, fun hg hna hnc => ?_, fun ip sender han hip hsender => ?_⟩
    · rw [judgeNd_of_badSum hw h24 (sum.trans hg), dropBadSum_of_guardPath hp] at judged
      exact exec_classifyFrame_of_done hd hmode judged
    · have declined : judgeNd .solicitation p (s.hit k) = .decline (s.hit k) := by
        by_cases accepted : AcceptedNd p
        · have quiet : ndConflict (s.hit k) .solicitation p = none :=
            ndConflict_solicitation_eq_none fun h => hnc (hconflict.2 ⟨accepted, h⟩)
          rw [judgeNd_of_noConflict accepted quiet]
          exact answerSolicitation_of_not_meets fun h =>
            hna (hanswers.2 ⟨accepted, (solicitationMeets_iff _ p).1 h⟩)
        · exact judgeNd_of_not_accepted hw (sum ▸ hg) accepted
      rw [declined] at judged
      exact exec_classifyFrame_of_declined hd hp hmode judged
    · obtain ⟨accepted, meets⟩ := hanswers.1 han
      rw [hl] at hsender
      have quiet : ndConflict (s.hit k) .solicitation p = none :=
        ndConflict_solicitation_eq_none fun h => by
          have received := meets.1
          rw [h.1] at received
          exact absurd received (by decide)
      have answered := answerSolicitation_of_meets (s := s.hit k) ((solicitationMeets_iff _ p).2 meets) hip hsender
      rw [judgeNd_of_noConflict accepted quiet, answered, advertisementFrame_solicited] at judged
      exact exec_classifyFrame_of_answer hd hp hmode judged

end icmp
end Sys2Proof.Machine

namespace Sys2Proof.Machine

/-! ### A query's message read (R90, R91) -/

section query
variable {b c name tail : Frame} {id f0 f1 extra qtype qclass : Nat}

/-- A name in wire form is taken whole from the front of what follows it (R87, R91). -/
theorem takeName_of_labelsClosed {fuel bound : Nat} (hf : fuel ≤ bound) (h : labelsClosed fuel b = true) :
    takeName bound (b ++ c) = some b := by
  induction fuel generalizing bound b with
  | zero => simp [labelsClosed] at h
  | succ fuel ih =>
    obtain ⟨bound, rfl⟩ : ∃ k, bound = k + 1 := ⟨bound - 1, by omega⟩
    cases b with
    | nil => simp [labelsClosed] at h
    | cons n rest =>
      rw [labelsClosed] at h
      split at h
      · rename_i zero
        obtain rfl : rest = [] := by simpa using h
        rw [List.cons_append, takeName, if_pos zero, zero]
      · rename_i label
        split at h
        · rename_i fits
          obtain ⟨short, within⟩ := fits
          have longer : n.toNat ≤ (rest ++ c).length := by
            rw [List.length_append]
            omega
          rw [List.cons_append, takeName, if_neg label, if_pos ⟨short, longer⟩,
            List.drop_append_of_le_length within, ih (by omega) h, Option.map_some,
            List.take_append_of_le_length within, List.take_append_drop]
        · exact absurd h (by decide)

/-- The twelve bytes of a query's header with one question (R90): id, two flag bytes, counts. -/
def queryHeader (id f0 f1 extra : Nat) : Frame :=
  toBytes 2 id ++ (toBytes 1 f0 ++ (toBytes 1 f1 ++ (toBytes 2 1 ++ (toBytes 2 0 ++ (toBytes 2 0
    ++ toBytes 2 extra)))))

/-- A query of one question and what follows it (R90, R91). -/
def queryMessage (id f0 f1 extra : Nat) (name : Frame) (qtype qclass : Nat) (tail : Frame) : Frame :=
  queryHeader id f0 f1 extra ++ (name ++ (toBytes 2 qtype ++ (toBytes 2 qclass ++ tail)))

theorem queryMessage_eq (id f0 f1 extra : Nat) (name : Frame) (qtype qclass : Nat) (tail : Frame) :
    queryMessage id f0 f1 extra name qtype qclass tail =
      toBytes 2 id ++ toBytes 1 f0 ++ toBytes 1 f1 ++ toBytes 2 1 ++ toBytes 2 0 ++ toBytes 2 0
        ++ toBytes 2 extra ++ name ++ toBytes 2 qtype ++ toBytes 2 qclass ++ tail := by
  simp only [queryMessage, queryHeader, List.append_assoc]

@[simp] theorem length_queryHeader (id f0 f1 extra : Nat) : (queryHeader id f0 f1 extra).length = 12 := by
  simp [queryHeader]

theorem beNat_queryMessage_id (hid : id < 2 ^ 16) :
    beNat (queryMessage id f0 f1 extra name qtype qclass tail) 0 2 = id := by
  rw [queryMessage, queryHeader, List.append_assoc, beNat_toBytes_of_lt hid]

theorem queryHeaderMeets_queryMessage (hf : f0 < 8) :
    queryHeaderMeets (queryMessage id f0 f1 extra name qtype qclass tail) = true := by
  have long : 12 ≤ (queryMessage id f0 f1 extra name qtype qclass tail).length := by
    simp [queryMessage]
  have header : byteAt (queryMessage id f0 f1 extra name qtype qclass tail) 2 = f0
      ∧ beNat (queryMessage id f0 f1 extra name qtype qclass tail) 4 2 = 1
      ∧ beNat (queryMessage id f0 f1 extra name qtype qclass tail) 6 2 = 0
      ∧ beNat (queryMessage id f0 f1 extra name qtype qclass tail) 8 2 = 0 := by
    simp [queryMessage, queryHeader, byteAt_toBytes_after, byteAt_toBytes_first, beNat_toBytes_after,
      beNat_toBytes_of_lt, show f0 < 256 by omega]
  obtain ⟨flags, questions, answers, authorities⟩ := header
  simp [queryHeaderMeets, flags, questions, answers, authorities, long, Nat.div_eq_of_lt hf]

/-- The question of such a message, of a well-formed name, a type that is answered and class IN, with the
unicast-reply bit or without (R91). -/
theorem readQuestion_queryMessage (hn : nameWellFormed name = true) (ht : qtype ∈ [1, 28, 255])
    (hc : qclass = 1 ∨ qclass = 0x8001) :
    readQuestion (queryMessage id f0 f1 extra name qtype qclass tail) =
      some ⟨name, qtype, decide (qclass = 0x8001)⟩ := by
  obtain ⟨size, closed⟩ : (3 ≤ name.length ∧ name.length ≤ 64) ∧ labelsClosed 64 name = true := by
    simpa [nameWellFormed] using hn
  have types : qtype = 1 ∨ qtype = 28 ∨ qtype = 255 := by simpa using ht
  have taken : takeName 65 ((queryMessage id f0 f1 extra name qtype qclass tail).drop 12) = some name := by
    rw [queryMessage, List.drop_left' (length_queryHeader ..)]
    exact takeName_of_labelsClosed (by decide) closed
  have behind : ∀ i n, beNat (queryMessage id f0 f1 extra name qtype qclass tail) (12 + name.length + i) n =
      beNat (toBytes 2 qtype ++ (toBytes 2 qclass ++ tail)) i n := fun i n => by
    rw [queryMessage, beNat_append_of_le (by rw [length_queryHeader]; omega), length_queryHeader,
      beNat_append_of_le (by omega)]
    congr 1
    omega
  have qtypeRead : beNat (queryMessage id f0 f1 extra name qtype qclass tail) (12 + name.length) 2 = qtype :=
    (behind 0 2).trans (beNat_toBytes_of_lt (by omega) _)
  have qclassRead :
      beNat (queryMessage id f0 f1 extra name qtype qclass tail) (12 + name.length + 2) 2 = qclass :=
    (behind 2 2).trans ((beNat_toBytes_after (Nat.le_refl _)).trans (beNat_toBytes_of_lt (by omega) _))
  have room : 12 + name.length + 4 ≤ (queryMessage id f0 f1 extra name qtype qclass tail).length := by
    simp only [queryMessage, List.length_append, length_queryHeader, length_toBytes]
    omega
  have unicast : decide (0x8000 ≤ qclass) = decide (qclass = 0x8001) := by
    rcases hc with rfl | rfl <;> rfl
  simp only [readQuestion, taken, qtypeRead, qclassRead, unicast]
  exact if_pos ⟨by omega, size.2, room, types, by omega⟩

end query
end Sys2Proof.Machine
namespace Sys2Proof.Machine

/-! ### Name queries (O46) -/

section nameQueries
variable {s : State} {p : ParsedFrame} {i j k : Nat} {e : MatchEntry} {n : NameEntry} {v4 direct : Bool} {q : Question}

/-! #### The parts of an answer (R93, R95, R96) -/

theorem carryOut_of_answerName (ha : e.action = .answerName) :
    carryOut k e p s = afterResponder k e p (judgeName p s) := by
  simp only [carryOut, ha]

/-- For the types that are answered, an address fits by its family: not AAAA for V4, not A for V6 (R93). -/
theorem fitsType_eq {qtype : Nat} (ht : qtype ∈ [1, 28, 255]) (a : Addr) :
    fitsType qtype a = if isV4 a then qtype != 28 else qtype != 1 := by
  have types : qtype = 1 ∨ qtype = 28 ∨ qtype = 255 := by simpa using ht
  rcases types with rfl | rfl | rfl <;> cases a <;> rfl

/-- The records of an entry: its READY identities of a fitting family, at most four (R93). -/
theorem answerAddresses_eq {qtype : Nat} (hl : s.identities.length = 12) (ht : qtype ∈ [1, 28, 255])
    (n : NameEntry) :
    answerAddresses s.identities n qtype =
      (((List.range 12).filter fun i =>
          n.idset.getLsbD i && (s.identity i).valid && (s.identity i).state == .ready
            && if isV4 (s.identity i).addr then qtype != 28 else qtype != 1).map
        fun i => (s.identity i).addr).take 4 := by
  have chosen : (fun i => n.idset.getLsbD i && namesReady s.identities i (isV4 (s.identity i).addr) fun y =>
        fitsType qtype y.addr) =
      fun i => n.idset.getLsbD i && (s.identity i).valid && (s.identity i).state == .ready
        && if isV4 (s.identity i).addr then qtype != 28 else qtype != 1 := by
    funext i
    rw [namesReady_eq, fitsType_eq ht, beq_self_eq_true, Bool.and_true]
    simp only [Bool.and_assoc]
  rw [answerAddresses, hl, ← chosen]
  rfl

/-- No READY identity of the family gives no source to a group query's answer (R95). -/
theorem firstReady_eq_none {ids : List Identity}
    (h : ∀ y ∈ ids, y.valid = true → y.state = .ready → isV4 y.addr ≠ v4) : firstReady ids v4 = none := by
  simpa [firstReady] using h

/-- The lowest READY identity of the family is the source of a group query's answer (R95). -/
theorem firstReady_eq_some (hv : (s.identity i).valid = true) (hr : (s.identity i).state = .ready)
    (ha : isV4 (s.identity i).addr = v4)
    (hlow : ∀ h < i, (s.identity h).valid = true → (s.identity h).state = .ready →
      isV4 (s.identity h).addr ≠ v4) : firstReady s.identities v4 = some (s.identity i).addr := by
  have hi : i < s.identities.length := Nat.lt_of_not_le fun h => by
    have past : s.identity i = Identity.powerOn := by
      simp [State.identity, List.getElem?_eq_none h]
    rw [past] at hv
    exact absurd hv (by decide)
  have read : ∀ h (hh : h < s.identities.length), s.identity h = s.identities[h] := fun h hh =>
    identity_of_getElem? (List.getElem?_eq_getElem hh)
  rw [read i hi] at hv hr ha ⊢
  have found : s.identities.find? (fun y => y.valid && y.state == .ready && isV4 y.addr == v4) =
      some s.identities[i] :=
    List.find?_eq_some_iff_getElem.2 ⟨by simp [hv, hr, ha], i, hi, rfl, fun h hh => by
      have low := hlow h hh
      rw [read h (Nat.lt_trans hh hi)] at low
      refine (Bool.not_eq_true' _).mpr (Bool.eq_false_iff.2 fun hit => ?_)
      simp only [Bool.and_eq_true, beq_iff_eq] at hit
      obtain ⟨⟨valid, ready⟩, family⟩ := hit
      exact low valid ready family⟩
  rw [firstReady, found, Option.map_some]

/-- A good querier that asks for an answer of its own is its target (R95). -/
theorem answerTarget_of_unicast {c : ConfigRecord} (hu : q.unicast = true ∨ p.fv.sport ≠ c.namePort)
    (hr : canReceive (sourceOf p.fv.l3kind p.bytes p.pos.l3) = true)
    (hg : isGroupMac (macAt p.bytes 6) = false) :
    answerTarget c v4 p q =
      some ⟨macAt p.bytes 6, sourceOf p.fv.l3kind p.bytes p.pos.l3, p.fv.sport⟩ := by
  rw [answerTarget, if_pos hu, if_pos (by simp [hr, hg])]

/-- A querier that cannot receive has no answer of its own (R95). -/
theorem answerTarget_eq_none {c : ConfigRecord} (hu : q.unicast = true ∨ p.fv.sport ≠ c.namePort)
    (h : canReceive (sourceOf p.fv.l3kind p.bytes p.pos.l3) = false ∨ isGroupMac (macAt p.bytes 6) = true) :
    answerTarget c v4 p q = none := by
  rw [answerTarget, if_pos hu, if_neg]
  rcases h with h | h <;> simp [h]

/-- Any other query is answered to the group (R95). -/
theorem answerTarget_of_group {c : ConfigRecord} (hu : q.unicast = false) (hp : p.fv.sport = c.namePort) :
    answerTarget c v4 p q = some ⟨groupMac (groupOf c v4), groupOf c v4, c.namePort⟩ :=
  if_neg (by simp [hu, hp])

/-- A name answer to a guard-path frame with a FREE slot: QUEUED there, ANSWER_NAME and the entry's count moved. -/
theorem answerName_of_freeSlot {frame : BitVec 16 → Frame} {slot : Nat} (hp : p.path = .guardPath)
    (hf : freeSlot s = some slot) (hn : s.names[j]? = some n) :
    answerName p j v4 frame s =
      bump .answerName
        { s.queued slot .answer none v4 (frame s.reply.ipId) with
          names := s.names.set j { n with answers := satBump n.answers } } := by
  have built : buildReply .guardPath .answer none v4 frame s =
      some (s.queued slot .answer none v4 (frame s.reply.ipId)) := by
    rw [buildReply, hf, Option.map_some]
    exact congrArg some (fillSlot_line ..)
  simp only [answerName, hp, built, reduceCtorEq, if_false]
  exact congrArg
    (fun names => bump .answerName { s.queued slot .answer none v4 (frame s.reply.ipId) with names := names })
    (modify_eq_set hn)

/-- A name answer to a guard-path frame without a FREE slot is skipped and counted. -/
theorem answerName_of_noFreeSlot {frame : BitVec 16 → Frame} (hp : p.path = .guardPath)
    (hf : freeSlot s = none) : answerName p j v4 frame s = bump .replySkipped s := by
  simp only [answerName, buildReply, hf, Option.map_none, skipReply, hp]
  rfl

/-! #### The name responder's ends (R89 to R96) -/

/-- The address conditions and the transport of a frame that the name responder reads (R89). -/
def AsksNames (s : State) (p : ParsedFrame) : Prop :=
  p.fv.pstatus = .ok ∧ (p.fv.l3kind = .ipv4 ∨ p.fv.l3kind = .ipv6) ∧ p.fv.proto = 17 ∧ p.fv.frag = .whole
    ∧ p.fv.dport = s.ctl.cfg.namePort
    ∧ (namesReady s.identities p.fv.dstid (p.fv.l3kind == .ipv4) (fun _ => true) = true
      ∨ destOf p.fv.l3kind p.bytes p.pos.l3 = groupOf s.ctl.cfg (p.fv.l3kind == .ipv4))

/-- Such a frame is dropped for a bad checksum, or judged by its message (R89, step 4). -/
theorem judgeName_of_asksNames (h : AsksNames s p) :
    judgeName p s =
      if udpSumGood p = false then dropBadSum p s
      else judgeQuery (p.fv.l3kind == .ipv4)
        (namesReady s.identities p.fv.dstid (p.fv.l3kind == .ipv4) fun _ => true) p s := by
  obtain ⟨hok, hl, h17, hw, hport, reached⟩ := h
  have family : ¬(p.fv.l3kind ≠ .ipv4 ∧ p.fv.l3kind ≠ .ipv6) := fun ⟨h4, h6⟩ => hl.elim h4 h6
  have reached : (namesReady s.identities p.fv.dstid (p.fv.l3kind == .ipv4) (fun _ => true)
      || destOf p.fv.l3kind p.bytes p.pos.l3 == groupOf s.ctl.cfg (p.fv.l3kind == .ipv4)) = true := by
    simpa using reached
  rw [judgeName, if_neg (by simp [hok, h17, hw, family]), if_neg (by simp [hport]),
    if_neg fun missed => absurd (reached.symm.trans missed) (by decide)]

section question
variable (hm : queryHeaderMeets (slice p.bytes p.pos.pay p.fv.l4len) = true)
  (hq : readQuestion (slice p.bytes p.pos.pay p.fv.l4len) = some q)
include hm hq

/-- A question for no entry's name is declined (R92). -/
theorem judgeQuery_of_noName (hn : matchingName s.names q.name = none) :
    judgeQuery v4 direct p s = .decline s := by
  simp [judgeQuery, hm, hq, hn]

variable (hj : matchingName s.names q.name = some j) (hn : s.names[j]? = some n)
include hj hn

/-- A question for an entry without a record, a target or a source is declined (R93, R95). -/
theorem judgeQuery_of_noAnswer
    (h : answerAddresses s.identities n q.qtype = [] ∨ answerTarget s.ctl.cfg v4 p q = none
      ∨ answerSource s v4 direct p = none) : judgeQuery v4 direct p s = .decline s := by
  have entry : s.names.getD j NameEntry.powerOn = n := by simp [hn]
  rw [judgeQuery, if_neg (by simp [hm])]
  simp only [hq, hj, entry]
  split
  · rfl
  · rename_i records
    rcases h with h | h | h
    · exact absurd h records
    · rw [h]
    · rw [h]
      cases answerTarget s.ctl.cfg v4 p q <;> rfl

/-- A question for an entry with a record, a target and a source is answered (R94, R95). -/
theorem judgeQuery_of_answer {t : AnswerTarget} {source : Addr}
    (hr : answerAddresses s.identities n q.qtype ≠ []) (ht : answerTarget s.ctl.cfg v4 p q = some t)
    (hs : answerSource s v4 direct p = some source) :
    judgeQuery v4 direct p s =
      .done
        (answerName p j v4
          (fun id =>
            ipFrame s.ctl.cfg id t.mac s.ctl.cfg.hopLimit 17 source t.ip
              (udpDatagram source t.ip s.ctl.cfg.namePort t.port
                (nameMessage (beNat (slice p.bytes p.pos.pay p.fv.l4len) 0 2) q.name n.ttl
                  (answerAddresses s.identities n q.qtype))))
          s) := by
  have entry : s.names.getD j NameEntry.powerOn = n := by simp [hn]
  rw [judgeQuery, if_neg (by simp [hm])]
  simp only [hq, hj, entry, hr, if_false, ht, hs]

end question

/-- Settles O46: the frame asks for a name, its message reads back, and each clause is an end of the judgement. -/
theorem nameQueriesAreAnswered : Obligations.NameQueriesAreAnswered := by
  intro s p k id f0 f1 extra qtype qclass e v4 direct good src name tail records sizes hd hp ha hmode hok hl h17 hw
    hport hv4 hsrc hdirect hreach hgood hslice hid hf0 hname hqtype hqclass hrecords
  obtain ⟨-, identities, -⟩ := sizes
  subst hsrc
  have family : v4 = (p.fv.l3kind == .ipv4) := hv4
  have ready : namesReady (s.hit k).identities p.fv.dstid v4 (fun _ => true) = direct := by
    rw [namesReady_eq, hdirect, Bool.and_true]
    rfl
  have asked : AsksNames (s.hit k) p := by
    refine ⟨hok, hl, h17, hw, hport, ?_⟩
    rw [← family, ready]
    exact hreach
  have sum : udpSumGood p = good := by
    rw [hgood, family]
    rfl
  have message : slice p.bytes p.pos.pay p.fv.l4len = queryMessage id f0 f1 extra name qtype qclass tail :=
    hslice.trans (queryMessage_eq ..).symm
  have header : queryHeaderMeets (slice p.bytes p.pos.pay p.fv.l4len) = true := by
    rw [message]
    exact queryHeaderMeets_queryMessage hf0
  have question : readQuestion (slice p.bytes p.pos.pay p.fv.l4len) =
      some ⟨name, qtype, decide (qclass = 0x8001)⟩ := by
    rw [message]
    exact readQuestion_queryMessage hname hqtype hqclass
  have judged : carryOut k e p (s.hit k) = afterResponder k e p (judgeName p (s.hit k)) :=
    carryOut_of_answerName ha
  rw [judgeName_of_asksNames asked, sum, ← family, ready] at judged
  have judgedGood : good = true →
      carryOut k e p (s.hit k) = afterResponder k e p (judgeQuery v4 direct p (s.hit k)) := fun hg => by
    rwa [if_neg (by simp [hg])] at judged
  refine ⟨fun hg => ?_, fun hg hnone => ?_, fun j n hg hj hn => ?_⟩
  · rw [if_pos hg, dropBadSum_of_guardPath hp] at judged
    exact exec_classifyFrame_of_done hd hmode judged
  · have judged := judgedGood hg
    rw [judgeQuery_of_noName (s := s.hit k) header question hnone] at judged
    exact exec_classifyFrame_of_declined hd hp hmode judged
  have judged := judgedGood hg
  have found : answerAddresses (s.hit k).identities n qtype = records n :=
    (answerAddresses_eq identities hqtype n).trans (hrecords n).symm
  have declined : answerAddresses (s.hit k).identities n qtype = []
        ∨ answerTarget s.ctl.cfg v4 p ⟨name, qtype, decide (qclass = 0x8001)⟩ = none
        ∨ answerSource (s.hit k) v4 direct p = none →
      exec .classifyFrame s = .next ((s.hit k).disposed k e p) := fun h => by
    rw [judgeQuery_of_noAnswer (s := s.hit k) header question hj hn h] at judged
    exact exec_classifyFrame_of_declined hd hp hmode judged
  refine ⟨fun hr => declined (.inl (found.trans hr)), fun hu hc => declined (.inr (.inl ?_)),
    fun hdir hnone => declined (.inr (.inr ?_)), fun mac ip source port hr htarget hsource => ?_⟩
  · exact answerTarget_eq_none (by simpa using hu) hc
  · rw [answerSource, hdir]
    exact firstReady_eq_none hnone
  · have target : answerTarget s.ctl.cfg v4 p ⟨name, qtype, decide (qclass = 0x8001)⟩ =
        some ⟨mac, ip, port⟩ := by
      rcases htarget with ⟨hu, hc, hg, rfl, rfl, rfl⟩ | ⟨rfl, hport, rfl, rfl, rfl⟩
      · exact answerTarget_of_unicast (by simpa using hu) hc hg
      · exact answerTarget_of_group rfl hport
    have sent : answerSource (s.hit k) v4 direct p = some source := by
      rcases hsource with ⟨rfl, rfl⟩ | ⟨rfl, i, hv, hready, hfam, rfl, hlow⟩
      · rfl
      · exact firstReady_eq_some (s := s.hit k) hv hready hfam hlow
    rw [judgeQuery_of_answer (s := s.hit k) header question hj hn (by rwa [found]) target sent, found, message,
      beNat_queryMessage_id hid] at judged
    have step := exec_classifyFrame_of_done hd hmode judged
    refine ⟨fun slot hf => step.trans ?_, fun hf => step.trans ?_⟩
    · rw [answerName_of_freeSlot (s := s.hit k) hp hf hn]
      rfl
    · rw [answerName_of_noFreeSlot (s := s.hit k) hp hf]

end nameQueries
end Sys2Proof.Machine

namespace Sys2Proof.Machine

/-! ### A session's expiry (O31) -/

section expiry
variable {s t u : State} {i : Nat} {x : ExpiryNotice} {c : Instr}

/-- A notice taken by the owner of its timer. -/
def State.noticed (s : State) (x : ExpiryNotice) : State :=
  { s with bank := { s.bank with notices := s.bank.notices.erase x } }

/-- The owner's answer on its way to the timer bank (R147). -/
def State.answering (s : State) (i : Nat) : State :=
  { s with bank := { s.bank with answers := s.bank.answers ++ [i] } }

/-! #### A probe due (R109, R126) -/

theorem probeDue_of_waiting (h : i ∈ s.probes) : probeDue i s = s := if_pos (by simpa using h)

theorem probeDue_of_freeSlot {k : Nat} (h : i ∉ s.probes) (hf : freeSlot s = some k) :
    probeDue i s = s.probeBuilt k i := by
  rw [probeDue, if_neg (by simpa using h), hf]
  exact buildProbe_eq_probeBuilt k i s

theorem probeDue_of_noFreeSlot (h : i ∉ s.probes) (hf : freeSlot s = none) :
    probeDue i s = { s with probes := s.probes ++ [i] } := by
  rw [probeDue, if_neg (by simpa using h), hf]
  rfl

/-- The three ends of a command that has a probe due and answers the bank, in the state answered already. -/
theorem exec_of_probeDue (h : exec c s = .next ((probeDue i t).answering i)) (hu : u = t.answering i)
    (hp : t.probes = s.probes) (hr : t.reply = s.reply) :
    (i ∈ s.probes → exec c s = .next u)
      ∧ (∀ k, i ∉ s.probes → freeSlot s = some k → exec c s = .next (u.probeBuilt k i))
      ∧ (i ∉ s.probes → freeSlot s = none → exec c s = .next { u with probes := s.probes ++ [i] }) := by
  have free : freeSlot s = freeSlot t := by rw [freeSlot, freeSlot, hr]
  subst hu
  rw [h, ← hp, free]
  refine ⟨fun hi => ?_, fun k hi hf => ?_, fun hi hf => ?_⟩
  · rw [probeDue_of_waiting hi]
  · rw [probeDue_of_freeSlot hi hf]
    rfl
  · rw [probeDue_of_noFreeSlot hi hf]
    rfl

/-! #### The expiry, by the session's state (R105 to R107) -/

/-- What an expiry makes of a session, by the session's state. -/
def sessionExpires (i : Nat) (staged : Bool) (s : State) : State :=
  match (s.session i).state with
  | .alive => if livenessFirst i staged s then s else expiryAlive i staged s
  | .probing => expiryProbing i s
  | _ => s

/-- The oldest notice is taken, the session's state decides, and the answer is sent. -/
theorem exec_sessionTimerExpiry_of_notice (hi : i < 8)
    (hx : s.bank.notices.find? (fun y => y.timer == i) = some x) :
    exec (.sessionTimerExpiry i) s = .next ((sessionExpires i x.staged (s.noticed x)).answering i) := by
  have valid : ¬Config.sessionEntries ≤ i := Nat.not_le.2 hi
  simp only [exec, execSessionTimerExpiry, valid, if_false, takeNotice_of_find hx]
  rfl

theorem sessionExpires_of_not_running {staged : Bool} (hr : (s.session i).running = false) :
    sessionExpires i staged s = s := by
  unfold sessionExpires
  split
  · rename_i ha
    simp [Session.running, ha] at hr
  · rename_i hp
    simp [Session.running, hp] at hr
  · rfl

theorem sessionExpires_of_alive {staged : Bool} (ha : (s.session i).state = .alive) :
    sessionExpires i staged s = if livenessFirst i staged s then s else expiryAlive i staged s := by
  rw [sessionExpires, ha]

theorem sessionExpires_of_probing {staged : Bool} (hp : (s.session i).state = .probing) :
    sessionExpires i staged s = expiryProbing i s := by
  rw [sessionExpires, hp]

/-- ALIVE with a reload staged as the notice reported it: no probe (R105). -/
theorem sessionExpires_of_staged (ha : (s.session i).state = .alive) : sessionExpires i true s = s := by
  rw [sessionExpires_of_alive ha, expiryAlive, if_pos rfl, ite_self]

/-- ALIVE with a reload staged since by a liveness segment: no probe (R107, log 8). -/
theorem sessionExpires_of_livenessFirst (ha : (s.session i).state = .alive)
    (ht : (s.timer i).staged.isSome = true) : sessionExpires i false s = s := by
  rw [sessionExpires_of_alive ha, livenessFirst, ht]
  rfl

/-- ALIVE with nothing staged: PROBING, the retry interval staged, a probe due (R105). -/
theorem sessionExpires_of_unstaged (ha : (s.session i).state = .alive) (ht : (s.timer i).staged = none) :
    sessionExpires i false s =
      probeDue i
        { s with
          sessions := s.sessions.modify i fun y => { y with state := .probing }
          bank :=
            { s.bank with
              timers :=
                s.bank.timers.modify i fun t =>
                  if t.state = .stopped then t else { t with staged := some (s.session i).retry } } } := by
  have retry : ((modifySession i (fun y => { y with state := .probing }) s).session i).retry =
      (s.session i).retry := by
    rw [session_modifySession_of_running (by rw [Session.running, ha]; rfl)]
  rw [sessionExpires_of_alive ha, livenessFirst, ht, expiryAlive]
  simp only [retry]
  rfl

/-- A miss counted on a PROBING session. -/
def State.missed (s : State) (i : Nat) : State :=
  { s with sessions := s.sessions.modify i fun y => { y with miss := y.miss + 1 } }

/-- A miss below the limit: a further probe due; at the limit: DEAD with its request (R106). -/
theorem sessionExpires_of_miss {staged : Bool} (hp : (s.session i).state = .probing) :
    sessionExpires i staged s =
      if (s.session i).miss + 1 < (s.session i).missLimit then probeDue i (s.missed i)
      else ((s.missed i).left i .dead).requested ⟨(s.session i).deadCls, .sessionDead, i, none, false⟩ := by
  have counted : (modifySession i (fun y => { y with miss := y.miss + 1 }) s).session i =
      { s.session i with miss := (s.session i).miss + 1 } :=
    session_modifySession_of_running (by rw [Session.running, hp]; rfl)
  rw [sessionExpires_of_probing hp, expiryProbing]
  simp only [counted]
  rfl

/-- Settles O31, by the session's state. -/
theorem sessionTimerExpires : Obligations.SessionTimerExpires := by
  rintro s s1 i x hi hx rfl
  have step := exec_sessionTimerExpiry_of_notice hi hx
  refine ⟨fun hr => ?_, fun ha hn => ?_, fun ha hn ht => ?_, fun ha hn ht s2 h2 => ?_, fun hp hlow s2 h2 => ?_,
    fun hp hlimit => ?_⟩
  · rw [step, sessionExpires_of_not_running (s := s.noticed x) hr]
    rfl
  · rw [step, hn, sessionExpires_of_staged (s := s.noticed x) ha]
    rfl
  · rw [step, hn, sessionExpires_of_livenessFirst (s := s.noticed x) ha ht]
    rfl
  · rw [hn, sessionExpires_of_unstaged (s := s.noticed x) ha ht] at step
    exact exec_of_probeDue step h2 rfl rfl
  · rw [(sessionExpires_of_miss (s := s.noticed x) hp).trans (if_pos hlow)] at step
    exact exec_of_probeDue step h2 rfl rfl
  · rw [step, (sessionExpires_of_miss (s := s.noticed x) hp).trans (if_neg (Nat.not_lt.2 hlimit))]
    rfl

end expiry
end Sys2Proof.Machine

namespace Sys2Proof.Machine

/-! ### A data frame that leaves for the line (O33) -/

section outbound
variable {s : State} {f : Frame} {i : Nat} {l : List Nat} {newState : SessionState}

/-! #### Sessions that leave their running state together -/

theorem leaveRunningAll_session (hi : i < s.sessions.length) :
    (leaveRunningAll newState l s).session i =
      if i ∈ l then { s.session i with state := newState } else s.session i := by
  rw [State.session, leaveRunningAll_sessions, getD_mapIdx _ _ _ _ hi]
  rfl

theorem leaveRunningAll_timer (hi : i < s.bank.timers.length) :
    (leaveRunningAll newState l s).timer i = if i ∈ l then (s.timer i).stop else s.timer i := by
  rw [State.timer, leaveRunningAll_bank, getD_mapIdx _ _ _ _ hi]
  rfl

/-- The timer of a session that stays is the same, past the bank's end too. -/
theorem leaveRunningAll_timer_of_not_mem (hl : i ∉ l) :
    (leaveRunningAll newState l s).timer i = s.timer i := by
  by_cases hi : i < s.bank.timers.length
  · rw [leaveRunningAll_timer hi, if_neg hl]
  · simp [State.timer, leaveRunningAll_bank, List.getD_eq_getElem?_getD, Nat.not_lt.1 hi]

theorem mem_leaveRunningAll_probes : i ∈ (leaveRunningAll newState l s).probes ↔ i ∈ s.probes ∧ i ∉ l := by
  simp [leaveRunningAll_probes]

/-! #### The inspection (R119) -/

/-- The frame is a well-formed TCP segment in the outbound direction of the running session at an index, in
GUARD or WAKING. -/
def OnSession (s : State) (f : Frame) (i : Nat) : Prop :=
  let q := parseFrame (s.parseContext false) f
  (s.modeCtl.mode = .guard ∨ s.modeCtl.mode = .waking) ∧ q.fv.pstatus = .ok
    ∧ q.fv.frag ≠ .later ∧ q.fv.proto = 6
    ∧ (q.fv.l3kind = .ipv4 ∨ q.fv.l3kind = .ipv6) ∧ (s.session i).running = true
    ∧ sameFamily (s.session i).remote (sourceOf q.fv.l3kind f q.pos.l3) = true
    ∧ (s.identity (s.session i).localId).addr = sourceOf q.fv.l3kind f q.pos.l3
    ∧ (s.session i).localPort = q.fv.sport
    ∧ (s.session i).remote = destOf q.fv.l3kind f q.pos.l3
    ∧ (s.session i).remotePort = q.fv.dport

theorem matchesOutbound_iff {src dst : Addr} {v : FieldVector} {x : Session} :
    matchesOutbound s.identities src dst v x = true ↔
      sameFamily x.remote src = true ∧ (s.identity x.localId).addr = src ∧ x.localPort = v.sport
        ∧ x.remote = dst ∧ x.remotePort = v.dport := by
  simp only [matchesOutbound, State.identity, Bool.and_eq_true, beq_iff_eq, and_assoc]

/-- The inspection detaches the sessions that the frame is on, and does nothing else. -/
theorem inspectOutbound_detaches (f : Frame) (s : State) :
    ∃ l, inspectOutbound f s = leaveRunningAll .detached l s ∧ ∀ i, i ∈ l ↔ OnSession s f i := by
  by_cases hg : inGuard s = true
  · by_cases hq : (parseFrame (s.parseContext false) f).fv.pstatus = .ok
        ∧ (parseFrame (s.parseContext false) f).fv.frag ≠ .later
        ∧ (parseFrame (s.parseContext false) f).fv.proto = 6
        ∧ ((parseFrame (s.parseContext false) f).fv.l3kind = .ipv4
          ∨ (parseFrame (s.parseContext false) f).fv.l3kind = .ipv6)
    · refine ⟨_, by rw [inspectOutbound, if_pos hg]; exact if_pos hq, fun i => ?_⟩
      rw [mem_runningSessions, matchesOutbound_iff]
      obtain ⟨hok, hfrag, htcp, hl3⟩ := hq
      exact ⟨fun h => ⟨inGuard_eq_true_iff.1 hg, hok, hfrag, htcp, hl3, h⟩,
        fun ⟨_, _, _, _, _, h⟩ => h⟩
    · refine ⟨[], by rw [inspectOutbound, if_pos hg]; exact if_neg hq, fun i => ?_⟩
      simp only [List.not_mem_nil, false_iff]
      exact fun ⟨_, hok, hfrag, htcp, hl3, _⟩ => hq ⟨hok, hfrag, htcp, hl3⟩
  · refine ⟨[], by rw [inspectOutbound, if_neg hg]; rfl, fun i => ?_⟩
    simp only [List.not_mem_nil, false_iff]
    exact fun ⟨hmode, _⟩ => hg (inGuard_eq_true_iff.2 hmode)

/-- What an inspection does to the session at an index, its timer and its place among the waiting probes. -/
theorem inspectOutbound_session {u t : State} (hs : t.sessions = (inspectOutbound f u).sessions)
    (hb : t.bank = (inspectOutbound f u).bank) (hp : t.probes = (inspectOutbound f u).probes) :
    t.sessions.length = u.sessions.length
      ∧ ∀ i < u.sessions.length,
        (OnSession u f i →
          t.session i = { u.session i with state := .detached }
            ∧ (i < u.bank.timers.length → (t.timer i).state = .stopped ∧ (t.timer i).outstanding = false)
            ∧ i ∉ t.probes)
        ∧ (¬OnSession u f i →
          t.session i = u.session i ∧ t.timer i = u.timer i ∧ (i ∈ t.probes ↔ i ∈ u.probes)) := by
  obtain ⟨l, detached, mem⟩ := inspectOutbound_detaches f u
  rw [detached] at hs hb hp
  have session : ∀ i, t.session i = (leaveRunningAll .detached l u).session i := fun i => by
    rw [State.session, hs]; rfl
  have timer : ∀ i, t.timer i = (leaveRunningAll .detached l u).timer i := fun i => by
    rw [State.timer, hb]; rfl
  refine ⟨by rw [hs, leaveRunningAll_sessions, List.length_mapIdx], fun i hi => ?_⟩
  rw [session, timer, hp, mem_leaveRunningAll_probes, leaveRunningAll_session hi, ← mem]
  refine ⟨fun hl => ⟨if_pos hl, fun ht => ?_, fun h => h.2 hl⟩,
    fun hl => ⟨if_neg hl, leaveRunningAll_timer_of_not_mem hl, and_iff_left hl⟩⟩
  rw [leaveRunningAll_timer ht, if_pos hl]
  exact ⟨rfl, rfl⟩

/-! #### The two ways out of the receive FIFO (R137, R138) -/

theorem dataHead_of_data {rest : List Frame} (hrx : s.sys.rx = f :: rest) (hd : isControl f = false) :
    dataHead s = some f := by
  simp [dataHead, hrx, hd]

theorem grantLine_of_data (hd : dataHead s = some f) (hr : s.reply.queue = [] ∨ s.arb.last = .reply) :
    grantLine s = grantSystem f s := by
  cases hq : s.reply.queue.head? with
  | none => simp only [grantLine, hq, hd]
  | some k =>
    have last : s.arb.last = .reply := hr.resolve_left fun h => by simp [h] at hq
    simp [grantLine, hq, hd, last]

theorem exec_lineTxGrant_of_data (hd : dataHead s = some f) (hup : s.linePort.up = true)
    (hidle : s.arb.tx = none) (hr : s.reply.queue = [] ∨ s.arb.last = .reply) :
    exec .lineTxGrant s = .next (inspectOutbound f ((takeHead s).setArb ⟨some (.system f), .system⟩)) := by
  have granted := grantLine_of_data hd hr
  simp only [exec, execLineTxGrant, hup, hidle, and_self, if_true, granted, grantSystem]

theorem exec_systemFrameDiscard_of_data (hd : dataHead s = some f) (hdown : s.linePort.up = false) :
    exec .systemFrameDiscard s = .next (bump .lineTxDropped (inspectOutbound f (takeHead s))) := by
  simp only [exec, execSystemFrameDiscard, hd, hdown, if_true]

/-- Settles O33: at a grant and at a discard the head is taken and inspected. -/
theorem outboundSegmentsDetach : Obligations.OutboundSegmentsDetach := by
  rintro s c f rest q hrx hdata rfl hc
  have head := dataHead_of_data hrx hdata
  have taken : (takeHead s).sys = { s.sys with rx := rest } := by simp [takeHead, hrx]
  rcases hc with ⟨rfl, hup, hidle, hr⟩ | ⟨rfl, hdown⟩
  · refine ⟨_, exec_lineTxGrant_of_data head hup hidle hr, by simpa using taken,
      fun _ => by simp, nofun, by simp, by simp, by simp, by simp, by simp, ?_⟩
    exact inspectOutbound_session (u := (takeHead s).setArb ⟨some (.system f), .system⟩) rfl rfl rfl
  · refine ⟨_, exec_systemFrameDiscard_of_data head hdown, by simpa using taken,
      nofun, fun _ => ?_, by simp, by simp, by simp, by simp, by simp, ?_⟩
    · simp [bump]
    · exact inspectOutbound_session (u := takeHead s) (by simp) (by simp) (by simp)

end outbound
end Sys2Proof.Machine

namespace Sys2Proof.Machine

/-! ### The judgement of a segment (O32) -/

section segments
variable {s : State} {p : ParsedFrame} {i k : Nat} {e : MatchEntry} {ts : Option (BitVec 32)}

theorem beyond_iff {a b : BitVec 32} :
    beyond a b = true ↔ 1 ≤ (b - a).toNat ∧ (b - a).toNat ≤ 2 ^ 31 - 1 := by
  simp only [beyond, Bool.and_eq_true, decide_eq_true_eq]
  omega

theorem not_beyond_iff {a b : BitVec 32} :
    ¬beyond a b = true ↔ (b - a).toNat = 0 ∨ 2 ^ 31 ≤ (b - a).toNat := by
  rw [beyond_iff]
  omega

/-! #### Liveness and the ACK reply (R117, R118) -/

theorem liveness_eq_heard (hr : (s.session i).running = true) : liveness i ts s = s.heard i ts := by
  rw [liveness, session_modifySession_of_running hr]
  rfl

theorem heard_session (hr : (s.session i).running = true) :
    (s.heard i ts).session i =
      { s.session i with state := .alive, miss := 0, lastPeer := ts.getD (s.session i).lastPeer } :=
  session_modifySession_of_running hr

theorem ackReply_of_noFreeSlot (hp : p.path = .guardPath) (hf : freeSlot s = none) :
    ackReply i p s = bump .replySkipped s := by
  simp only [ackReply, buildReply, hf, Option.map_none, skipReply, hp]
  rfl

theorem ackReply_of_freeSlot {slot : Nat} (hp : p.path = .guardPath) (hf : freeSlot s = some slot) :
    ackReply i p s =
      bump .acksSent
        { s.queued slot .ack (some i) (isV4 (s.identity (s.session i).localId).addr)
            (ackFrame s.ctl.cfg s.reply.ipId (macAt p.bytes 6) (s.session i)
              (s.identity (s.session i).localId).addr s.bank.elapsed) with
          sessions := s.sessions.modify i fun x => { x with acksSent := satBump x.acksSent } } := by
  have line : destOfPath p.path = .line := by rw [hp]; rfl
  simp only [ackReply, buildReply, hf, Option.map_some, line, fillSlot_line]
  rfl

/-! #### The eight cases, in their order (R113 to R116) -/

/-- The sequence number of a segment. -/
def ParsedFrame.seq (p : ParsedFrame) : BitVec 32 := v4At p.bytes (p.pos.l4 + 4)

/-- Cases 1 and 2: a SYN, a RST. -/
theorem judgeSegment_of_syn (h : p.fv.tcpflags.testBit 1 = true) :
    judgeSegment i p s = passOn i .ended (s.session i).endCls .sessionEnd p s := if_pos h

theorem judgeSegment_of_rst (h1 : p.fv.tcpflags.testBit 1 = false) (h2 : p.fv.tcpflags.testBit 2 = true) :
    judgeSegment i p s =
      if p.seq = (s.session i).rcv then passOn i .ended (s.session i).endCls .sessionEnd p s
      else .done (bump .rstIgnored s) :=
  (if_neg (by simp [h1])).trans (if_pos h2)

section unreset
variable (h1 : p.fv.tcpflags.testBit 1 = false) (h2 : p.fv.tcpflags.testBit 2 = false)
include h1 h2

/-- Case 3: a FIN at RCV. -/
theorem judgeSegment_of_fin (h : p.fv.tcpflags.testBit 0 = true ∧ p.seq = (s.session i).rcv) :
    judgeSegment i p s = passOn i .ended (s.session i).endCls .sessionEnd p s :=
  ((if_neg (by simp [h1])).trans (if_neg (by simp [h2]))).trans (if_pos h)

variable (h3 : ¬(p.fv.tcpflags.testBit 0 = true ∧ p.seq = (s.session i).rcv))
include h3

/-- Cases 4 and 5: data beyond RCV, or an old retransmission. -/
theorem judgeSegment_of_data (hlen : 1 ≤ p.fv.l4len) :
    judgeSegment i p s =
      if beyond (s.session i).rcv (p.seq + BitVec.ofNat 32 p.fv.l4len) then
        passOn i .handed (s.session i).dataCls .sessionData p s
      else .done (ackReply i p (liveness i (segmentTsval (s.session i) p) s)) := by
  refine (((if_neg (by simp [h1])).trans (if_neg (by simp [h2]))).trans (if_neg h3)).trans ?_
  simp only [hlen, true_and, if_true]
  rfl

/-- Cases 6 to 8: the peer's probe, an acknowledgement at RCV, anything else. -/
theorem judgeSegment_of_empty (hlen : p.fv.l4len = 0) :
    judgeSegment i p s =
      if p.seq = (s.session i).rcv - 1#32 then
        .done (ackReply i p (liveness i (segmentTsval (s.session i) p) s))
      else if p.seq = (s.session i).rcv ∧ p.fv.tcpflags.testBit 4 = true then
        if beyond (s.session i).snd (v4At p.bytes (p.pos.l4 + 8)) then .done (bump .ackInvalid s)
        else .done (liveness i (segmentTsval (s.session i) p) s)
      else .done (bump .outOfWindow s) := by
  have empty : ¬1 ≤ p.fv.l4len := by omega
  refine (((if_neg (by simp [h1])).trans (if_neg (by simp [h2]))).trans (if_neg h3)).trans ?_
  simp only [empty, false_and, if_false]
  rfl

end unreset

/-! #### The step -/

theorem carryOut_of_answerSession (ha : e.action = .answerSession) :
    carryOut k e p s = afterResponder k e p (judgeSession p s) := by
  rw [carryOut, ha]

/-- A segment of a running session with a good checksum goes to the eight cases (R111). -/
theorem judgeSession_of_good (hp : p.path = .guardPath) (hok : p.fv.pstatus = .ok) (h6 : p.fv.proto = 6)
    (hw : p.fv.frag = .whole) (hn : p.fv.session = i) (hi : i < 8) (hr : (s.session i).running = true)
    (hg : transportGood p (segmentLength p) 6 = true) : judgeSession p s = judgeSegment i p s := by
  have valid : ¬Config.sessionEntries ≤ i := Nat.not_le.2 hi
  simp [judgeSession, hp, hok, h6, hw, hn, valid, hr, hg]

/-- Settles O32, case after case. -/
theorem segmentsAreJudged : Obligations.SegmentsAreJudged := by
  rintro s p k i flags len e seq ack ts hd hp ha hm hok h6 hw hn hi hr hg rfl rfl rfl rfl hts
  have done : ∀ t, judgeSegment i p (s.hit k) = .done t → exec .classifyFrame s = .next t := fun t h =>
    exec_classifyFrame_of_done hd hm
      (by rw [carryOut_of_answerSession ha, judgeSession_of_good (s := s.hit k) hp hok h6 hw hn hi hr hg, h])
  have heard : liveness i (segmentTsval ((s.hit k).session i) p) (s.hit k) = (s.hit k).heard i ts :=
    hts ▸ liveness_eq_heard (s := s.hit k) hr
  refine ⟨fun h1 => done _ (judgeSegment_of_syn h1), fun h1 h2 => ⟨fun hs => ?_, fun hs => ?_⟩,
    fun h1 h2 => ⟨fun hf hs => ?_, fun h3 => ?_⟩⟩
  · exact done _ ((judgeSegment_of_rst h1 h2).trans (if_pos hs))
  · exact done _ ((judgeSegment_of_rst h1 h2).trans (if_neg hs))
  · exact done _ (judgeSegment_of_fin h1 h2 ⟨hf, hs⟩)
  have notFin : ¬(p.fv.tcpflags.testBit 0 = true ∧ p.seq = (s.session i).rcv) := fun ⟨hf, hs⟩ =>
    h3.elim (by simp [hf]) (absurd hs)
  have data := judgeSegment_of_data (s := s.hit k) h1 h2 notFin
  have empty := judgeSegment_of_empty (s := s.hit k) h1 h2 notFin
  rw [heard] at data empty
  refine ⟨fun hlen hlo hhi => ?_, fun hold => ?_, fun hlen hs h4 => ?_, fun hlen hs hrest => ?_⟩
  · exact done _ ((data hlen).trans (if_pos (beyond_iff.2 ⟨hlo, hhi⟩)))
  · have judged : judgeSegment i p (s.hit k) = .done (ackReply i p ((s.hit k).heard i ts)) := by
      rcases hold with ⟨hlen, hold⟩ | ⟨hlen, hs⟩
      · exact (data hlen).trans (if_neg (not_beyond_iff.2 hold))
      · exact (empty hlen).trans (if_pos hs)
    have owner : (((s.hit k).heard i ts).session i).localId = (s.session i).localId := by
      rw [heard_session (s := s.hit k) hr]
      rfl
    rintro t rfl
    refine ⟨fun hf => ?_, fun slot hf => ?_⟩
    · exact done _ (judged.trans (congrArg Judged.done (ackReply_of_noFreeSlot hp hf)))
    · rw [ackReply_of_freeSlot (s := (s.hit k).heard i ts) hp hf, owner] at judged
      exact done _ judged
  · have notProbe : ¬p.seq = (s.session i).rcv - 1#32 := fun h => by
      have seq : p.seq = (s.session i).rcv := hs
      bv_omega
    have judged := (empty hlen).trans ((if_neg notProbe).trans (if_pos ⟨hs, h4⟩))
    refine ⟨fun hlo hhi => ?_, fun hack => ?_⟩
    · exact done _ (judged.trans (if_pos (beyond_iff.2 ⟨hlo, hhi⟩)))
    · exact done _ (judged.trans (if_neg (not_beyond_iff.2 hack)))
  · have notAck : ¬(p.seq = (s.session i).rcv ∧ p.fv.tcpflags.testBit 4 = true) := fun ⟨hq, h4⟩ =>
      hrest.elim (absurd hq) (by simp [h4])
    exact done _ ((empty hlen).trans ((if_neg hs).trans (if_neg notAck)))

end segments
end Sys2Proof.Machine

namespace Sys2Proof.Machine

/-! ### The reply slots and their two orders (O57) -/

section slots
variable {s t : State} {i : Nat} {l : List Nat}

/-- The two orders and the transmitter, read from the slots: what each lists or sends is said by the state and
the destination of every slot (R124, R127, R128). -/
structure Orders (s : State) : Prop where
  queueNodup : s.reply.queue.Nodup
  noticesNodup : s.reply.notices.Nodup
  mem_queue : ∀ i, i ∈ s.reply.queue ↔ (s.slot i).state = .queued ∧ (s.slot i).dest = .line
  mem_notices : ∀ i, i ∈ s.reply.notices ↔ (s.slot i).state = .queued ∧ (s.slot i).dest = .notice
  sends : ∀ i, s.arb.tx = some (.reply i) ↔ (s.slot i).state = .sending
  line : ∀ i, (s.slot i).state = .sending → (s.slot i).dest = .line
  delivers : ∀ i, s.sys.tx.map EgressTx.item = some (.rehearsal i) → i ∈ s.reply.notices

/-- Some slots are FREE to be handed on; while a session waits to probe, no other slot is FREE (R110, R126). -/
structure Handing (l : List Nat) (s : State) : Prop where
  orders : Orders s
  nodup : l.Nodup
  free : ∀ i ∈ l, i < s.reply.slots.length ∧ (s.slot i).state = .free
  waits : s.probes ≠ [] → ∀ i < s.reply.slots.length, (s.slot i).state = .free → i ∈ l

/-- The slots are in their orders, and none is FREE while a session waits to probe. -/
abbrev Orderly (s : State) : Prop := Handing [] s

/-- A slot past the last reads FREE, so one in use exists. -/
theorem lt_of_slot_ne_free (h : (s.slot i).state ≠ .free) : i < s.reply.slots.length := by
  refine Decidable.byContradiction fun hi => h ?_
  simp [State.slot, List.getD_eq_getElem?_getD, hi, Slot.empty]

theorem sendingSound_iff :
    sendingSound s = true ↔
      ∀ i, s.arb.tx = some (.reply i) → (s.slot i).state = .sending ∧ (s.slot i).dest = .line := by
  unfold sendingSound
  split <;> simp_all

theorem noticeSound_iff :
    noticeSound s = true ↔
      ∀ i, s.sys.tx.map EgressTx.item = some (.rehearsal i) → i ∈ s.reply.notices := by
  unfold noticeSound
  generalize s.sys.tx.map EgressTx.item = item
  split <;> simp_all

theorem slotOrders_iff : SlotOrders s ↔ Orders s := by
  constructor
  · rintro ⟨hq, hn, queued, noticed, placed, sends, delivers⟩
    rw [sendingSound_iff] at sends
    have placed' (i : Nat) (h : (s.slot i).state ≠ .free) :=
      placed i (List.mem_range.2 (lt_of_slot_ne_free h))
    have sending (i : Nat) (h : (s.slot i).state = .sending) : s.arb.tx = some (.reply i) :=
      (placed' i (by simp [h])).2.2 h
    exact
      { queueNodup := hq
        noticesNodup := hn
        mem_queue := fun i => ⟨queued i, fun ⟨hs, hd⟩ => (placed' i (by simp [hs])).1 hs hd⟩
        mem_notices := fun i => ⟨noticed i, fun ⟨hs, hd⟩ => (placed' i (by simp [hs])).2.1 hs hd⟩
        sends := fun i => ⟨fun h => (sends i h).1, sending i⟩
        line := fun i h => (sends i (sending i h)).2
        delivers := noticeSound_iff.1 delivers }
  · intro h
    refine ⟨h.queueNodup, h.noticesNodup, fun i => (h.mem_queue i).1, fun i => (h.mem_notices i).1,
      fun i _ => ⟨fun hs hd => (h.mem_queue i).2 ⟨hs, hd⟩, fun hs hd => (h.mem_notices i).2 ⟨hs, hd⟩,
        (h.sends i).2⟩, sendingSound_iff.2 fun i hi => ?_, noticeSound_iff.2 h.delivers⟩
    exact ⟨(h.sends i).1 hi, h.line i ((h.sends i).1 hi)⟩

theorem orderly_iff : Orderly s ↔ SlotOrders s ∧ ProbesWait s := by
  have slot (i : Nat) (hi : i < s.reply.slots.length) : s.slot i = s.reply.slots[i] := by
    simp [State.slot, hi]
  rw [slotOrders_iff]
  constructor
  · refine fun h => ⟨h.orders, fun hp x hx hf => ?_⟩
    obtain ⟨i, hi, rfl⟩ := List.mem_iff_getElem.1 hx
    exact List.not_mem_nil (h.waits hp i hi (slot i hi ▸ hf))
  · refine fun ⟨ho, hw⟩ => ⟨ho, List.nodup_nil, nofun, fun hp i hi hf => ?_⟩
    exact absurd (slot i hi ▸ hf) (hw hp _ (List.getElem_mem hi))

theorem Orders.not_mem_queue (h : Orders s) (hs : (s.slot i).state ≠ .queued) : i ∉ s.reply.queue :=
  fun hi => hs ((h.mem_queue i).1 hi).1

theorem Orders.not_mem_notices (h : Orders s) (hs : (s.slot i).state ≠ .queued) : i ∉ s.reply.notices :=
  fun hi => hs ((h.mem_notices i).1 hi).1

/-! #### One rule per change of the slots -/

/-- A change that leaves the slots, the orders and what is being sent. -/
theorem Orders.frame (h : Orders s) (hr : t.reply = s.reply)
    (ha : ∀ i, t.arb.tx = some (.reply i) ↔ s.arb.tx = some (.reply i))
    (hs : ∀ i, t.sys.tx.map EgressTx.item = some (.rehearsal i) → i ∈ s.reply.notices) : Orders t := by
  have slot (i : Nat) : t.slot i = s.slot i := by rw [State.slot, hr]; rfl
  constructor <;> simp only [hr, ha, slot]
  · exact h.queueNodup
  · exact h.noticesNodup
  · exact h.mem_queue
  · exact h.mem_notices
  · exact h.sends
  · exact h.line
  · exact hs

/-- A change of other blocks, in which no session begins to wait for a slot. -/
theorem Handing.frame (h : Handing l s)
    (kept : t.reply = s.reply ∧ t.arb.tx = s.arb.tx ∧ t.sys.tx = s.sys.tx
      ∧ (s.probes = [] → t.probes = [])) : Handing l t := by
  obtain ⟨hr, ha, hs, hp⟩ := kept
  have slot (i : Nat) : t.slot i = s.slot i := by rw [State.slot, hr]; rfl
  refine ⟨h.orders.frame hr (by simp [ha]) (hs ▸ h.orders.delivers), h.nodup, ?_, fun hw => ?_⟩
  · simpa only [hr, slot] using h.free
  · simpa only [hr, slot] using h.waits fun he => hw (hp he)

/-- The slots of a property become FREE: they leave the orders, the transmitter and the delivery. -/
structure Freed (p : Nat → Bool) (s t : State) : Prop where
  slot : ∀ i, t.slot i = if p i then Slot.empty else s.slot i
  length : t.reply.slots.length = s.reply.slots.length
  queue : t.reply.queue = s.reply.queue.filter fun i => !p i
  notices : t.reply.notices = s.reply.notices.filter fun i => !p i
  sends : ∀ i, t.arb.tx = some (.reply i) ↔ s.arb.tx = some (.reply i) ∧ p i = false
  delivers : ∀ i, t.sys.tx.map EgressTx.item = some (.rehearsal i) →
    s.sys.tx.map EgressTx.item = some (.rehearsal i) ∧ p i = false
  probes : t.probes = s.probes

theorem Freed.orders {p : Nat → Bool} (f : Freed p s t) (h : Orders s) : Orders t where
  queueNodup := f.queue ▸ h.queueNodup.filter _
  noticesNodup := f.notices ▸ h.noticesNodup.filter _
  mem_queue i := by cases hp : p i <;> simp [f.queue, f.slot, h.mem_queue, hp, Slot.empty]
  mem_notices i := by cases hp : p i <;> simp [f.notices, f.slot, h.mem_notices, hp, Slot.empty]
  sends i := by cases hp : p i <;> simp [f.sends, f.slot, h.sends, hp, Slot.empty]
  line i := by
    rw [f.slot]
    split
    · exact SlotState.noConfusion
    · exact h.line i
  delivers i hi := by
    obtain ⟨hs, hp⟩ := f.delivers i hi
    simp [f.notices, h.delivers i hs, hp]

/-- The slots that become FREE join those that are to be handed on. -/
theorem Freed.handing {p : Nat → Bool} {m : List Nat} (f : Freed p s t) (h : Handing l s) (nodup : m.Nodup)
    (mem : ∀ i, i ∈ m ↔ i < s.reply.slots.length ∧ (i ∈ l ∨ p i = true)) : Handing m t where
  orders := f.orders h.orders
  nodup := nodup
  free i hi := by
    obtain ⟨hlt, hi⟩ := (mem i).1 hi
    refine ⟨f.length ▸ hlt, ?_⟩
    rw [f.slot]
    split
    · rfl
    · rename_i hp
      exact (h.free i (hi.resolve_right hp)).2
  waits hw i hlt hf := by
    rw [f.length] at hlt
    rw [f.slot] at hf
    refine (mem i).2 ⟨hlt, ?_⟩
    split at hf
    · rename_i hp
      exact .inr hp
    · exact .inl (h.waits (f.probes ▸ hw) i hlt hf)

/-- A slot of neither order stays out of them. -/
theorem filter_ne_of_not_mem (h : i ∉ l) : l = l.filter fun j => !(j == i) :=
  (List.filter_eq_self.2 fun j hj => by simpa using fun e : j = i => h (e ▸ hj)).symm

/-- The slot at an index set to a FREE one. -/
def State.emptied (s : State) (i : Nat) : State :=
  s.setReply { s.reply with slots := s.reply.slots.set i Slot.empty }

theorem emptied_slot (s : State) (i j : Nat) :
    (s.emptied i).slot j = if j == i then Slot.empty else s.slot j := by
  rw [State.slot, State.emptied, State.setReply_reply, getD_set]
  by_cases hj : j = i
  · by_cases hi : i < s.reply.slots.length
    · simp [hj, hi]
    · simp [hj, hi, List.getD_eq_getElem?_getD]
  · simp [hj, Ne.symm hj, State.slot]

theorem nodup_append_one (hl : l.Nodup) (hi : i ∉ l) : (l ++ [i]).Nodup :=
  List.nodup_append.2 ⟨hl, List.pairwise_singleton _ i, fun _ hj _ hk e =>
    hi (List.mem_singleton.1 hk ▸ e ▸ hj)⟩

theorem slot_fillSlot {d : SlotDest} {k : ReplyKind} {n : Option Nat} {v4 : Bool} {f : Frame}
    (hi : i < s.reply.slots.length) (j : Nat) :
    (fillSlot i d k n v4 f s).slot j = if j = i then ⟨.queued, d, k, n, f⟩ else s.slot j := by
  rw [State.slot, fillSlot, State.setReply_reply, getD_set]
  by_cases hj : j = i
  · simp [hj, hi]
  · simp [hj, Ne.symm hj, State.slot]

/-- A FREE slot becomes QUEUED at the tail of the order of its destination (R124). -/
theorem Orders.fillSlot {d : SlotDest} {k : ReplyKind} {n : Option Nat} {v4 : Bool} {f : Frame}
    (h : Orders s) (hi : i < s.reply.slots.length) (hf : (s.slot i).state = .free) :
    Orders (fillSlot i d k n v4 f s) := by
  have slot := slot_fillSlot (d := d) (k := k) (n := n) (v4 := v4) (f := f) hi
  have unqueued : i ∉ s.reply.queue := h.not_mem_queue (by simp [hf])
  have unnoticed : i ∉ s.reply.notices := h.not_mem_notices (by simp [hf])
  have queue : (Machine.fillSlot i d k n v4 f s).reply.queue =
      if d = .line then s.reply.queue ++ [i] else s.reply.queue := rfl
  have notices : (Machine.fillSlot i d k n v4 f s).reply.notices =
      if d = .notice then s.reply.notices ++ [i] else s.reply.notices := rfl
  refine ⟨?_, ?_, fun j => ?_, fun j => ?_, fun j => ?_, fun j => ?_, fun j hj => ?_⟩
  · rw [queue]
    split
    · exact nodup_append_one h.queueNodup unqueued
    · exact h.queueNodup
  · rw [notices]
    split
    · exact nodup_append_one h.noticesNodup unnoticed
    · exact h.noticesNodup
  · by_cases hj : j = i
    · cases d <;> simp [queue, slot, hj, unqueued]
    · cases d <;> simp [queue, slot, hj, h.mem_queue]
  · by_cases hj : j = i
    · cases d <;> simp [notices, slot, hj, unnoticed]
    · cases d <;> simp [notices, slot, hj, h.mem_notices]
  · by_cases hj : j = i
    · simp [slot, hj, h.sends, hf]
    · simp [slot, hj, h.sends]
  · by_cases hj : j = i
    · simp [slot, hj]
    · simpa [slot, hj] using h.line j
  · have before := h.delivers j (by simpa using hj)
    rw [notices]
    split
    · exact List.mem_append_left _ before
    · exact before

/-- A slot to be handed on is built into. -/
theorem Handing.fillSlot {d : SlotDest} {k : ReplyKind} {n : Option Nat} {v4 : Bool} {f : Frame}
    (h : Handing (i :: l) s) : Handing l (fillSlot i d k n v4 f s) := by
  obtain ⟨hi, hf⟩ := h.free i List.mem_cons_self
  obtain ⟨unlisted, nodup⟩ := List.nodup_cons.1 h.nodup
  have slot := slot_fillSlot (d := d) (k := k) (n := n) (v4 := v4) (f := f) hi
  have length : (Machine.fillSlot i d k n v4 f s).reply.slots.length = s.reply.slots.length := by
    simp [Machine.fillSlot]
  refine ⟨h.orders.fillSlot hi hf, nodup, fun j hj => ?_, fun hw j hlt hj => ?_⟩
  · have other : j ≠ i := fun e => unlisted (e ▸ hj)
    rw [length, slot, if_neg other]
    exact h.free j (List.mem_cons_of_mem i hj)
  · rw [length] at hlt
    rw [slot] at hj
    split at hj
    · cases hj
    · rename_i other
      exact (List.mem_cons.1 (h.waits (by simpa using hw) j hlt hj)).resolve_left other

/-- Where a slot is FREE, none waits to probe, so the slot can be granted (R125). -/
theorem Handing.granted (h : Orderly s) (hf : freeSlot s = some i) : Handing [i] s where
  orders := h.orders
  nodup := List.pairwise_singleton _ i
  free j hj := List.mem_singleton.1 hj ▸ freeSlot_eq_some hf
  waits hw := by
    obtain ⟨hi, hfree⟩ := freeSlot_eq_some hf
    exact absurd (h.waits hw i hi hfree) List.not_mem_nil

/-! #### The operations of the reply builder -/

theorem Handing.bump {c : Counter} (h : Handing l s) : Handing l (bump c s) := h.frame (by simp)

theorem Handing.countDiscarded {m : List Nat} (h : Handing l s) : Handing l (countDiscarded m s) :=
  h.frame (by simp)

theorem Handing.endDrain (h : Handing l s) : Handing l (endDrain s) := h.frame (by simp)

theorem Handing.setBank {b : TimerBank} (h : Handing l s) : Handing l (s.setBank b) := h.frame (by simp)

theorem Handing.modifySession {k : Nat} {f : Session → Session} (h : Handing l s) :
    Handing l (modifySession k f s) := h.frame (by simp)

theorem Handing.buildProbe {n : Nat} (h : Handing (i :: l) s) : Handing l (buildProbe i n s) := by
  unfold Machine.buildProbe
  exact .bump (.modifySession h.fillSlot)

/-- A FREE slot is handed on to the session that waits first, or stays FREE with none waiting (R110, R126). -/
theorem Handing.handOn (h : Handing (i :: l) (s.emptied i)) : Handing l (freeAndHandOn i s) := by
  change Handing l
    (match (s.emptied i).probes with
      | [] => s.emptied i
      | p :: rest => Machine.buildProbe i p ((s.emptied i).setProbes rest))
  split
  · rename_i hp
    exact ⟨h.orders, h.nodup.of_cons, fun j hj => h.free j (List.mem_cons_of_mem i hj),
      fun hw => absurd hp hw⟩
  · rename_i hp
    exact .buildProbe (h.frame (by simp [hp]))

theorem Handing.freeAndHandOn (h : Handing (i :: l) s) : Handing l (freeAndHandOn i s) := by
  obtain ⟨-, hf⟩ := h.free i List.mem_cons_self
  have unsent (j : Nat) (hj : s.arb.tx = some (.reply j)) : j ≠ i := by
    rintro rfl
    simpa [hf] using (h.orders.sends j).1 hj
  have undelivered (j : Nat) (hj : s.sys.tx.map EgressTx.item = some (.rehearsal j)) : j ≠ i := by
    rintro rfl
    exact h.orders.not_mem_notices (by simp [hf]) (h.orders.delivers j hj)
  refine .handOn (Freed.handing (p := (· == i)) ?_ h h.nodup fun j => ?_)
  · exact
      { slot := emptied_slot s i
        length := List.length_set
        queue := filter_ne_of_not_mem (h.orders.not_mem_queue (by simp [hf]))
        notices := filter_ne_of_not_mem (h.orders.not_mem_notices (by simp [hf]))
        sends := fun j => (and_iff_left_of_imp fun hj => beq_eq_false_iff_ne.2 (unsent j hj)).symm
        delivers := fun j hj => ⟨hj, beq_eq_false_iff_ne.2 (undelivered j hj)⟩
        probes := rfl }
  · constructor
    · exact fun hj => ⟨(h.free j hj).1, .inl hj⟩
    · rintro ⟨-, hj | hj⟩
      · exact hj
      · exact List.mem_cons.2 (.inl (beq_iff_eq.1 hj))

theorem Handing.freeAllAndHandOn (h : Handing l s) : Orderly (freeAllAndHandOn l s) := by
  induction l generalizing s with
  | nil => exact h
  | cons i rest ih => exact ih h.freeAndHandOn

/-- Nothing is built, sent or delivered, and none waits. -/
theorem Handing.of_empty (slot : ∀ i, (s.slot i).state = .free) (queue : s.reply.queue = [])
    (notices : s.reply.notices = []) (tx : s.arb.tx = none) (item : s.sys.tx = none)
    (probes : s.probes = []) : Orderly s where
  orders := by constructor <;> simp [slot, queue, notices, tx, item]
  nodup := List.nodup_nil
  free := nofun
  waits hw := absurd probes hw

/-- One slot in use becomes FREE. -/
theorem Freed.handing_one (f : Freed (· == i) s t) (h : Orderly s) (hi : (s.slot i).state ≠ .free) :
    Handing [i] t :=
  f.handing h (List.pairwise_singleton _ i) fun j => by
    have := lt_of_slot_ne_free hi
    simp only [List.mem_singleton, List.not_mem_nil, false_or, beq_iff_eq]
    exact ⟨fun e => ⟨e ▸ this, e⟩, And.right⟩

/-! #### The line transmitter (R127, R137, R138) -/

/-- No reply begins or ends its transmission. -/
theorem Handing.setArb {a : LineArb} (h : Handing l s)
    (ha : ∀ i, a.tx = some (.reply i) ↔ s.arb.tx = some (.reply i)) : Handing l (s.setArb a) where
  orders := h.orders.frame rfl ha h.orders.delivers
  nodup := h.nodup
  free := h.free
  waits := h.waits

theorem slot_grantReply (hi : i < s.reply.slots.length) (j : Nat) :
    (grantReply i s).slot j = if j = i then { s.slot i with state := .sending } else s.slot j := by
  change (s.reply.slots.modify i _).getD j Slot.empty = _
  rw [getD_modify]
  by_cases hj : j = i
  · simp [hj, hi, State.slot]
  · simp [hj, Ne.symm hj, State.slot]

/-- The oldest slot of the reply queue is sent on an idle transmitter. -/
theorem Handing.grantReply {q : List Nat} (h : Orderly s) (hq : s.reply.queue = i :: q)
    (ht : s.arb.tx = none) : Orderly (grantReply i s) := by
  obtain ⟨hs, hd⟩ := (h.orders.mem_queue i).1 (by simp [hq])
  obtain ⟨unlisted, nodup⟩ := List.nodup_cons.1 (hq ▸ h.orders.queueNodup)
  have hi : i < s.reply.slots.length := lt_of_slot_ne_free (by simp [hs])
  have slot := slot_grantReply hi
  have queue : (Machine.grantReply i s).reply.queue = q := by simp [Machine.grantReply, hq]
  have notices : (Machine.grantReply i s).reply.notices = s.reply.notices := rfl
  have tx : (Machine.grantReply i s).arb.tx = some (.reply i) := rfl
  have length : (Machine.grantReply i s).reply.slots.length = s.reply.slots.length := List.length_modify ..
  have idle (j : Nat) : (s.slot j).state ≠ .sending := fun hj => by simpa [ht] using (h.orders.sends j).2 hj
  refine ⟨⟨queue ▸ nodup, h.orders.noticesNodup, fun j => ?_, fun j => ?_, fun j => ?_, fun j => ?_,
    fun j hj => h.orders.delivers j (by simpa using hj)⟩, List.nodup_nil, nofun, fun hw j hlt hj => ?_⟩
  · by_cases hj : j = i
    · simp [queue, slot, hj, unlisted]
    · simp [queue, slot, hj, ← h.orders.mem_queue, hq]
  · by_cases hj : j = i
    · simp [notices, slot, hj, h.orders.mem_notices, hd]
    · simp [notices, slot, hj, h.orders.mem_notices]
  · by_cases hj : j = i
    · simp [tx, slot, hj]
    · simp [tx, slot, hj, Ne.symm hj, idle]
  · by_cases hj : j = i
    · simp [slot, hj, hd]
    · simp [slot, hj, idle]
  · rw [length] at hlt
    by_cases e : j = i
    · simp [slot, e] at hj
    · exact h.waits (by simpa using hw) j hlt (by simpa [slot, e] using hj)

/-- A reply's transmission ends: its slot is FREE to be handed on. -/
theorem Handing.replySent (h : Orderly s) (ht : s.arb.tx = some (.reply i)) :
    Orderly (Machine.freeAndHandOn i (s.setArb { s.arb with tx := none })) := by
  have hs : (s.slot i).state = .sending := (h.orders.sends i).1 ht
  refine .handOn (Freed.handing_one (s := s) ?_ h (by simp [hs]))
  exact
    { slot := emptied_slot (s.setArb { s.arb with tx := none }) i
      length := List.length_set
      queue := filter_ne_of_not_mem (h.orders.not_mem_queue (by simp [hs]))
      notices := filter_ne_of_not_mem (h.orders.not_mem_notices (by simp [hs]))
      sends := fun j => by
        simp only [ht, Option.some.injEq, LineTx.reply.injEq]
        refine iff_of_false (fun e => by cases e) fun ⟨e, hj⟩ => by simp [e] at hj
      delivers := fun j hj => ⟨hj, beq_eq_false_iff_ne.2 fun e => by
        simpa [e, hs] using (h.orders.mem_notices j).1 (h.orders.delivers j hj)⟩
      probes := rfl }

theorem cutTransmission_arb_tx (s : State) : (cutTransmission s).arb.tx = none := by
  unfold cutTransmission
  split
  · simp
  · simp
  · assumption

theorem Orders.onLine_iff (h : Orders s) (i : Nat) :
    (s.slot i).onLine = true ↔ i ∈ s.reply.queue ∨ s.arb.tx = some (.reply i) := by
  rw [h.mem_queue, h.sends, Slot.onLine]
  have line := h.line i
  cases hs : (s.slot i).state <;> cases hd : (s.slot i).dest <;> simp_all

/-- A link loss frees every slot of destination LINE in use and hands them on in order (R139). -/
theorem Handing.discardLineReplies (h : Orderly s) (hr : t.reply = s.reply) (hp : t.probes = s.probes)
    (hs : t.sys.tx = s.sys.tx) (ha : t.arb.tx = none) : Orderly (discardLineReplies t) := by
  have slot (i : Nat) : t.slot i = s.slot i := by rw [State.slot, hr]; rfl
  have offLine (i : Nat) (hi : i ∈ s.reply.notices) : (s.slot i).onLine = false := by
    simp [Slot.onLine, ((h.orders.mem_notices i).1 hi).2]
  refine .freeAllAndHandOn (.countDiscarded ?_)
  refine Freed.handing (s := s) (p := fun i => (s.slot i).onLine) ?_ h (List.nodup_range.filter _) fun i => ?_
  · exact
      { slot := fun i => by
          rw [← slot i]
          by_cases hi : i < t.reply.slots.length <;>
            simp [State.slot, List.getD_eq_getElem?_getD, hi, Slot.empty, Slot.onLine]
        length := by simp [hr]
        queue := (List.filter_eq_nil_iff.2 fun i hi => by
          simp [(h.orders.onLine_iff i).2 (.inl hi)]).symm
        notices := by
          rw [List.filter_eq_self.2 fun i hi => by simp [offLine i hi]]
          simp [hr]
        sends := fun i => by
          simp only [State.setReply_arb, ha]
          refine iff_of_false (fun e => by cases e) fun ⟨e, hi⟩ => ?_
          simp [(h.orders.onLine_iff i).2 (.inr e)] at hi
        delivers := fun i hi => by
          have delivered : s.sys.tx.map EgressTx.item = some (.rehearsal i) := by simpa [hs] using hi
          exact ⟨delivered, offLine i (h.orders.delivers i delivered)⟩
        probes := by simp [hp] }
  · simp [lineSlots, slot, hr]

theorem Handing.linkLost (h : Orderly s) : Orderly (linkLost s) := by
  have lost : Orderly (Machine.discardLineReplies (cutTransmission (s.setLinePort ⟨false, true⟩))) :=
    h.discardLineReplies (by simp) (by simp) (by simp) (cutTransmission_arb_tx _)
  unfold Machine.linkLost
  exact lost.frame (by simp)

/-! #### The delivery of a rehearsal notice (R128, R181) -/

/-- The link to the laptop is idle: no notice is in delivery. -/
theorem Handing.setSys {y : SysPort} (h : Handing l s) (hy : y.tx = none ∨ y.tx = s.sys.tx) :
    Handing l (s.setSys y) where
  orders := h.orders.frame rfl (fun _ => .rfl) fun i hi => by
    rcases hy with hy | hy
    · simp [hy] at hi
    · exact h.orders.delivers i (by simpa [hy] using hi)
  nodup := h.nodup
  free := h.free
  waits := h.waits

/-- A notice that stands in its order is delivered: its slot is FREE to be handed on. -/
theorem Handing.noticeDelivered (h : Orderly s) (hn : i ∈ s.reply.notices) (ht : s.sys.tx = none) :
    Orderly (completeItem (.rehearsal i) s) := by
  obtain ⟨hs, hd⟩ := (h.orders.mem_notices i).1 hn
  refine .handOn (Freed.handing_one (s := s) ?_ h (by simp [hs]))
  exact
    { slot := emptied_slot (s.setReply _) i
      length := List.length_set
      queue := filter_ne_of_not_mem fun hq => by simpa [hd] using ((h.orders.mem_queue i).1 hq).2
      notices := rfl
      sends := fun j => (and_iff_left_of_imp fun hj => beq_eq_false_iff_ne.2 fun e => by
        simpa [e, hs] using (h.orders.sends j).1 hj).symm
      delivers := fun j hj => by simp [State.emptied, ht] at hj
      probes := rfl }

/-! #### The keepalive unit -/

theorem Handing.sendRequest {r : WakeRequest} (h : Orderly s) : Orderly (sendRequest r s) := h.frame (by simp)

theorem freeSlot_eq_none (h : freeSlot s = none) (hi : i < s.reply.slots.length) :
    (s.slot i).state ≠ .free := by
  have used := List.findIdx?_eq_none_iff.1 h _ (List.getElem_mem hi)
  simpa [State.slot, hi] using used

/-- A probe due is built where a slot is FREE; where none is, the session waits (R126). -/
theorem Handing.probeDue {n : Nat} (h : Orderly s) : Orderly (probeDue n s) := by
  unfold Machine.probeDue
  split
  · exact h
  split
  · rename_i hf
    exact (h.granted hf).buildProbe
  · rename_i hf
    refine ⟨h.orders.frame rfl (fun _ => .rfl) h.orders.delivers, h.nodup, nofun, fun _ i hi hfree => ?_⟩
    exact absurd hfree (freeSlot_eq_none hf hi)

/-- A session that leaves its running state waits no more. -/
theorem Handing.leaveRunning {n : Nat} {x : SessionState} (h : Orderly s) : Orderly (leaveRunning n x s) :=
  h.frame ⟨by simp, by simp, by simp, fun hp => by simp [leaveRunning_eq_left, State.left, hp]⟩

theorem Handing.leaveRunningAll {x : SessionState} {m : List Nat} (h : Orderly s) :
    Orderly (leaveRunningAll x m s) :=
  h.frame ⟨by simp, by simp, by simp, fun hp => by simp [leaveRunningAll_probes, hp]⟩

theorem Handing.inspectOutbound {f : Frame} (h : Orderly s) : Orderly (inspectOutbound f s) := by
  obtain ⟨m, detached, -⟩ := inspectOutbound_detaches f s
  rw [detached]
  exact h.leaveRunningAll

theorem Handing.liveness {n : Nat} {ts : Option (BitVec 32)} (h : Orderly s) : Orderly (liveness n ts s) :=
  h.frame ⟨by simp, by simp, by simp, fun hp => by simp [Machine.liveness, hp]⟩

theorem Handing.expiryAlive {n : Nat} {staged : Bool} (h : Orderly s) : Orderly (expiryAlive n staged s) := by
  unfold Machine.expiryAlive
  split
  · exact h
  · exact .probeDue (h.frame (by simp))

theorem Handing.expiryProbing {n : Nat} (h : Orderly s) : Orderly (expiryProbing n s) := by
  unfold Machine.expiryProbing
  dsimp only
  split
  · exact .probeDue h.modifySession
  · exact .sendRequest (.leaveRunning h.modifySession)

/-- A reply is built into a FREE slot. -/
theorem Handing.buildReply {p : Path} {k : ReplyKind} {n : Option Nat} {v4 : Bool}
    {frame : BitVec 16 → Frame} (h : Orderly s) (hb : buildReply p k n v4 frame s = some t) : Orderly t := by
  obtain ⟨i, hf, rfl⟩ := buildReply_some hb
  exact (h.granted hf).fillSlot

theorem Handing.ackReply {n : Nat} {p : ParsedFrame} (h : Orderly s) : Orderly (ackReply n p s) := by
  unfold Machine.ackReply
  dsimp only
  split
  · rename_i hb
    exact .bump (.modifySession (h.buildReply hb))
  · exact h.frame (by simp)

theorem Handing.passOn {n cls : Nat} {x : SessionState} {cause : WakeCause} {p : ParsedFrame}
    (h : Orderly s) : Orderly (passOn n x cls cause p s).state :=
  .sendRequest h.leaveRunning

theorem Handing.judgeSegment {n : Nat} {p : ParsedFrame} (h : Orderly s) :
    Orderly (judgeSegment n p s).state := by
  have live : Orderly (Machine.liveness n (segmentTsval (s.session n) p) s) := h.liveness
  unfold Machine.judgeSegment
  dsimp only
  split
  · exact h.passOn
  split
  · split
    · exact h.passOn
    · exact h.bump
  split
  · exact h.passOn
  split
  · exact h.passOn
  split
  · exact live.ackReply
  split
  · exact live.ackReply
  split
  · split
    · exact h.bump
    · exact live
  · exact h.bump

theorem Handing.judgeSession {p : ParsedFrame} (h : Orderly s) : Orderly (judgeSession p s).state := by
  unfold Machine.judgeSession
  dsimp only
  split
  · exact h
  split
  · exact h
  split
  · exact h
  split
  · exact h
  split
  · exact h.bump
  · exact h.judgeSegment

/-! #### The other responders and the classifier -/

theorem Handing.defend {form : ConflictForm} {x : Identity} {p : ParsedFrame} (h : Orderly s) :
    Orderly (defend form x p s) := by
  unfold Machine.defend
  split
  · split
    · rename_i hb
      exact h.buildReply hb
    · exact h.frame (by simp)
  · exact h

theorem Handing.handleConflict {n : Nat} {form : ConflictForm} {p : ParsedFrame} (h : Orderly s) :
    Orderly (handleConflict n form p s).state := by
  have defended : Orderly (Machine.defend form (s.identity n) p s) := h.defend
  have detached : Orderly (detachIdentity n (countConflict n
      (modifyIdentity n (fun x => { x with state := .conflicted })
        (Machine.defend form (s.identity n) p s)))) :=
    .leaveRunningAll (defended.frame (by simp))
  unfold Machine.handleConflict
  dsimp only
  split
  · split
    · exact h
    · exact defended.sendRequest
  split
  · exact h.frame (by simp)
  split
  · exact detached.sendRequest
  · exact detached.frame (by simp)

theorem Handing.answer {p : ParsedFrame} {c : Counter} {v4 : Bool} {frame : BitVec 16 → Frame}
    (h : Orderly s) : Orderly (answer p c v4 frame s) := by
  unfold Machine.answer
  split
  · rename_i hb
    exact (h.buildReply hb).frame (by simp)
  · exact h.frame (by simp)

theorem Handing.answerName {p : ParsedFrame} {entry : Nat} {v4 : Bool} {frame : BitVec 16 → Frame}
    (h : Orderly s) : Orderly (answerName p entry v4 frame s) := by
  unfold Machine.answerName
  split
  · rename_i hb
    split
    · exact h.buildReply hb
    · exact (h.buildReply hb).frame (by simp)
  · exact h.frame (by simp)

theorem Handing.judgeAddress {p : ParsedFrame} (h : Orderly s) : Orderly (judgeAddress p s).state := by
  rcases judgeAddress_cases p s with e | e | ⟨n, form, e⟩ | ⟨c, frame, e⟩ <;> rw [e]
  · exact h
  · exact h.frame (by simp)
  · exact h.handleConflict
  · exact h.answer

theorem Handing.judgeEcho {p : ParsedFrame} (h : Orderly s) : Orderly (judgeEcho p s).state := by
  rcases judgeEcho_cases p s with e | e | ⟨v4, frame, e⟩ <;> rw [e]
  · exact h
  · exact h.frame (by simp)
  · exact h.answer

theorem Handing.judgeName {p : ParsedFrame} (h : Orderly s) : Orderly (judgeName p s).state := by
  rcases judgeName_cases p s with e | e | ⟨entry, v4, frame, e⟩ <;> rw [e]
  · exact h
  · exact h.frame (by simp)
  · exact h.answerName

theorem Handing.afterResponder {entry : Nat} {e : MatchEntry} {p : ParsedFrame} {j : Judged}
    (h : Orderly j.state) : Orderly (afterResponder entry e p j) := by
  unfold Machine.afterResponder
  split
  · exact h.frame (by simp)
  · exact h

theorem Handing.carryOut {entry : Nat} {e : MatchEntry} {p : ParsedFrame} (h : Orderly s) :
    Orderly (carryOut entry e p s) := by
  unfold Machine.carryOut
  split
  · exact h
  · exact h.frame (by simp)
  · exact h.frame (by simp)
  · exact h.judgeAddress.afterResponder
  · exact h.judgeEcho.afterResponder
  · exact h.judgeName.afterResponder
  · exact h.judgeSession.afterResponder

theorem Handing.classify {p : ParsedFrame} (h : Orderly s) : Orderly (classify p s) := by
  unfold Machine.classify
  split
  · exact .carryOut (h.frame (by simp))
  dsimp only
  split
  · exact h.frame (by simp)
  · exact h.bump

end slots
end Sys2Proof.Machine

namespace Sys2Proof.Machine

/-! ### Every command keeps the slots in order (O57) -/

section orderlyCommands
variable {c : Instr} {s t : State}

/-! #### Control commands -/

theorem Handing.takeHead (h : Orderly s) : Orderly (takeHead s) := h.setSys (.inr rfl)

theorem Handing.respond {g : ControlHeader} {a : Answer} (h : Orderly a.state) : Orderly (respond g a) :=
  h.frame ⟨rfl, rfl, rfl, id⟩

/-- A command whose act keeps the slots in order. -/
theorem Handing.takeCommand {code length : Nat} {act : Frame → State → Answer} (h : Orderly s)
    (hact : ∀ b u, Orderly u → Orderly (act b u).state) : Orderly (takeCommand code length act s) := by
  rcases takeCommand_cases code length act s with e | ⟨g, a, e, ha | ⟨b, rfl⟩⟩ <;> rw [e]
  · exact h
  · exact .respond (ha ▸ h.takeHead)
  · exact .respond (hact b _ h.takeHead)

theorem Handing.writing {act : Frame → State → Answer} {b : Frame} (h : Orderly s)
    (hact : Orderly (act b s).state) : Orderly (writing act b s).state := by
  unfold Machine.writing
  split
  · exact hact
  · exact h

theorem Handing.indexed {n : Nat} {act : Nat → Frame → State → Answer} {b : Frame} (h : Orderly s)
    (hact : ∀ i, Orderly (act i b s).state) : Orderly (indexed n act b s).state := by
  unfold Machine.indexed
  split
  · exact hact _
  · exact h

theorem Handing.storing {α : Type} {value : Option α} {store : α → State → State} (h : Orderly s)
    (hstore : ∀ x, value = some x → Orderly (store x s)) : Orderly (storing value store s).state := by
  unfold Machine.storing
  split
  · exact hstore _ rfl
  · exact h

/-- A write with an index of an entry of another block. -/
theorem Handing.indexedWrite {α : Type} {code length n : Nat} {value : Nat → Frame → State → Option α}
    {store : Nat → α → State → State} (h : Orderly s)
    (hs : ∀ i x u, Orderly u → Orderly (store i x u)) :
    Orderly
      (Machine.takeCommand code length
        (Machine.writing (Machine.indexed n fun i b u => Machine.storing (value i b u) (store i) u)) s) :=
  h.takeCommand fun _ _ hu => hu.writing (hu.indexed fun i => hu.storing fun x _ => hs i x _ hu)

/-- A read with an index. -/
theorem Handing.indexedRead {code length n : Nat} {body : Nat → State → Frame} (h : Orderly s) :
    Orderly (Machine.takeCommand code length (Machine.indexed n fun i _ u => .done (body i u) u) s) :=
  h.takeCommand fun _ _ hu => hu.indexed fun _ => hu

theorem Handing.clearedTable {k : Nat} (h : Orderly s) (ht : clearedTable k s = some t) : Orderly t := by
  unfold Machine.clearedTable at ht
  split at ht <;> cases ht <;> exact h.frame (by simp)

theorem Handing.enterGuard (h : Orderly s) : Orderly (enterGuard s).state := by
  rcases enterGuard_cases s with e | ⟨-, e⟩ <;> rw [e]
  · exact h
  · exact h.frame (by simp [guardEntry])

theorem Handing.leaveGuard (h : Orderly s) : Orderly (leaveGuard s).state := by
  unfold Machine.leaveGuard
  split
  · exact h.frame (t := guardExit s) ⟨by simp, by simp, by simp, fun _ => rfl⟩
  · exact h

theorem Handing.readCounters {b : Frame} (h : Orderly s) : Orderly (readCounters b s).state := by
  unfold Machine.readCounters
  split
  · rename_i clear _
    cases clear
    · exact h
    · exact h.frame (t := clearCounters s) (by simp)
  · exact h

/-- A soft reset empties the reply builder, the transmitter and the delivery (R140, R182). -/
theorem orderly_softReset (s : State) : Orderly (softReset s) :=
  .of_empty (fun i => congrArg Slot.state (getD_map_const _ Slot.empty i)) rfl rfl rfl rfl rfl

theorem orderly_powerOnReset (s : State) :
    Orderly { State.reset with pending := s.pending, sys := { State.reset.sys with ready := s.sys.ready } } :=
  .of_empty (fun i => congrArg Slot.state (getD_map_const (List.replicate 4 Slot.empty) Slot.empty i))
    rfl rfl rfl rfl rfl

theorem Handing.badControlFrame (h : Orderly s) (e : execBadControlFrame s = .next t) : Orderly t := by
  unfold execBadControlFrame at e
  split at e
  · cases e
    exact h
  · split at e <;> cases e
    · exact h
    · exact h.takeHead.bump

theorem Handing.unknownCommand (h : Orderly s) (e : execUnknownCommand s = .next t) : Orderly t := by
  unfold execUnknownCommand at e
  split at e
  · cases e
    exact h
  · split at e <;> cases e
    · exact .respond h.takeHead
    · exact h

/-! #### The events of the line, the ports and the time base -/

theorem Handing.linkDown {receiving : Option Nat} (h : Orderly s) (e : execLinkDown receiving s = .next t) :
    Orderly t := by
  unfold execLinkDown at e
  split at e
  · split at e <;> cases e
    · exact h.bump.linkLost
    · exact h.linkLost
  · cases e
    exact h

theorem Handing.linkUp (h : Orderly s) (e : execLinkUp s = .next t) : Orderly t := by
  unfold execLinkUp at e
  split at e <;> cases e
  · exact h
  · exact h.frame (by simp)

theorem Handing.systemReadyRise (h : Orderly s) (e : execSystemReadyRise s = .next t) : Orderly t := by
  have raised : Orderly (s.setSys { s.sys with ready := true }) := h.setSys (.inr rfl)
  unfold execSystemReadyRise at e
  split at e
  · cases e
    exact h
  · dsimp only at e
    split at e <;> cases e
    · exact raised.frame (by simp)
    · exact raised

theorem Handing.systemReadyFall (h : Orderly s) (e : execSystemReadyFall s = .next t) : Orderly t := by
  unfold execSystemReadyFall at e
  split at e <;> cases e
  · exact h.setSys (.inl rfl)
  · exact h

theorem handOn_sys_tx (f : Frame) (s : State) : (handOn f s).sys.tx = s.sys.tx := by
  have forward : (offerForward f s).sys.tx = s.sys.tx := by
    unfold offerForward
    split <;> simp
  unfold handOn
  split <;> simp [forward]

theorem Handing.lineFrameReceived {rx : LineReception} (h : Orderly s)
    (e : execLineFrameReceived rx s = .next t) : Orderly t := by
  unfold execLineFrameReceived at e
  split at e
  · cases e
    exact h.bump
  split at e
  · cases e
    exact h
  split at e <;> cases e
  · exact h.bump
  · exact h.frame (by simp [handOn_sys_tx])

theorem Handing.sysFrameReceived {rx : SystemReception} (h : Orderly s)
    (e : execSysFrameReceived rx s = .next t) : Orderly t := by
  unfold execSysFrameReceived at e
  split at e
  · cases e
    exact h
  split at e <;> cases e
  · exact h.setSys (.inr rfl)
  · exact h.bump

theorem Handing.parseFrame (h : Orderly s) (e : execParseFrame s = .next t) : Orderly t := by
  unfold execParseFrame at e
  split at e
  · cases e
    exact h
  dsimp only at e
  split at e
  · split at e <;> cases e
    · exact h
    · exact h.frame (by simp)
  split at e <;> cases e
  · exact h
  · exact h.frame (by simp)

theorem Handing.classifyFrame (h : Orderly s) (e : execClassifyFrame s = .next t) : Orderly t := by
  unfold execClassifyFrame at e
  split at e
  · cases e
    exact h
  split at e <;> cases e
  · exact .endDrain (.classify (h.frame (by simp)))
  · exact h

theorem Handing.takeNotice {timer : Nat} {n : ExpiryNotice} (h : Orderly s)
    (e : takeNotice timer s = some (n, t)) : Orderly t := by
  obtain ⟨-, rfl⟩ := takeNotice_eq_some e
  exact h.frame ⟨rfl, rfl, rfl, id⟩

theorem Handing.sessionTimerExpiry {i : Nat} (h : Orderly s) (e : execSessionTimerExpiry i s = .next t) :
    Orderly t := by
  unfold execSessionTimerExpiry at e
  split at e
  · cases e
    exact h
  split at e
  · cases e
    exact h
  · rename_i u hn
    have taken := h.takeNotice hn
    cases e
    refine .setBank ?_
    split
    · split
      · exact taken
      · exact taken.expiryAlive
    · exact taken.expiryProbing
    · exact taken

theorem Handing.expiryAnswer {i : Nat} (h : Orderly s) (e : execExpiryAnswer i s = .next t) : Orderly t := by
  unfold execExpiryAnswer at e
  split at e <;> cases e
  · exact h.frame (by simp)
  · exact h

theorem Handing.alarmExpiry {n : Nat} (h : Orderly s) (e : execAlarmExpiry n s = .next t) : Orderly t := by
  unfold execAlarmExpiry at e
  split at e
  · cases e
    exact h
  · rename_i hn
    have taken := h.takeNotice hn
    split at e <;> cases e
    · exact taken.frame (by simp)
    · exact taken

theorem Handing.wakeRequest {place : Nat} (h : Orderly s) (e : execWakeRequest place s = .next t) :
    Orderly t := by
  unfold execWakeRequest at e
  split at e <;> cases e
  · exact h
  · exact h.frame (by simp)

theorem Handing.holdAppend (h : Orderly s) (e : execHoldAppend s = .next t) : Orderly t := by
  unfold execHoldAppend at e
  split at e
  · cases e
    exact h
  dsimp only at e
  split at e <;> cases e
  · exact h.frame (by simp)
  · exact h.frame (by simp)

theorem Handing.grantSystem {f : Frame} (h : Orderly s) (ht : s.arb.tx = none) : Orderly (grantSystem f s) :=
  .inspectOutbound (h.takeHead.setArb fun i => by simp [ht])

theorem Handing.lineTxGrant (h : Orderly s) (e : execLineTxGrant s = .next t) : Orderly t := by
  unfold execLineTxGrant at e
  split at e <;> cases e
  · rename_i hidle
    obtain ⟨-, ht⟩ := hidle
    have reply (i : Nat) (hi : s.reply.queue.head? = some i) : Orderly (Machine.grantReply i s) := by
      obtain ⟨q, hq⟩ := List.head?_eq_some_iff.1 hi
      exact h.grantReply hq ht
    unfold grantLine
    split
    · exact reply _ ‹_›
    · exact h.grantSystem ht
    · split
      · exact reply _ ‹_›
      · exact h.grantSystem ht
    · exact h
  · exact h

theorem Handing.lineTxDone (h : Orderly s) (e : execLineTxDone s = .next t) : Orderly t := by
  unfold execLineTxDone at e
  split at e <;> cases e
  · exact h
  · exact h.replySent ‹_›
  · rename_i ht
    exact h.setArb fun i => by simp [ht]

theorem Handing.systemFrameDiscard (h : Orderly s) (e : execSystemFrameDiscard s = .next t) : Orderly t := by
  unfold execSystemFrameDiscard at e
  split at e
  · split at e <;> cases e
    · exact h.takeHead.inspectOutbound.bump
    · exact h
  · cases e
    exact h

theorem sendItem_sys_tx (e : EgressStream) (x : EgressTx) (s : State) : (sendItem e x s).sys.tx = some x := rfl

/-- A grant of the link to the laptop puts a notice in delivery only from the notice order (R128, R181). -/
theorem Handing.sendItem {stream : EgressStream} {x : EgressTx} (h : Orderly s)
    (hx : ∀ i, x.item = .rehearsal i → i ∈ s.reply.notices) : Orderly (sendItem stream x s) where
  orders := h.orders.frame rfl (fun _ => .rfl) fun i hi => hx i (by simpa [sendItem_sys_tx] using hi)
  nodup := h.nodup
  free := nofun
  waits := h.waits

theorem controlOffer_rehearsal {x : EgressTx} {i : Nat} (hx : controlOffer s = some x)
    (hi : x.item = .rehearsal i) : i ∈ s.reply.notices := by
  unfold controlOffer at hx
  split at hx <;> cases hx
  · cases hi
  · rename_i hn
    cases hi
    simp [hn]

theorem holdItem_ne_rehearsal {x : EgressTx} (hx : holdItem s = some x) (i : Nat) :
    x.item ≠ .rehearsal i := by
  unfold holdItem at hx
  dsimp only at hx
  split at hx
  · split at hx <;> cases hx
    exact nofun
  · split at hx <;> cases hx
    · exact nofun
    · exact nofun
  all_goals cases hx
  all_goals exact nofun

theorem dataOffer_ne_rehearsal {x : EgressTx} (hx : dataOffer s = some x) (i : Nat) :
    x.item ≠ .rehearsal i := by
  unfold dataOffer at hx
  split at hx
  · cases hx
    exact nofun
  · split at hx
    · exact holdItem_ne_rehearsal hx i
    · cases hx

theorem Handing.sysEgressGrant (h : Orderly s) (e : execSysEgressGrant s = .next t) : Orderly t := by
  have data (x : EgressTx) (hx : dataOffer s = some x) : Orderly (Machine.sendItem .data x s) :=
    h.sendItem fun i hi => absurd hi (dataOffer_ne_rehearsal hx i)
  have control (x : EgressTx) (hx : controlOffer s = some x) : Orderly (Machine.sendItem .control x s) :=
    h.sendItem fun _ => controlOffer_rehearsal hx
  unfold execSysEgressGrant at e
  split at e <;> cases e
  · unfold grantEgress
    split
    · exact data _ ‹_›
    · exact control _ ‹_›
    · split
      · exact data _ ‹_›
      · exact control _ ‹_›
    · exact h
  · exact h

/-- An item told complete hands on the slot of a notice, and no other item touches the slots. -/
theorem Handing.completeItem {item : EgressItem} (h : Orderly s) (ht : s.sys.tx = none)
    (hi : ∀ i, item = .rehearsal i → i ∈ s.reply.notices) : Orderly (completeItem item s) := by
  cases item with
  | rehearsal i => exact h.noticeDelivered (hi i rfl) ht
  | forward => exact h.setSys (.inr rfl)
  | response => exact h.frame ⟨rfl, rfl, rfl, id⟩
  | holdLead => exact .endDrain (h.frame (by simp))
  | holdNotice => exact .endDrain (h.frame (by simp))
  | holdFrame => exact .endDrain (h.frame (by simp))
  | holdLoss => exact .endDrain (h.frame (by simp))

theorem Handing.sysDeliveryDone (h : Orderly s) (e : execSysDeliveryDone s = .next t) : Orderly t := by
  unfold execSysDeliveryDone at e
  split at e <;> cases e
  · exact h
  · rename_i x hx
    have idle : Orderly (s.setSys { s.sys with tx := none }) := h.setSys (.inl rfl)
    exact idle.completeItem rfl fun i hi => h.orders.delivers i (by simp [hx, hi])

/-! #### Every command -/

theorem exec_orderly (e : exec c s = .next t) (h : Orderly s) : Orderly t := by
  cases c with
  | powerOnReset => cases e; exact orderly_powerOnReset s
  | softReset => cases e; exact h.takeCommand fun _ u _ => orderly_softReset u
  | identify => cases e; exact h.takeCommand fun _ _ hu => hu
  | readStatus => cases e; exact h.takeCommand fun _ u hu => hu.frame (t := clearLatch u) (by simp)
  | writeConfig =>
    cases e
    exact h.takeCommand fun _ _ hu => hu.writing (hu.storing fun _ _ => hu.frame (by simp))
  | readConfig => cases e; exact h.takeCommand fun _ _ hu => hu
  | writeMatch => cases e; exact h.indexedWrite fun _ _ _ hu => hu.frame (by simp)
  | readMatch => cases e; exact h.indexedRead
  | writeIdentity => cases e; exact h.indexedWrite fun _ _ _ hu => hu.frame (by simp)
  | readIdentity => cases e; exact h.indexedRead
  | writeName => cases e; exact h.indexedWrite fun _ _ _ hu => hu.frame (by simp)
  | readName => cases e; exact h.indexedRead
  | writeSession => cases e; exact h.indexedWrite fun _ _ _ hu => hu.frame (by simp)
  | readSession => cases e; exact h.indexedRead
  | writeAlarm => cases e; exact h.indexedWrite fun _ _ _ hu => hu.frame (by simp)
  | readAlarm => cases e; exact h.indexedRead
  | clearTable =>
    cases e
    exact h.takeCommand fun _ _ hu => hu.writing (hu.storing fun _ hx => hu.clearedTable hx)
  | enterGuard => cases e; exact h.takeCommand fun _ _ hu => hu.enterGuard
  | leaveGuard => cases e; exact h.takeCommand fun _ _ hu => hu.leaveGuard
  | readWakeRecord =>
    cases e
    exact h.takeCommand fun _ u hu => hu.frame (t := u.setWake { u.wake with record := none }) (by simp)
  | readCounters => cases e; exact h.takeCommand fun _ _ hu => hu.readCounters
  | badControlFrame => exact h.badControlFrame e
  | unknownCommand => exact h.unknownCommand e
  | tick => cases e; exact h.frame (by simp)
  | linkDown receiving => exact h.linkDown e
  | linkUp => exact h.linkUp e
  | systemReadyRise => exact h.systemReadyRise e
  | systemReadyFall => exact h.systemReadyFall e
  | lineFrameReceived rx => exact h.lineFrameReceived e
  | sysFrameReceived rx => exact h.sysFrameReceived e
  | parseFrame => exact h.parseFrame e
  | classifyFrame => exact h.classifyFrame e
  | sessionTimerExpiry i => exact h.sessionTimerExpiry e
  | expiryAnswer i => exact h.expiryAnswer e
  | alarmExpiry n => exact h.alarmExpiry e
  | quietIntervalEnd => cases e; exact h.frame (by simp)
  | wakeRequest place => exact h.wakeRequest e
  | pulseEnd => cases e; exact h.frame (by simp)
  | resumeWindowEnd => cases e; exact h.frame (by simp)
  | holdAppend => exact h.holdAppend e
  | lineTxGrant => exact h.lineTxGrant e
  | lineTxDone => exact h.lineTxDone e
  | systemFrameDiscard => exact h.systemFrameDiscard e
  | sysEgressGrant => exact h.sysEgressGrant e
  | sysDeliveryDone => exact h.sysDeliveryDone e

/-- Settles O57: every command keeps the slots in order, and a step runs one on the rest of the queue. -/
theorem slotsStayInOrder : Obligations.SlotsStayInOrder := by
  intro c s t e _ ho hw
  have h : Orderly s := orderly_iff.2 ⟨ho, hw⟩
  refine orderly_iff.1 ?_
  rcases e with e | e
  · exact exec_orderly e h
  · unfold step at e
    split at e
    · cases e
      exact h
    · exact exec_orderly e (h.frame (by simp))

end orderlyCommands
end Sys2Proof.Machine

namespace Sys2Proof.Machine

/-! ### The line transmitter (O37) -/

section transmitter
variable {s : State} {f : Frame} {i : Nat} {q : List Nat} {rest : List Frame}

/-- PASS and DRAIN are not guard, so a frame that leaves is not inspected (R119). -/
theorem inspectOutbound_outside (hm : s.modeCtl.mode = .pass ∨ s.modeCtl.mode = .drain) :
    inspectOutbound f s = s := by
  have outside : inGuard s = false := by rcases hm with h | h <;> simp [inGuard, h]
  simp [inspectOutbound, outside]

theorem takeHead_of_cons (h : s.sys.rx = f :: rest) :
    takeHead s = { s with sys := { s.sys with rx := rest } } := by
  simp [takeHead, State.setSys, h]

/-- The reply queue is served where no data frame waits, or one that was served last (R137). -/
theorem grantLine_of_reply (hq : s.reply.queue = i :: q) (hr : s.arb.last = .system ∨ dataHead s = none) :
    grantLine s = grantReply i s := by
  cases hd : dataHead s with
  | none => simp only [grantLine, hq, hd, List.head?_cons]
  | some f =>
    have last : s.arb.last = .system := hr.resolve_right (by simp [hd])
    simp [grantLine, hq, hd, last]

theorem grantReply_of_cons (hq : s.reply.queue = i :: q) :
    grantReply i s =
      { s with
        arb := ⟨some (.reply i), .reply⟩
        reply :=
          { s.reply with
            slots := s.reply.slots.modify i fun x => { x with state := .sending }
            queue := q } } := by
  simp [grantReply, State.setReply, State.setArb, hq]

theorem exec_lineTxDone_of_reply (h : s.arb.tx = some (.reply i)) :
    exec .lineTxDone s = .next (State.handedOn { s with arb := { s.arb with tx := none } } i) := by
  simp only [exec, execLineTxDone, h, freeAndHandOn_eq_handedOn]
  rfl

theorem exec_lineTxDone_of_system (h : s.arb.tx = some (.system f)) :
    exec .lineTxDone s = .next { s with arb := { s.arb with tx := none } } := by
  simp only [exec, execLineTxDone, h]
  rfl

/-- Settles O37: the arbiter's choice at a grant, the two ends of a transmission, and a discard. -/
theorem lineTransmitter : Obligations.LineTransmitter := by
  refine fun s => ⟨fun i q hup hidle hq hr => ?_, fun f rest hup hidle hrx hd hr hm => ?_, fun h => ?_,
    fun i => exec_lineTxDone_of_reply, fun f => exec_lineTxDone_of_system, fun f rest hdown hrx hd hm => ?_⟩
  · have granted : exec .lineTxGrant s = .next (grantLine s) := if_pos ⟨hup, hidle⟩
    rw [granted, grantLine_of_reply hq hr, grantReply_of_cons hq]
  · rw [exec_lineTxGrant_of_data (dataHead_of_data hrx hd) hup hidle hr.symm, takeHead_of_cons hrx,
      inspectOutbound_outside]
    · rfl
    · exact hm
  · exact if_neg fun ⟨hup, hidle⟩ => h.elim (by simp [hup]) (· hidle)
  · rw [exec_systemFrameDiscard_of_data (dataHead_of_data hrx hd) hdown, takeHead_of_cons hrx,
      inspectOutbound_outside]
    exact hm

end transmitter
end Sys2Proof.Machine

namespace Sys2Proof.Machine

/-! ### Ones'-complement sums (O53) -/

section checksums
variable {b c m : Frame} {n : Nat}

/-! #### The folded number (R133, step 3) -/

theorem foldCarries_spec (fuel n : Nat) (h : n ≤ fuel) :
    foldCarries fuel n < 65536 ∧ foldCarries fuel n % 65535 = n % 65535
      ∧ (foldCarries fuel n = 0 ↔ n = 0) := by
  induction fuel generalizing n with
  | zero =>
    obtain rfl := Nat.le_zero.1 h
    simp [foldCarries]
  | succ fuel ih =>
    rw [foldCarries]
    split
    · rename_i fits
      exact ⟨fits, rfl, Iff.rfl⟩
    · have round := ih (n / 65536 + n % 65536) (by omega)
      omega

/-- The folded number stands for the same residue, and 0 for 0 alone. -/
theorem fold16_spec (n : Nat) : fold16 n < 65536 ∧ fold16 n % 65535 = n % 65535 ∧ (fold16 n = 0 ↔ n = 0) :=
  foldCarries_spec n n (Nat.le_refl n)

/-! #### Sums of words (R133, steps 1 and 2) -/

/-- A run of whole words adds its sum to that of what follows it. -/
theorem wordSum_append (h : b.length % 2 = 0) : wordSum (b ++ c) = wordSum b + wordSum c := by
  induction b using wordSum.induct with
  | case1 x y r ih =>
    have even : r.length % 2 = 0 := by simpa [Nat.add_assoc] using h
    simp only [List.cons_append, wordSum, ih even]
    omega
  | case2 x => simp at h
  | case3 => simp [wordSum]

theorem wordSum_toBytes_two (h : n < 65536) : wordSum (toBytes 2 n ++ c) = n + wordSum c := by
  simp only [toBytes, List.cons_append, List.nil_append, wordSum, BitVec.toNat_ofNat]
  omega

/-- The two words at the front of a message and the words behind them. -/
theorem wordSum_eq_of_four_le (h : 4 ≤ m.length) :
    wordSum m = beNat m 0 2 + beNat m 2 2 + wordSum (m.drop 4) := by
  match m, h with
  | w :: x :: y :: z :: r, _ =>
    simp only [wordSum, beNat, byteAt, List.drop_succ_cons, List.drop_zero, List.getD_cons_zero,
      List.getD_cons_succ]
    omega

theorem wordSum_eq_zero_iff (b : Frame) : wordSum b = 0 ↔ b.all (· == 0) = true := by
  have byte (x : Byte) : x.toNat = 0 ↔ x = 0 := BitVec.toNat_inj (y := 0)
  induction b using wordSum.induct with
  | case1 x y r ih =>
    simp only [wordSum, List.all_cons, Bool.and_eq_true, beq_iff_eq, ← ih, ← byte]
    omega
  | case2 x =>
    simp only [wordSum, List.all_cons, List.all_nil, Bool.and_true, beq_iff_eq, ← byte]
    omega
  | case3 => simp [wordSum]

/-- A run is good when its words sum to a multiple of 0xFFFF other than 0. -/
theorem sumGood_iff : sumGood b = true ↔ wordSum b ≠ 0 ∧ wordSum b % 65535 = 0 := by
  have folded := fold16_spec (wordSum b)
  rw [sumGood, beq_iff_eq, onesSum]
  omega

/-! #### Checksums computed in full (R133, R134) -/

/-- What is put into the field makes up the sum of the rest, whatever of 0 and 0xFFFF stands for 0. -/
theorem withChecksum_good {pseudo before after : Frame} {field : Nat → Nat} (hp : pseudo.length % 2 = 0)
    (hb : before.length % 2 = 0) (hf : ∀ x < 65536, field x = x ∨ x = 0 ∧ field x = 65535) :
    sumGood (pseudo ++ withChecksum pseudo before after field) = true := by
  have rest : wordSum (pseudo ++ before ++ [0, 0] ++ after) =
      wordSum pseudo + wordSum before + wordSum after := by
    rw [List.append_assoc, List.append_assoc, wordSum_append hp, wordSum_append hb]
    simp [wordSum]
    omega
  have folded := fold16_spec (wordSum (pseudo ++ before ++ [0, 0] ++ after))
  have made := hf (checksum (pseudo ++ before ++ [0, 0] ++ after)) (by unfold checksum; omega)
  rw [sumGood_iff, withChecksum, List.append_assoc, wordSum_append hp, wordSum_append hb]
  generalize field _ = x at made ⊢
  rw [checksum, onesSum] at made
  rw [wordSum_toBytes_two (by omega)]
  omega

theorem udpZeroRule_eq (n : Nat) : udpZeroRule n = n ∧ n ≠ 0 ∨ n = 0 ∧ udpZeroRule n = 65535 := by
  unfold udpZeroRule
  split <;> omega

/-- The field of a UDP checksum never reads 0 (R134). -/
theorem udpChecksum_ne_zero (pseudo before after : Frame) :
    beNat (withChecksum pseudo before after udpZeroRule) before.length 2 ≠ 0 := by
  have sent := udpZeroRule_eq (checksum (pseudo ++ before ++ [0, 0] ++ after))
  have bound : checksum (pseudo ++ before ++ [0, 0] ++ after) < 65536 := by unfold checksum; omega
  rw [withChecksum, List.append_assoc, beNat_append_of_le (Nat.le_refl _), Nat.sub_self,
    beNat_toBytes_of_lt (by omega)]
  omega

/-! #### The one-word update (R135) -/

/-- The update exchanges the old word for the new one in the sum. -/
theorem updatedChecksum_spec {hc old new : Nat} (hh : hc < 65536) (ho : old < 65536) :
    updatedChecksum hc old new < 65536 ∧ (updatedChecksum hc old new + new) % 65535 = (hc + old) % 65535 := by
  have folded := fold16_spec ((0xFFFF - hc) + (0xFFFF - old) + new)
  unfold updatedChecksum
  omega

/-- The message of an echo reply is its type word, its checksum and the request's rest. -/
theorem echoMessage_v4 (a : BitVec 32) (m : Frame) :
    echoMessage (.v4 a) m =
      toBytes 2 0 ++ (toBytes 2
        (if (m.drop 4).all (· == 0) then 0xFFFF else updatedChecksum (beNat m 2 2) 0x0800 0) ++ m.drop 4) :=
  List.append_assoc ..

theorem echoMessage_v6 (a : BitVec 128) (m : Frame) :
    echoMessage (.v6 a) m =
      toBytes 2 0x8100 ++ (toBytes 2 (updatedChecksum (beNat m 2 2) 0x8000 0x8100) ++ m.drop 4) :=
  List.append_assoc ..

/-- An echo reply in IPv4 with its checksum in place is good over the message alone. -/
theorem sumGood_echoMessage_v4 (a : BitVec 32) (hl : 4 ≤ m.length) (ht : beNat m 0 2 = 0x0800)
    (hm : sumGood m = true) : sumGood (echoMessage (.v4 a) m) = true := by
  have words := wordSum_eq_of_four_le hl
  have updated := updatedChecksum_spec (new := 0) (beNat_lt m 2 2) (show 0x0800 < 65536 by decide)
  have zero := wordSum_eq_zero_iff (m.drop 4)
  rw [sumGood_iff] at hm ⊢
  rw [echoMessage_v4, wordSum_toBytes_two (by decide)]
  split
  · rename_i zeros
    rw [wordSum_toBytes_two (by decide), zero.2 zeros]
    decide
  · rename_i other
    have nonzero : wordSum (m.drop 4) ≠ 0 := mt zero.1 other
    rw [wordSum_toBytes_two updated.1]
    omega

/-- The pseudo-header of the reply sums to that of the request. -/
theorem wordSum_pseudoHeader_swap (a b : BitVec 128) (len proto : Nat) :
    wordSum (pseudoHeader (.v6 a) (.v6 b) len proto) = wordSum (pseudoHeader (.v6 b) (.v6 a) len proto) := by
  simp only [pseudoHeader, addrBytes, List.append_assoc]
  have address (a : BitVec 128) : (toBytes 16 a.toNat).length % 2 = 0 := by simp
  simp only [wordSum_append (address a), wordSum_append (address b)]
  omega

/-- An echo reply in IPv6 is good over the pseudo-header with the addresses in swapped places. -/
theorem sumGood_echoMessage_v6 (a b : BitVec 128) (hl : 4 ≤ m.length) (ht : beNat m 0 2 = 0x8000)
    (hm : sumGood (pseudoHeader (.v6 a) (.v6 b) m.length 58 ++ m) = true) :
    sumGood (pseudoHeader (.v6 b) (.v6 a) m.length 58 ++ echoMessage (.v6 b) m) = true := by
  have even (a b : BitVec 128) : (pseudoHeader (.v6 a) (.v6 b) m.length 58).length % 2 = 0 := by
    simp [pseudoHeader, addrBytes]
  have words := wordSum_eq_of_four_le hl
  have updated := updatedChecksum_spec (new := 0x8100) (beNat_lt m 2 2) (show 0x8000 < 65536 by decide)
  rw [sumGood_iff, wordSum_append (even a b), wordSum_pseudoHeader_swap] at hm
  rw [sumGood_iff, wordSum_append (even b a), echoMessage_v6, wordSum_toBytes_two (by decide),
    wordSum_toBytes_two updated.1]
  omega

/-- Settles O53, by the residue modulo 0xFFFF that a sum of words stands for. -/
theorem checksumsAreGood : Obligations.ChecksumsAreGood := by
  refine ⟨fun pseudo before after hp hb => ⟨?_, ?_, udpChecksum_ne_zero pseudo before after⟩,
    fun a m hl ht hm => ⟨sumGood_echoMessage_v4 a (by omega) ht hm, ?_, ?_⟩,
    fun a b m hl ht hm => ⟨sumGood_echoMessage_v6 a b (by omega) ht hm, ?_, ?_⟩⟩
  · exact withChecksum_good hp hb fun _ _ => .inl rfl
  · exact withChecksum_good hp hb fun x _ => (udpZeroRule_eq x).imp And.left id
  · rw [echoMessage_v4, beNat_toBytes_of_lt (by decide)]
  · rw [echoMessage_v4]; simp [toBytes]
  · rw [echoMessage_v6, beNat_toBytes_of_lt (by decide)]
  · rw [echoMessage_v6]; simp [toBytes]

end checksums
end Sys2Proof.Machine

namespace Sys2Proof.Machine

/-! ### The time base, the timers and the alarms (O20 to O23) -/

section timeBase
variable {s : State} {t : Timer} {i n : Nat} {x : ExpiryNotice}

/-! #### What the tick before has left over (R142, log 6) -/

theorem pulseEnd_of_running (h : s.modeCtl.pulse ≠ some 0) : pulseEnd s = s :=
  if_neg fun ⟨_, _, ended⟩ => h ended

theorem resumeWindowEnd_of_open (h : s.modeCtl.window ≠ some 0) : resumeWindowEnd s = s := if_neg h

theorem takeHeldTick_of_not_held (h : s.wake.tickHeld = false) : takeHeldTick s = s := by
  rw [takeHeldTick, h]
  rfl

theorem settleTick_of_settled (hp : s.modeCtl.pulse ≠ some 0) (hw : s.modeCtl.window ≠ some 0)
    (hh : s.wake.tickHeld = false) : settleTick s = s := by
  rw [settleTick, pulseEnd_of_running hp, resumeWindowEnd_of_open hw, takeHeldTick_of_not_held hh]

theorem exec_tick : exec .tick s = .next (countTick (settleTick s)) := rfl

/-! #### A timer at a tick (R147) -/

theorem Timer.expires_eq_decide (t : Timer) :
    t.expires = (decide (t.state = .running) && !t.outstanding && decide (t.count - 1 = 0)) := by
  rw [Timer.expires, Bool.beq_eq_decide_eq, Bool.beq_eq_decide_eq]

theorem Timer.tick_of_count (hs : t.state = .running) (ho : t.outstanding = false) (n : Nat) :
    Timer.tick { t with count := n + 1 } = { t with count := n, outstanding := decide (n = 0) } :=
  if_pos ⟨hs, ho⟩

theorem Timer.expires_of_count (hs : t.state = .running) (ho : t.outstanding = false) (n : Nat) :
    Timer.expires { t with count := n + 1 } = decide (n = 0) := by
  simp [Timer.expires_eq_decide, hs, ho]

/-- Among the notices of a tick those of one timer are one, if it expires, or none. -/
theorem filter_expiriesFrom (ts : List Timer) (hi : i < ts.length) :
    (expiriesFrom 0 ts).filter (fun x => x.timer == i) =
      if (ts.getD i Timer.powerOn).expires then [⟨i, (ts.getD i Timer.powerOn).staged.isSome⟩] else [] := by
  have once : (List.range ts.length).filter (· == i) = [i] := by
    rw [List.filter_beq, List.count_range, if_pos hi]
    rfl
  simp only [expiriesFrom_eq_filter, Nat.zero_add, List.filter_map, Function.comp_def, List.filter_filter,
    Bool.and_comm (_ == i)]
  rw [← List.filter_filter, once]
  simp only [List.filter_cons, List.filter_nil]
  split <;> rfl

/-! #### TICK (R142 to R144, R147, R161, R13) -/

/-- The tick reaches every block as its rule says. -/
theorem countTick_eq (hp : s.modeCtl.pulse ≠ some 0) (hw : s.modeCtl.window ≠ some 0) :
    countTick s =
      { s with
        modeCtl :=
          { s.modeCtl with pulse := s.modeCtl.pulse.map (· - 1), window := s.modeCtl.window.map (· - 1) }
        bank := tickAtBank (inGuard s) s.bank
        wake := tickAtWake s.ctl.cfg s.wake } := by
  rw [← countDown_eq_map hp, ← countDown_eq_map hw]
  rfl

theorem tickAtBank_inGuard (s : State) :
    tickAtBank (inGuard s) s.bank =
      { s.bank with
        tick := s.bank.tick + 1
        elapsed :=
          if s.modeCtl.mode = .guard ∨ s.modeCtl.mode = .waking then s.bank.elapsed + 1 else s.bank.elapsed
        timers := s.bank.timers.map Timer.tick
        notices :=
          s.bank.notices
            ++ ((List.range s.bank.timers.length).filter fun i => (s.timer i).expires).map
                fun i => ⟨i, (s.timer i).staged.isSome⟩ } := by
  simp [tickAtBank, inGuard, expiriesFrom_eq_filter, State.timer]

/-- Settles O20, by what each block makes of a tick. -/
theorem tickCounts : Obligations.TickCounts := by
  refine ⟨fun s s1 s2 s3 h1 h2 h3 hp hw hh => ?_, fun s hp hw hh => ?_⟩
  · cases h1
    cases h2
    cases h3
    rw [exec_tick, exec_tick, settleTick_of_settled hp hw hh]
    rfl
  · rw [exec_tick, settleTick_of_settled hp hw hh, countTick_eq hp hw, tickAtBank_inGuard]
    simp only [Timer.expires_eq_decide]
    rfl

/-! #### A timer over many ticks (R147) -/

theorem ticked_succ (k : Nat) (s : State) : ticked (k + 1) s = countTick (settleTick (ticked k s)) := by
  induction k generalizing s with
  | zero => rfl
  | succ k ih => exact ih (countTick (settleTick s))

theorem bank_countTick_settleTick (s : State) :
    (countTick (settleTick s)).bank = tickAtBank (inGuard (settleTick s)) s.bank := by
  rw [← settleTick_bank s]
  rfl

theorem timer_countTick_settleTick (s : State) (i : Nat) :
    (countTick (settleTick s)).timer i = (s.timer i).tick := by
  rw [State.timer, bank_countTick_settleTick]
  simp only [State.timer, tickAtBank, List.getD_eq_getElem?_getD, List.getElem?_map]
  exact Option.getD_map Timer.tick Timer.powerOn _

theorem length_timers_ticked (k : Nat) (s : State) : (ticked k s).bank.timers.length = s.bank.timers.length := by
  induction k with
  | zero => rfl
  | succ k ih =>
    rw [ticked_succ, bank_countTick_settleTick, ← ih]
    exact List.length_map ..

/-- The notices of one timer after a tick: a further one if the timer expires. -/
theorem notices_countTick_settleTick (hi : i < s.bank.timers.length) :
    ((countTick (settleTick s)).bank.notices.filter fun x => x.timer == i) =
      (s.bank.notices.filter fun x => x.timer == i)
        ++ if (s.timer i).expires then [⟨i, (s.timer i).staged.isSome⟩] else [] := by
  rw [bank_countTick_settleTick, State.timer, ← filter_expiriesFrom s.bank.timers hi]
  exact List.filter_append ..

theorem notices_ticked_succ (hi : i < s.bank.timers.length) (k : Nat) :
    ((ticked (k + 1) s).bank.notices.filter fun x => x.timer == i) =
      ((ticked k s).bank.notices.filter fun x => x.timer == i)
        ++ if ((ticked k s).timer i).expires then [⟨i, ((ticked k s).timer i).staged.isSome⟩] else [] := by
  rw [ticked_succ]
  exact notices_countTick_settleTick (length_timers_ticked k s ▸ hi)

theorem timer_ticked_succ (k : Nat) (s : State) (i : Nat) :
    (ticked (k + 1) s).timer i = ((ticked k s).timer i).tick := by
  rw [ticked_succ, timer_countTick_settleTick]

/-- Before its last tick a RUNNING timer counts, and no notice of it is added. -/
theorem ticked_before_expiry (hi : i < s.bank.timers.length) (hs : (s.timer i).state = .running)
    (ho : (s.timer i).outstanding = false) (hc : (s.timer i).count = n + 1) {k : Nat} (hk : k ≤ n) :
    (ticked k s).timer i = { s.timer i with count := n + 1 - k }
      ∧ ((ticked k s).bank.notices.filter fun x => x.timer == i)
          = s.bank.notices.filter fun x => x.timer == i := by
  induction k with
  | zero => exact ⟨by rw [Nat.sub_zero, ← hc]; rfl, rfl⟩
  | succ k ih =>
    obtain ⟨timer, notices⟩ := ih (by omega)
    rw [Nat.sub_add_comm (by omega)] at timer
    have more : n - k ≠ 0 := by omega
    rw [timer_ticked_succ, notices_ticked_succ hi, timer, notices, Timer.tick_of_count hs ho,
      Timer.expires_of_count hs ho]
    simp [more, ho]

/-- Settles O21: a timer that has counted to 1 expires at the next tick. -/
theorem timerExpiresAtItsCount : Obligations.TimerExpiresAtItsCount := by
  intro s i n hi hs ho hc
  obtain ⟨timer, notices⟩ := ticked_before_expiry hi hs ho hc (Nat.le_refl n)
  rw [Nat.add_sub_cancel_left] at timer
  refine ⟨fun k hk => ticked_before_expiry hi hs ho hc hk, ?_, ?_⟩
  · rw [timer_ticked_succ, timer]
    exact Timer.tick_of_count hs ho 0
  · rw [notices_ticked_succ hi, timer, notices, Timer.expires_of_count hs ho 0]
    rfl

/-! #### EXPIRY_ANSWER (R147) -/

/-- Settles O22: the bank's answer is the table of R147. -/
theorem expiryAnswerFinishes : Obligations.ExpiryAnswerFinishes := by
  refine fun s i => ⟨fun hi => ?_, fun hi => ?_⟩
  · rw [← answered_eq_reloaded]
    exact if_pos (List.contains_iff_mem.2 hi)
  · exact if_neg (mt List.contains_iff_mem.1 hi)

/-! #### ALARM_EXPIRY (R152) -/

/-- The oldest notice is taken, and a RUNNING alarm expires. -/
theorem exec_alarmExpiry_of_notice (hx : s.bank.notices.find? (fun y => y.timer == 8 + n) = some x) :
    exec (.alarmExpiry n) s =
      if (s.alarm n).state = .running then .next (alarmExpires n (s.noticed x)) else .next (s.noticed x) := by
  change execAlarmExpiry n s = _
  rw [execAlarmExpiry, alarmTimer, takeNotice_of_find hx]
  rfl

theorem alarmExpires_eq (n : Nat) (s : State) :
    alarmExpires n s =
      { s with
        bank :=
          { s.bank with
            alarms :=
              if (s.alarm n).mode = .oneShot then
                s.bank.alarms.modify n fun a => { a with state := .fired }
              else s.bank.alarms
            timers := s.bank.timers.modify (8 + n) reloaded }
        wake :=
          { s.wake with
            requests := s.wake.requests ++ [⟨(s.alarm n).cls, .alarm, n, none, false⟩] } } := by
  rw [alarmExpires, answered_eq_reloaded]
  split <;> rfl

/-- Settles O23, by whether the alarm runs. (In `Machine` itself `alarmExpires` is the model's operation.) -/
theorem Settled.alarmExpires : Obligations.AlarmExpires := by
  refine fun s n x hx => ⟨fun hr => ?_, fun hr => ?_⟩
  · rw [exec_alarmExpiry_of_notice hx, if_pos hr, alarmExpires_eq]
    rfl
  · exact (exec_alarmExpiry_of_notice hx).trans (if_neg hr)

end timeBase
end Sys2Proof.Machine

namespace Sys2Proof.Machine

/-! ### The wake controller (O26 to O30) and its record (O16) -/

section wakeControl
variable {s : State} {r : WakeRequest} {place : Nat}

/-! #### A request taken (R154) -/

/-- The state whose wake controller has taken the request at a place and not yet judged it. -/
def State.withoutRequest (s : State) (place : Nat) : State :=
  { s with wake := { s.wake with requests := s.wake.requests.eraseIdx place } }

/-- WAKE_REQUEST judges the request that it takes; DRAIN may end with it. -/
theorem exec_wakeRequest_of_some (h : s.wake.requests[place]? = some r) :
    exec (.wakeRequest place) s = .next (endDrain (judgeRequest r (s.withoutRequest place))) :=
  execWakeRequest_of_some h

theorem judgeRequest_mode_ne_drain (h : s.modeCtl.mode ≠ .drain) :
    (judgeRequest r s).modeCtl.mode ≠ .drain := by
  rcases judgeRequest_modeCtl r s with same | ⟨-, waking⟩ | ⟨-, waking⟩
  · rwa [same]
  · simp [waking]
  · simp [waking]

/-- Outside DRAIN the judgement is the whole step. -/
theorem exec_wakeRequest_of_not_drain (h : s.wake.requests[place]? = some r)
    (hm : s.modeCtl.mode ≠ .drain) :
    exec (.wakeRequest place) s = .next (judgeRequest r (s.withoutRequest place)) := by
  have kept : (s.withoutRequest place).modeCtl.mode ≠ .drain := hm
  rw [exec_wakeRequest_of_some h, endDrain_of_not_drain (judgeRequest_mode_ne_drain kept)]

/-! #### The judgement, by the mode (R157, R163, R164) -/

theorem belowPolicy_iff {c : ConfigRecord} {cls : Nat} :
    belowPolicy c cls = true ↔ cls = 0 ∨ cls < c.baseThreshold := by
  simp [belowPolicy]

theorem belowPolicy_eq_false {c : ConfigRecord} {cls : Nat} (h0 : cls ≠ 0) (hb : c.baseThreshold ≤ cls) :
    belowPolicy c cls = false := by
  simp [belowPolicy, h0, hb]

theorem judgeRequest_of_rehearsal (hr : r.rehearsal = true) : judgeRequest r s = bump .rehearsalWakes s :=
  if_pos hr

theorem judgeRequest_of_pass (hr : r.rehearsal = false) (hm : s.modeCtl.mode = .pass) :
    judgeRequest r s = s := by
  simp only [judgeRequest, hr, hm, Bool.false_eq_true, if_false]

theorem judgeRequest_of_drain (hr : r.rehearsal = false) (hm : s.modeCtl.mode = .drain) :
    judgeRequest r s = holdRequestFrame .follower r s := by
  simp only [judgeRequest, hr, hm, Bool.false_eq_true, if_false]

/-- Below policy GUARD and WAKING judge alike (R157). -/
theorem judgeRequest_of_below (hr : r.rehearsal = false)
    (hm : s.modeCtl.mode = .guard ∨ s.modeCtl.mode = .waking)
    (hb : r.cls = 0 ∨ r.cls < s.ctl.cfg.baseThreshold) : judgeRequest r s = bump .wakeBelow s := by
  have below : belowPolicy s.ctl.cfg r.cls = true := belowPolicy_iff.2 hb
  rcases hm with hm | hm
  · simp only [judgeRequest, hr, hm, below, Bool.false_eq_true, if_false, if_true]
  · simp only [judgeRequest, hr, hm, below, Bool.false_eq_true, if_false, if_true]

theorem judgeRequest_of_guard (hr : r.rehearsal = false) (hm : s.modeCtl.mode = .guard) (h0 : r.cls ≠ 0)
    (hb : s.ctl.cfg.baseThreshold ≤ r.cls) :
    judgeRequest r s =
      if s.threshold ≤ r.cls then assertWake r.cls r.cause r.source r.frame s else suppressRequest r s := by
  simp only [judgeRequest, hr, hm, belowPolicy_eq_false h0 hb, Bool.false_eq_true, if_false]

theorem judgeRequest_of_waking (hr : r.rehearsal = false) (hm : s.modeCtl.mode = .waking) (h0 : r.cls ≠ 0)
    (hb : s.ctl.cfg.baseThreshold ≤ r.cls) : judgeRequest r s = laterCause r s := by
  simp only [judgeRequest, hr, hm, belowPolicy_eq_false h0 hb, Bool.false_eq_true, if_false]

/-! #### A request's frame -/

theorem holdRequestFrame_of_none (h : r.frame = none) (o : Origin) (s : State) :
    holdRequestFrame o r s = s := by
  simp only [holdRequestFrame, h]

theorem holdRequestFrame_of_some {f : HeldFrame} (h : r.frame = some f) (o : Origin) (s : State) :
    holdRequestFrame o r s = (holdAppend o f s).1 := by
  simp only [holdRequestFrame, h]

/-- The hold queue that an append leaves, by the hold queue that it finds. -/
theorem hold_holdAppend_of_eq {o : Origin} {f : HeldFrame} {s t : State} (h : t.hold = s.hold) :
    (holdAppend o f t).1.hold = (holdAppend o f s).1.hold :=
  (holdAppend_congr_hold o f h).1

/-- The serial that an append takes, by the hold queue that it finds. -/
theorem serial_holdAppend_of_eq {o : Origin} {f : HeldFrame} {s t : State} (h : t.hold = s.hold) :
    (holdAppend o f t).2 = (holdAppend o f s).2 :=
  (holdAppend_congr_hold o f h).2

/-! #### The counters that an append can move (R172, R173) -/

theorem counter_bumpTimes_of_ne {a b : Counter} (h : b ≠ a) (n : Nat) (s : State) :
    (bumpTimes n a s).counter b = s.counter b := by
  induction n generalizing s with
  | zero => rfl
  | succ n ih => exact (ih (bump a s)).trans (counter_bump_of_ne h s)

theorem counter_holdAppend {c : Counter} (hc : c ∉ [Counter.holdEvicted, .holdClipped, .holdLost])
    (o : Origin) (f : HeldFrame) (s : State) : (holdAppend o f s).1.counter c = s.counter c := by
  simp only [List.mem_cons, List.not_mem_nil, or_false, not_or] at hc
  obtain ⟨evicted, clipped, lost⟩ := hc
  simp only [holdAppend]
  generalize (if o = .held then (s.hold, 0) else
    s.hold.makeRoom s.hold.records.length (blocksNeeded f.bytes.length)) = room
  have made : (bumpTimes room.2 .holdEvicted (s.setHold room.1)).counter c = s.counter c :=
    counter_bumpTimes_of_ne evicted _ _
  split
  · exact (counter_bumpIf_of_ne clipped _ _).trans made
  · exact (counter_bump_of_ne lost _).trans made

/-! #### The pressure and the record (R158, R161, R165) -/

/-- P with the weight of a class added, saturating at 511 (R158). -/
def raisedPressure (c : ConfigRecord) (cls p : Nat) : Nat := min 511 (p + weightOf c cls)

/-- At L or more the lock is latched and P is H; below it a latched lock stays (R158). -/
theorem addPressure_eq (c : ConfigRecord) (cls : Nat) (w : WakeCtl) :
    addPressure c cls w =
      { w with
        pressure :=
          if c.limL ≤ raisedPressure c cls w.pressure then c.limH else raisedPressure c cls w.pressure
        pstate :=
          if c.limL ≤ raisedPressure c cls w.pressure ∨ w.pstate = .locked then .locked
          else pressureStateOf c (raisedPressure c cls w.pressure) } := by
  change (if c.limL ≤ raisedPressure c cls w.pressure then _
    else retake c { w with pressure := raisedPressure c cls w.pressure }) = _
  generalize raisedPressure c cls w.pressure = p
  by_cases latched : c.limL ≤ p
  · simp [latched]
  · by_cases locked : w.pstate = .locked <;> simp [latched, retake, locked]

/-- P falls by 1; the lock opens at 0, and an unlocked state is taken afresh (R161). -/
theorem easePressure_eq (c : ConfigRecord) (w : WakeCtl) :
    easePressure c w =
      { w with
        pressure := w.pressure - 1
        pstate :=
          if w.pstate = .locked then if w.pressure - 1 = 0 then .openState else .locked
          else pressureStateOf c (w.pressure - 1) } := by
  by_cases locked : w.pstate = .locked
  · simp [easePressure, locked]
  · simp [easePressure, retake, locked]

/-- A captured record stays (R165). -/
theorem captureRecord_eq (k : WakeRecord) (w : WakeCtl) :
    captureRecord k w = { w with record := some (w.record.getD k) } := by
  obtain ⟨_, _, _, _, _, record, _⟩ := w
  cases record <;> rfl

/-! #### A wake asserted (R158) -/

section assertion
variable (cls : Nat) (cause : WakeCause) (source : Nat) (frame : Option HeldFrame) (s : State)

/-- The record of an assertion that finds none captured (R165). -/
def assertionRecord : WakeRecord :=
  ⟨cause, cls, source, s.bank.tick, s.bank.elapsed, s.wake.pressure,
    frame.bind fun f => (holdAppend .trigger f s).2, 0⟩

theorem assertWake_modeCtl :
    (assertWake cls cause source frame s).modeCtl = handshake s.ctl.cfg s.sys.ready s.modeCtl := by
  cases frame <;> simp [assertWake, beginWaking_eq_handshake]

/-- What an assertion makes of the wake controller: the pressure, the quiet counter and the record. -/
theorem assertWake_wake :
    (assertWake cls cause source frame s).wake =
      { addPressure s.ctl.cfg cls s.wake with
        quiet := 0
        record := some (s.wake.record.getD (assertionRecord cls cause source frame s)) } := by
  have record : (addPressure s.ctl.cfg cls s.wake).record = s.wake.record := by rw [addPressure_eq]
  cases frame with
  | none => simp [assertWake, captureRecord_eq, assertionRecord, record]
  | some f =>
    simp [assertWake, captureRecord_eq, assertionRecord, record, serial_holdAppend_of_eq (s := s)]

theorem assertWake_hold_of_none : (assertWake cls cause source none s).hold = s.hold := by
  simp [assertWake]

theorem assertWake_hold_of_some (f : HeldFrame) :
    (assertWake cls cause source (some f) s).hold = (holdAppend .trigger f s).1.hold := by
  rw [assertWake, State.setWake_hold]
  exact hold_holdAppend_of_eq rfl

theorem assertWake_ctl_of_none : (assertWake cls cause source none s).ctl = (bump .wakes s).ctl := rfl

end assertion

/-- The record of an assertion does not depend on the requests on their way. -/
theorem assertionRecord_withoutRequest (cls : Nat) (cause : WakeCause) (source : Nat)
    (frame : Option HeldFrame) (s : State) (place : Nat) :
    assertionRecord cls cause source frame (s.withoutRequest place) =
      assertionRecord cls cause source frame s := by
  have hold : (s.withoutRequest place).hold = s.hold := rfl
  simp only [assertionRecord, serial_holdAppend_of_eq hold]
  rfl

/-- Apart from the append's three counters, an assertion counts as WAKES does. -/
theorem counter_assertWake {c : Counter} (hc : c ∉ [Counter.holdEvicted, .holdClipped, .holdLost])
    (cls : Nat) (cause : WakeCause) (source : Nat) (frame : Option HeldFrame) (s : State) :
    (assertWake cls cause source frame s).counter c = (bump .wakes s).counter c := by
  cases frame with
  | none => rfl
  | some f => exact counter_holdAppend hc .trigger f _

/-- Settles O26: the judgement is the assertion of the request. -/
theorem requestIsAsserted : Obligations.RequestIsAsserted := by
  intro s place r sizes h hr hm h0 hb ht
  obtain ⟨-, -, -, -, -, -, -, -, counters⟩ := sizes
  have judged : judgeRequest r (s.withoutRequest place) =
      assertWake r.cls r.cause r.source r.frame (s.withoutRequest place) :=
    (judgeRequest_of_guard (s := s.withoutRequest place) hr hm h0 hb).trans (if_pos ht)
  refine ⟨_, (exec_wakeRequest_of_not_drain h (by simp [hm])).trans (congrArg _ judged),
    assertWake_modeCtl .., ?_⟩
  rw [assertWake_wake, addPressure_eq, assertionRecord_withoutRequest]
  refine ⟨rfl, rfl, rfl, rfl, fun latched => ⟨if_pos latched, if_pos (.inl latched)⟩, fun free => ?_,
    fun k captured => ?_, fun free => ?_, fun bare => ?_, fun f carried => ?_, ?_, fun c hc => ?_, ?_⟩
  · have unlatched : ¬ s.ctl.cfg.limL ≤ raisedPressure s.ctl.cfg r.cls s.wake.pressure := Nat.not_le.2 free
    simp only [State.withoutRequest, unlatched, if_false, false_or]
    exact ⟨rfl, fun locked => if_pos locked, fun unlocked => if_neg unlocked⟩
  · simp [State.withoutRequest, captured]
  · simp only [State.withoutRequest, free]
    rfl
  · rw [bare, assertWake_hold_of_none]
    rfl
  · rw [carried, assertWake_hold_of_some]
    exact hold_holdAppend_of_eq rfl
  · exact (counter_assertWake (by decide) ..).trans (counter_bump_self counters)
  · rw [List.mem_cons, not_or] at hc
    obtain ⟨wakes, append⟩ := hc
    exact (counter_assertWake append ..).trans (counter_bump_of_ne wakes _)
  · simp [State.withoutRequest]

/-! #### Requests not asserted (R157, R159, R160) -/

theorem suppressRequest_of_dropped (h : r.frame = none ∨ s.ctl.cfg.suppressDrop = true) :
    suppressRequest r s =
      bump .wakeSuppressed { s with wake := { s.wake with deferred := max s.wake.deferred r.cls } } := by
  by_cases drop : s.ctl.cfg.suppressDrop = true
  · exact if_pos drop
  · exact (if_neg drop).trans (holdRequestFrame_of_none (h.resolve_right drop) _ _)

theorem suppressRequest_of_held {f : HeldFrame} (hf : r.frame = some f)
    (hd : s.ctl.cfg.suppressDrop = false) :
    suppressRequest r s =
      (holdAppend .suppressed f
        (bump .wakeSuppressed
          { s with wake := { s.wake with deferred := max s.wake.deferred r.cls } })).1 := by
  have kept : ¬ s.ctl.cfg.suppressDrop = true := by simp [hd]
  exact (if_neg kept).trans (holdRequestFrame_of_some hf _ _)

/-- Settles O27: the request is below policy or suppressed. -/
theorem requestIsNotAsserted : Obligations.RequestIsNotAsserted := by
  intro s place r h hr hm
  have step := exec_wakeRequest_of_not_drain h (by simp [hm])
  refine ⟨fun hb => ?_, fun h0 hb ht => ?_⟩
  · exact step.trans (congrArg _ (judgeRequest_of_below (s := s.withoutRequest place) hr (.inl hm) hb))
  · have suppressed : judgeRequest r (s.withoutRequest place) = suppressRequest r (s.withoutRequest place) :=
      (judgeRequest_of_guard (s := s.withoutRequest place) hr hm h0 hb).trans (if_neg (Nat.not_le.2 ht))
    rw [step, suppressed]
    exact ⟨fun hd => congrArg _ (suppressRequest_of_dropped hd),
      fun f hf hd => congrArg _ (suppressRequest_of_held hf hd)⟩

/-! #### Later causes (R163) -/

theorem restartRequest_of_pulse {c : ConfigRecord} {m : ModeCtl} (hm : m.mode = .waking)
    (hc : c.wakeMode = .pulse) (hs : m.sub = .resumed ∨ m.sub = .unanswered) (ready : Bool) :
    restartRequest c ready m = handshake c ready m := by
  rw [restartRequest, if_pos ⟨hc, hs⟩, ← beginWaking_eq_handshake, beginWaking, hc, ← hm]

theorem restartRequest_of_other {c : ConfigRecord} {m : ModeCtl}
    (h : c.wakeMode = .level ∨ m.sub = .asserted ∨ m.sub = .gap) (ready : Bool) :
    restartRequest c ready m = m := by
  refine if_neg fun ⟨pulse, sub⟩ => ?_
  rcases h with h | h | h <;> simp [h] at pulse sub

/-- The state with a later cause counted in a captured record. -/
def State.laterCounted (s : State) : State :=
  { s with
    wake := { s.wake with record := s.wake.record.map fun k => { k with later := satBump k.later } } }

/-- A later cause is counted and its frame held, and at or above the effective threshold it is a restart
request. -/
theorem laterCause_eq (r : WakeRequest) (s : State) :
    laterCause r s =
      (holdRequestFrame .follower r s.laterCounted).setModeCtl
        (if s.threshold ≤ r.cls then restartRequest s.ctl.cfg s.sys.ready s.modeCtl else s.modeCtl) := by
  have threshold : (holdRequestFrame .follower r s.laterCounted).threshold = s.threshold := by
    rw [State.threshold, holdRequestFrame_wake, holdRequestFrame_ctl_cfg]
    rfl
  by_cases asks : s.threshold ≤ r.cls
  · refine (if_pos (Nat.le_trans (Nat.le_of_eq threshold) asks)).trans ?_
    rw [if_pos asks, holdRequestFrame_ctl_cfg, holdRequestFrame_sys, holdRequestFrame_modeCtl]
    rfl
  · refine (if_neg (mt (Nat.le_trans (Nat.le_of_eq threshold.symm)) asks)).trans ?_
    have kept : (holdRequestFrame .follower r s.laterCounted).modeCtl = s.modeCtl := holdRequestFrame_modeCtl ..
    rw [if_neg asks, ← kept, State.setModeCtl_self]
    rfl

theorem laterCause_of_none (hf : r.frame = none) :
    (laterCause r s).hold = s.hold ∧ (laterCause r s).ctl = s.ctl := by
  rw [laterCause_eq, holdRequestFrame_of_none hf]
  exact ⟨rfl, rfl⟩

theorem laterCause_of_some {f : HeldFrame} (hf : r.frame = some f) :
    (laterCause r s).hold = (holdAppend .follower f s).1.hold
      ∧ (laterCause r s).ctl = (holdAppend .follower f s).1.ctl := by
  rw [laterCause_eq, holdRequestFrame_of_some hf]
  exact ⟨hold_holdAppend_of_eq rfl, holdAppend_congr_ctl .follower f rfl rfl⟩

/-- Settles O28: a request in WAKING is below policy or a later cause. -/
theorem laterCausesInWaking : Obligations.LaterCausesInWaking := by
  intro s place r h hr hm
  have step := exec_wakeRequest_of_not_drain h (by simp [hm])
  refine ⟨fun hb => ?_, fun h0 hb => ?_⟩
  · exact step.trans (congrArg _ (judgeRequest_of_below (s := s.withoutRequest place) hr (.inr hm) hb))
  · rw [judgeRequest_of_waking (s := s.withoutRequest place) hr hm h0 hb] at step
    have wake : (laterCause r (s.withoutRequest place)).wake = (s.withoutRequest place).laterCounted.wake := by
      rw [laterCause_eq, State.setModeCtl_wake, holdRequestFrame_wake]
    have modeCtl : (laterCause r (s.withoutRequest place)).modeCtl =
        if s.threshold ≤ r.cls then restartRequest s.ctl.cfg s.sys.ready s.modeCtl else s.modeCtl :=
      congrArg State.modeCtl (laterCause_eq ..)
    refine ⟨_, step, wake, fun ht hc hs => ?_, fun hn => ?_, fun hf => laterCause_of_none hf,
      fun f hf => ?_, ?_⟩
    · exact modeCtl.trans ((if_pos ht).trans (restartRequest_of_pulse hm hc hs _))
    · rw [modeCtl]
      rcases hn with below | other
      · exact if_neg (Nat.not_le.2 below)
      · split
        · exact restartRequest_of_other other _
        · rfl
    · obtain ⟨hold, ctl⟩ := laterCause_of_some (s := s.withoutRequest place) hf
      rw [hold, ctl]
      exact ⟨hold_holdAppend_of_eq rfl, holdAppend_congr_ctl .follower f rfl rfl⟩
    · simp [State.withoutRequest]

/-! #### Requests outside the guard's judgement (R164) -/

/-- Settles O29, by the mode; in DRAIN the append may be followed by the end of DRAIN. -/
theorem requestsOutsideGuard : Obligations.RequestsOutsideGuard := by
  intro s place r h
  refine ⟨fun hr hm => ?_, fun hr hm => ?_, fun f hr hm hf => ?_⟩
  · exact (exec_wakeRequest_of_not_drain h hm).trans (congrArg _ (judgeRequest_of_rehearsal hr))
  · exact (exec_wakeRequest_of_not_drain h (by simp [hm])).trans
      (congrArg _ (judgeRequest_of_pass (s := s.withoutRequest place) hr hm))
  · have step := exec_wakeRequest_of_some h
    rw [judgeRequest_of_drain (s := s.withoutRequest place) hr hm, holdRequestFrame_of_some hf] at step
    refine ⟨_, step, ?_, ?_, ?_, ?_⟩
    · rw [endDrain_wake, holdAppend_wake]
      rfl
    · rw [endDrain_hold]
      exact hold_holdAppend_of_eq rfl
    · rw [endDrain_ctl]
      exact holdAppend_congr_ctl .follower f rfl rfl
    · rcases endDrain_cases (holdAppend .follower f (s.withoutRequest place)).1 with
        stays | ⟨-, empty, -, -, ends⟩
      · rw [stays, holdAppend_modeCtl]
        exact .inl hm
      · rw [ends]
        exact .inr ⟨rfl, empty⟩

/-! #### Quiet time (R161, R162) -/

/-- The state after a quiet interval's end that asserts nothing, with its pressure state. -/
def State.eased (s : State) (ps : PressureState) : State :=
  { s with
    wake := { s.wake with tickHeld := false, quiet := 0, pressure := s.wake.pressure - 1, pstate := ps } }

theorem takeHeldTick_of_below (hh : s.wake.tickHeld = true)
    (hq : s.wake.quiet + 1 < s.ctl.cfg.quietInterval) :
    takeHeldTick s = { s with wake := { s.wake with tickHeld := false, quiet := s.wake.quiet + 1 } } :=
  (if_pos hh).trans (if_neg (Nat.not_le.2 hq))

/-- At the interval the pressure eases, and a deferred wake may come of it. -/
theorem takeHeldTick_of_interval (hh : s.wake.tickHeld = true)
    (hq : s.ctl.cfg.quietInterval ≤ s.wake.quiet + 1) :
    takeHeldTick s =
      deferredWake s.threshold
        (s.eased
          (if s.wake.pstate = .locked then if s.wake.pressure - 1 = 0 then .openState else .locked
            else pressureStateOf s.ctl.cfg (s.wake.pressure - 1))) := by
  refine ((if_pos hh).trans (if_pos hq)).trans ?_
  rw [endQuietInterval, easePressure_eq]
  rfl

/-- Settles O30: the interval ends with the eased pressure, or with a deferred wake on it. -/
theorem quietIntervalEnds : Obligations.QuietIntervalEnds := by
  intro s hh
  refine ⟨fun hq => congrArg _ (takeHeldTick_of_below hh hq), fun hq ps hps => ?_⟩
  have step : exec .quietIntervalEnd s = .next (deferredWake s.threshold (s.eased ps)) :=
    hps ▸ congrArg _ (takeHeldTick_of_interval hh hq)
  refine ⟨fun calm => step.trans (congrArg _ (if_neg calm)), fun fall guard due => ?_⟩
  refine ⟨_, step.trans (congrArg _ (if_pos ⟨fall, guard, due⟩)), ?_⟩
  dsimp only
  rw [State.setWake_modeCtl, State.setWake_wake, State.setWake_hold, State.setWake_bank, State.setWake_sys,
    State.setWake_ctl, assertWake_modeCtl, assertWake_wake, addPressure_eq, assertWake_hold_of_none,
    assertWake_bank, assertWake_sys, assertWake_ctl_of_none]
  exact ⟨rfl, rfl, rfl, rfl, rfl, rfl, rfl, rfl, rfl, rfl, rfl⟩

/-! #### READ_WAKE_RECORD and READ_COUNTERS (R166, R194) -/

/-- Settles O16, by the clear flag. -/
theorem recordAndCountersAreRead : Obligations.RecordAndCountersAreRead := by
  refine ⟨fun s f rest ho => congrArg _ (takeCommand_eq_respond _ ho), fun s f rest ho => ?_⟩
  have step : exec .readCounters s =
      .next (respond (readControl f) (readCounters (bodyOf f) (s.withRx rest))) :=
    congrArg _ (takeCommand_eq_respond _ ho)
  refine ⟨fun keep => ?_, fun clear => ?_, fun other => ?_⟩
  · rw [step, readCounters, keep]
    rfl
  · rw [step, readCounters, clear]
    rfl
  · obtain ⟨n, hn⟩ := Nat.exists_eq_add_of_le' other
    rw [step, readCounters, hn]
    rfl

end wakeControl
end Sys2Proof.Machine

namespace Sys2Proof.Machine

/-! ### The hold queue's records and blocks (R169 to R173) -/

section holdQueue
variable {h h' : HoldQueue} {q r : HoldRecord} {o : Origin} {f : HeldFrame} {s : State} {b k : Nat}

/-! #### What evictions and losses leave -/

/-- A record without its loss count, the one field that changes while the record stays (R172, R173). -/
def HoldRecord.bare (r : HoldRecord) : HoldRecord := { r with lossAfter := 0 }

theorem HoldRecord.eq_of_bare_eq (e : r.bare = q.bare) : r = { q with lossAfter := r.lossAfter } := by
  simp only [bare, HoldRecord.mk.injEq] at e
  obtain ⟨serial, origin, arrival, original, stored, -, blocks⟩ := e
  cases r
  simp_all

/-- The second hold queue is the first with records removed and losses counted; nothing is stored. -/
structure HoldQueue.Thins (h h' : HoldQueue) : Prop where
  pool : h'.pool = h.pool
  serial : h'.serial = h.serial
  records : (h'.records.map HoldRecord.bare).Sublist (h.records.map HoldRecord.bare)

theorem HoldQueue.Thins.refl (h : HoldQueue) : h.Thins h := ⟨rfl, rfl, .refl _⟩

theorem HoldQueue.Thins.trans {h'' : HoldQueue} (a : h.Thins h') (b : h'.Thins h'') : h.Thins h'' :=
  ⟨b.pool.trans a.pool, b.serial.trans a.serial, b.records.trans a.records⟩

theorem HoldQueue.thins_modify (h : HoldQueue) (k : Nat) (g : BitVec 8 → BitVec 8) :
    h.Thins { h with records := h.records.modify k fun r => { r with lossAfter := g r.lossAfter } } where
  pool := rfl
  serial := rfl
  records := by
    have same := map_modify_of_blind (g := HoldRecord.bare) (f := fun r => { r with lossAfter := g r.lossAfter })
      (fun _ => rfl) k h.records
    exact same.symm ▸ List.Sublist.refl (h.records.map HoldRecord.bare)

theorem HoldQueue.thins_carryLoss (h : HoldQueue) (k : Nat) (r : HoldRecord) : h.Thins (h.carryLoss k r) := by
  unfold carryLoss
  split
  · exact .refl h
  split
  · exact ⟨rfl, rfl, .refl _⟩
  · exact h.thins_modify _ (satPlus · r.lossAfter)

theorem HoldQueue.evict_of_getElem? (e : h.records[k]? = some r) :
    h.evict k = { h.carryLoss k r with records := (h.carryLoss k r).records.eraseIdx k } := by
  simp only [evict, e]

theorem HoldQueue.thins_evict (h : HoldQueue) (k : Nat) : h.Thins (h.evict k) := by
  cases e : h.records[k]? with
  | none => simpa only [evict, e] using Thins.refl h
  | some r =>
    rw [evict_of_getElem? e]
    exact (h.thins_carryLoss k r).trans ⟨rfl, rfl, (List.eraseIdx_sublist _ k).map _⟩

theorem HoldQueue.makeRoom_of_short {fuel need : Nat} (hs : h.short need = true) (e : h.oldestHeld = some k) :
    h.makeRoom (fuel + 1) need =
      (((h.evict k).makeRoom fuel need).1, ((h.evict k).makeRoom fuel need).2 + 1) := by
  simp only [makeRoom, hs, e, if_true]

theorem HoldQueue.makeRoom_of_done {need : Nat} (hd : h.short need = false ∨ h.oldestHeld = none)
    (fuel : Nat) : h.makeRoom fuel need = (h, 0) := by
  cases fuel with
  | zero => rfl
  | succ fuel => rcases hd with e | e <;> simp [makeRoom, e]

theorem HoldQueue.thins_makeRoom (fuel need : Nat) (h : HoldQueue) : h.Thins (h.makeRoom fuel need).1 := by
  induction fuel generalizing h with
  | zero => exact .refl h
  | succ fuel ih =>
    cases hs : h.short need with
    | false => simpa only [makeRoom_of_done (.inl hs)] using Thins.refl h
    | true =>
      cases e : h.oldestHeld with
      | none => simpa only [makeRoom_of_done (.inr e)] using Thins.refl h
      | some k =>
        rw [makeRoom_of_short hs e]
        exact (h.thins_evict k).trans (ih _)

theorem HoldQueue.thins_lose (h : HoldQueue) : h.Thins h.lose := h.thins_modify _ satBump

theorem HoldQueue.thins_removeHead (h : HoldQueue) : h.Thins h.removeHead :=
  ⟨rfl, rfl, (List.tail_sublist _).map _⟩

theorem HoldQueue.thins_holdDelivered (item : EgressItem) (h : HoldQueue) :
    h.Thins (holdDelivered item h) := by
  cases item with
  | holdFrame =>
    unfold holdDelivered
    dsimp only
    split
    · split
      · exact ⟨rfl, rfl, .refl _⟩
      · exact h.thins_removeHead
    · exact h.thins_removeHead
  | holdLoss => exact h.thins_removeHead
  | _ => exact ⟨rfl, rfl, .refl _⟩

/-- A record that stays is a record that was there, but for its loss count. -/
theorem HoldQueue.Thins.of_mem (e : h.Thins h') (hr : r ∈ h'.records) :
    ∃ q ∈ h.records, r = { q with lossAfter := r.lossAfter } := by
  obtain ⟨q, hq, e⟩ := List.mem_map.1 (e.records.subset (List.mem_map_of_mem hr))
  exact ⟨q, hq, HoldRecord.eq_of_bare_eq e.symm⟩

theorem HoldQueue.Thins.length_le (e : h.Thins h') : h'.records.length ≤ h.records.length := by
  simpa using e.records.length_le

theorem HoldQueue.Thins.eq_nil (e : h.Thins h') (he : h.records = []) : h'.records = [] :=
  by
  have none := e.length_le
  rwa [he, List.length_nil, Nat.le_zero, List.length_eq_zero_iff] at none

theorem flatten_sublist_flatten {l l' : List (List Nat)} (e : l.Sublist l') : l.flatten.Sublist l'.flatten := by
  induction e with
  | slnil => exact .refl _
  | cons x _ ih => exact ih.trans (List.sublist_append_right x _)
  | cons_cons x _ ih => exact (List.Sublist.refl x).append ih

theorem HoldQueue.Thins.held (e : h.Thins h') : h'.held.Sublist h.held := by
  have blocks (x : HoldQueue) : x.held = ((x.records.map HoldRecord.bare).map HoldRecord.blocks).flatten := by
    rw [List.map_map]
    rfl
  rw [blocks, blocks]
  exact flatten_sublist_flatten (e.records.map _)

/-! #### Free and held blocks -/

/-- `HoldSound` of a hold queue by itself (R169). -/
structure HoldQueue.Sound (h : HoldQueue) : Prop where
  records : h.records.length ≤ 64
  blocks : ∀ b ∈ h.held, b < 64
  nodup : h.held.Nodup

theorem holdSound_iff : HoldSound s ↔ s.hold.Sound :=
  ⟨fun ⟨records, blocks, nodup⟩ => ⟨records, blocks, nodup⟩, fun e => ⟨e.records, e.blocks, e.nodup⟩⟩

theorem HoldQueue.Thins.sound (e : h.Thins h') (hs : h.Sound) : h'.Sound where
  records := Nat.le_trans e.length_le hs.records
  blocks b hb := hs.blocks b (e.held.subset hb)
  nodup := hs.nodup.sublist e.held

theorem HoldQueue.Sound.of_records (hs : h.Sound) (e : h'.records = h.records) : h'.Sound where
  records := e ▸ hs.records
  blocks := by simpa only [held, e] using hs.blocks
  nodup := by simpa only [held, e] using hs.nodup

theorem HoldQueue.Sound.of_empty (e : h.records = []) : h.Sound where
  records := by simp [e]
  blocks := by simp [held, e]
  nodup := by simp [held, e]

theorem HoldQueue.mem_held : b ∈ h.held ↔ ∃ r ∈ h.records, b ∈ r.blocks := by
  rw [held, List.mem_flatten]
  constructor
  · rintro ⟨_, hl, hb⟩
    obtain ⟨r, hr, rfl⟩ := List.mem_map.1 hl
    exact ⟨r, hr, hb⟩
  · rintro ⟨r, hr, hb⟩
    exact ⟨r.blocks, List.mem_map_of_mem hr, hb⟩

theorem HoldQueue.mem_freeBlocks : b ∈ h.freeBlocks ↔ b < 64 ∧ b ∉ h.held := by
  simp [freeBlocks, mem_held, Config.holdBlocks]

theorem HoldQueue.nodup_freeBlocks (h : HoldQueue) : h.freeBlocks.Nodup :=
  List.nodup_range.filter _

/-- In a sound hold queue every block is free or held, and none is both. -/
theorem HoldQueue.Sound.freeBlocks_add_held (hs : h.Sound) : h.freeBlocks.length + h.held.length = 64 := by
  have apart : ∀ b ∈ h.freeBlocks, ∀ c ∈ h.held, b ≠ c := by
    rintro b free _ held rfl
    exact (mem_freeBlocks.1 free).2 held
  have all : (h.freeBlocks ++ h.held).Perm (List.range 64) := by
    refine (List.perm_ext_iff_of_nodup (List.nodup_append.2 ⟨h.nodup_freeBlocks, hs.nodup, apart⟩) List.nodup_range).2
      fun b => ?_
    rw [List.mem_append, mem_freeBlocks, List.mem_range]
    refine ⟨fun e => e.elim And.left (hs.blocks b), fun lt => ?_⟩
    by_cases held : b ∈ h.held
    · exact .inr held
    · exact .inl ⟨lt, held⟩
  simpa using all.length_eq

/-! #### A frame stored (R173) -/

/-- The blocks that a frame takes: the lowest free ones, as many as it needs or there are. -/
def HoldQueue.blocksFor (h : HoldQueue) (f : HeldFrame) : List Nat :=
  h.freeBlocks.take (blocksNeeded f.bytes.length)

/-- The record of a frame that is stored. -/
def HoldQueue.newRecord (h : HoldQueue) (o : Origin) (f : HeldFrame) : HoldRecord where
  serial := h.serial
  origin := o
  arrival := f.arrival
  original := f.bytes.length
  stored :=
    if (h.blocksFor f).length < blocksNeeded f.bytes.length then (h.blocksFor f).length * 256
    else f.bytes.length
  lossAfter := 0
  blocks := h.blocksFor f

theorem HoldQueue.newRecord_eq (h : HoldQueue) (o : Origin) (f : HeldFrame) :
    h.newRecord o f =
      ⟨h.serial, o, f.arrival, f.bytes.length, (h.newRecord o f).stored, 0, h.blocksFor f⟩ := rfl

theorem HoldQueue.store_eq (h : HoldQueue) (o : Origin) (f : HeldFrame) :
    h.store o f =
      { h with
        pool := fillBlocks (h.blocksFor f) f.bytes h.pool
        records := h.records ++ [h.newRecord o f]
        serial := h.serial + 1 } := rfl

theorem HoldQueue.held_store (h : HoldQueue) (o : Origin) (f : HeldFrame) :
    (h.store o f).held = h.held ++ h.blocksFor f := by
  simp [store_eq, held, newRecord]

theorem HoldQueue.mem_blocksFor (hb : b ∈ h.blocksFor f) : b < 64 ∧ b ∉ h.held :=
  mem_freeBlocks.1 (List.mem_of_mem_take hb)

theorem HoldQueue.nodup_blocksFor (h : HoldQueue) (f : HeldFrame) : (h.blocksFor f).Nodup :=
  h.nodup_freeBlocks.sublist (List.take_sublist _ _)

theorem HoldQueue.Sound.store (hs : h.Sound) (room : h.records.length < 64) : (h.store o f).Sound where
  records := by
    rw [store_eq, List.length_append, List.length_singleton]
    exact room
  blocks b hb := by
    rw [held_store, List.mem_append] at hb
    exact hb.elim (hs.blocks b) fun e => (mem_blocksFor e).1
  nodup := by
    rw [held_store]
    refine List.nodup_append.2 ⟨hs.nodup, h.nodup_blocksFor f, ?_⟩
    rintro b held _ new rfl
    exact (mem_blocksFor new).2 held

/-- Distinct blocks read back, one after another, the bytes that were copied into them. -/
theorem flatten_fillBlocks {bs : List Nat} (f : Frame) (pool : List Frame) (nodup : bs.Nodup)
    (lt : ∀ b ∈ bs, b < pool.length) :
    (bs.map fun b => (fillBlocks bs f pool).getD b []).flatten = f.take (bs.length * 256) := by
  induction bs generalizing f pool with
  | nil => simp
  | cons b rest ih =>
    obtain ⟨fresh, nodup⟩ := List.nodup_cons.1 nodup
    have first : (fillBlocks (b :: rest) f pool).getD b [] = f.take 256 := by
      rw [fillBlocks, List.getD_eq_getElem?_getD, fillBlocks_getElem?_of_not_mem fresh,
        List.getElem?_set_self (lt b List.mem_cons_self)]
      rfl
    have others := ih (f.drop 256) (pool.set b (f.take 256)) nodup fun c hc => by
      simpa using lt c (List.mem_cons_of_mem b hc)
    rw [List.map_cons, List.flatten_cons, first, List.length_cons, Nat.add_mul, Nat.one_mul, Nat.add_comm,
      List.take_add]
    exact congrArg _ others

/-- The stored length is the frame's, or what the blocks hold where they are too few. -/
theorem HoldQueue.stored_newRecord (h : HoldQueue) (o : Origin) (f : HeldFrame) :
    (h.newRecord o f).stored = min f.bytes.length ((h.blocksFor f).length * 256) := by
  have enough : (h.blocksFor f).length ≤ blocksNeeded f.bytes.length := List.length_take_le ..
  have need : blocksNeeded f.bytes.length = (f.bytes.length + 255) / 256 := rfl
  by_cases few : (h.blocksFor f).length < blocksNeeded f.bytes.length
  · refine (if_pos few).trans ?_
    omega
  · refine (if_neg few).trans ?_
    omega

theorem HoldQueue.stored_newRecord_le (h : HoldQueue) (o : Origin) (f : HeldFrame) :
    (h.newRecord o f).stored ≤ f.bytes.length :=
  Nat.le_trans (Nat.le_of_eq (h.stored_newRecord o f)) (Nat.min_le_left ..)

/-- A stored frame reads back up to its stored length. -/
theorem HoldQueue.storedBytes_newRecord (pool : h.pool.length = 64) :
    (h.store o f).storedBytes (h.newRecord o f) = f.bytes.take (h.newRecord o f).stored := by
  have copied := flatten_fillBlocks f.bytes h.pool (h.nodup_blocksFor f) fun b hb =>
    pool ▸ (mem_blocksFor hb).1
  refine (congrArg (List.take _) copied).trans ?_
  rw [List.take_take, stored_newRecord, Nat.min_assoc, Nat.min_self]

/-- Storing a frame touches no block of a record that was there. -/
theorem HoldQueue.storedBytes_store (hr : r ∈ h.records) :
    (h.store o f).storedBytes r = h.storedBytes r := by
  have same (b : Nat) (hb : b ∈ r.blocks) :
      (h.store o f).pool.getD b [] = h.pool.getD b [] := by
    have old : b ∉ h.blocksFor f := fun new => (mem_blocksFor new).2 (mem_held.2 ⟨r, hr, hb⟩)
    rw [List.getD_eq_getElem?_getD, List.getD_eq_getElem?_getD, store_eq,
      fillBlocks_getElem?_of_not_mem old]
  unfold storedBytes
  rw [List.map_congr_left same]

/-! #### An append (R171 to R173) -/

/-- The hold queue with room made for a frame, and the number of records evicted for it: none for a HELD
frame (R172). -/
def HoldQueue.roomFor (h : HoldQueue) (o : Origin) (f : HeldFrame) : HoldQueue × Nat :=
  if o = .held then (h, 0) else h.makeRoom h.records.length (blocksNeeded f.bytes.length)

theorem HoldQueue.thins_roomFor (h : HoldQueue) (o : Origin) (f : HeldFrame) : h.Thins (h.roomFor o f).1 := by
  unfold roomFor
  split
  · exact .refl h
  · exact thins_makeRoom ..

/-- An append counts the evictions that made room, then stores the frame, whole or clipped, or loses it. -/
theorem holdAppend_eq (o : Origin) (f : HeldFrame) (s : State) {h : HoldQueue} {n : Nat}
    (room : s.hold.roomFor o f = (h, n)) :
    (holdAppend o f s).1 =
      if h.records.length < 64 ∧ 0 < h.freeBlocks.length then
        bumpIf (decide (h.freeBlocks.length < blocksNeeded f.bytes.length)) .holdClipped
          ((bumpTimes n .holdEvicted (s.setHold h)).setHold (h.store o f))
      else bump .holdLost ((bumpTimes n .holdEvicted (s.setHold h)).setHold h.lose) := by
  simp only [holdAppend]
  rw [← HoldQueue.roomFor, room]
  simp only [bumpTimes_hold, State.setHold_hold]
  exact apply_ite Prod.fst _ _ _

/-- What an append makes of the hold queue: it thins it, or stores the frame in what is left of it. -/
theorem holdAppend_hold_cases (o : Origin) (f : HeldFrame) (s : State) :
    s.hold.Thins (holdAppend o f s).1.hold
      ∨ ∃ h, s.hold.Thins h ∧ h.records.length < 64 ∧ (holdAppend o f s).1.hold = h.store o f := by
  have thins := s.hold.thins_roomFor o f
  rw [holdAppend_eq o f s (h := (s.hold.roomFor o f).1) rfl]
  split
  · rename_i room
    exact .inr ⟨_, thins, room.1, by simp⟩
  · refine .inl ?_
    simpa using thins.trans (HoldQueue.thins_lose _)

theorem HoldQueue.Sound.holdAppend (hs : s.hold.Sound) : (holdAppend o f s).1.hold.Sound := by
  rcases holdAppend_hold_cases o f s with thins | ⟨left, thins, room, e⟩
  · exact thins.sound hs
  · exact e ▸ (thins.sound hs).store room

end holdQueue
end Sys2Proof.Machine

namespace Sys2Proof.Machine

/-! ### What every step keeps of the hold queue (O56) -/

section stocked
variable {c : Instr} {s t : State} {o : Origin} {f : HeldFrame} {r : WakeRequest}

/-! #### The hold queue after a request is judged, and after a quiet interval -/

theorem holdRequestFrame_hold_cases (o : Origin) (r : WakeRequest) (s : State) :
    (holdRequestFrame o r s).hold = s.hold
      ∨ ∃ f, (holdRequestFrame o r s).hold = (holdAppend o f s).1.hold := by
  cases hf : r.frame with
  | none => exact .inl (by rw [holdRequestFrame_of_none hf])
  | some f => exact .inr ⟨f, by rw [holdRequestFrame_of_some hf]⟩

theorem assertWake_hold_cases (cls : Nat) (cause : WakeCause) (source : Nat) (frame : Option HeldFrame)
    (s : State) :
    (assertWake cls cause source frame s).hold = s.hold
      ∨ ∃ f, (assertWake cls cause source frame s).hold = (holdAppend .trigger f s).1.hold := by
  cases frame with
  | none => exact .inl (assertWake_hold_of_none ..)
  | some f => exact .inr ⟨f, assertWake_hold_of_some ..⟩

theorem suppressRequest_hold_cases (r : WakeRequest) (s : State) :
    (suppressRequest r s).hold = s.hold
      ∨ ∃ f, (suppressRequest r s).hold = (holdAppend .suppressed f s).1.hold := by
  unfold suppressRequest
  dsimp only
  split
  · exact .inl (by simp)
  · rcases holdRequestFrame_hold_cases .suppressed r _ with e | ⟨f, e⟩
    · exact .inl (e.trans (by simp))
    · exact .inr ⟨f, e.trans (hold_holdAppend_of_eq (by simp))⟩

theorem laterCause_hold_cases (r : WakeRequest) (s : State) :
    (laterCause r s).hold = s.hold ∨ ∃ f, (laterCause r s).hold = (holdAppend .follower f s).1.hold := by
  cases hf : r.frame with
  | none => exact .inl (laterCause_of_none hf).1
  | some f => exact .inr ⟨f, (laterCause_of_some hf).1⟩

/-- A request judged leaves the hold queue, or has its frame appended outside PASS (R158 to R164). -/
theorem judgeRequest_hold_cases (r : WakeRequest) (s : State) :
    (judgeRequest r s).hold = s.hold
      ∨ s.modeCtl.mode ≠ .pass ∧ ∃ o f, (judgeRequest r s).hold = (holdAppend o f s).1.hold := by
  have outside {o : Origin} {h : HoldQueue} (hm : s.modeCtl.mode ≠ .pass)
      (e : h = s.hold ∨ ∃ f, h = (holdAppend o f s).1.hold) :
      h = s.hold ∨ s.modeCtl.mode ≠ .pass ∧ ∃ o f, h = (holdAppend o f s).1.hold :=
    e.imp_right fun ⟨f, e⟩ => ⟨hm, o, f, e⟩
  unfold judgeRequest
  split
  · exact .inl (by simp)
  split
  · rename_i guard
    split
    · exact .inl (by simp)
    split
    · exact outside (by simp [guard]) (assertWake_hold_cases ..)
    · exact outside (by simp [guard]) (suppressRequest_hold_cases ..)
  · rename_i waking
    split
    · exact .inl (by simp)
    · exact outside (by simp [waking]) (laterCause_hold_cases ..)
  · rename_i drain
    exact outside (by simp [drain]) (holdRequestFrame_hold_cases ..)
  · exact .inl rfl

/-- A deferred wake carries no frame (R162). -/
theorem takeHeldTick_hold (s : State) : (takeHeldTick s).hold = s.hold := by
  unfold takeHeldTick
  split
  · dsimp only
    split
    · unfold endQuietInterval deferredWake
      split
      · simp [assertWake_hold_of_none]
      · simp
    · simp
  · rfl

/-! #### Sound, and empty in PASS: one rule per update -/

/-- The hold queue is sound, and in PASS it holds nothing (R1, R169). -/
structure Stocked (s : State) : Prop where
  sound : s.hold.Sound
  pass : PassHoldsNothing s

theorem stocked_iff : Stocked s ↔ HoldSound s ∧ PassHoldsNothing s :=
  ⟨fun h => ⟨holdSound_iff.2 h.sound, h.pass⟩, fun ⟨sound, pass⟩ => ⟨holdSound_iff.1 sound, pass⟩⟩

/-- A step that leaves the records, and does not enter PASS. -/
theorem Stocked.frame (h : Stocked s) (hr : t.hold.records = s.hold.records := by simp)
    (hm : t.modeCtl.mode = .pass → s.modeCtl.mode = .pass := by simp) : Stocked t where
  sound := h.sound.of_records hr
  pass mode := hr ▸ h.pass (hm mode)

/-- A step that removes records, and does not enter PASS. -/
theorem Stocked.thins (h : Stocked s) (e : s.hold.Thins t.hold)
    (hm : t.modeCtl.mode = .pass → s.modeCtl.mode = .pass := by simp) : Stocked t where
  sound := e.sound h.sound
  pass mode := e.eq_nil (h.pass (hm mode))

/-- A step that appends a frame outside PASS. -/
theorem Stocked.appends (h : Stocked s) (e : t.hold = (holdAppend o f s).1.hold)
    (hm : t.modeCtl.mode ≠ .pass) : Stocked t where
  sound := e ▸ h.sound.holdAppend
  pass mode := absurd mode hm

/-- An empty hold queue is sound in every mode. -/
theorem Stocked.of_empty (h : s.hold.records = []) : Stocked s where
  sound := .of_empty h
  pass _ := h

/-- DRAIN ends with no record left (R12). -/
theorem Stocked.endDrain (h : Stocked s) : Stocked (endDrain s) := by
  rcases endDrain_cases s with e | ⟨-, empty, -, -, e⟩ <;> rw [e]
  · exact h
  · exact .of_empty (by simpa using empty)

/-! #### Control commands -/

/-- A command whose act keeps the hold queue sound. -/
theorem Stocked.takeCommand {code length : Nat} {act : Frame → State → Answer} (h : Stocked s)
    (hact : ∀ b u, Stocked u → Stocked (act b u).state) : Stocked (takeCommand code length act s) := by
  have respond (g : ControlHeader) (a : Answer) (ha : Stocked a.state) : Stocked (respond g a) :=
    ha.frame rfl id
  have taken : Stocked (takeHead s) := h.frame
  rcases takeCommand_cases code length act s with e | ⟨g, a, e, ha | ⟨b, rfl⟩⟩ <;> rw [e]
  · exact h
  · exact respond g a (ha ▸ taken)
  · exact respond g _ (hact b _ taken)

theorem Stocked.writing {act : Frame → State → Answer} {b : Frame} (h : Stocked s)
    (hact : Stocked (act b s).state) : Stocked (writing act b s).state := by
  unfold Machine.writing
  split
  · exact hact
  · exact h

theorem Stocked.indexed {n : Nat} {act : Nat → Frame → State → Answer} {b : Frame} (h : Stocked s)
    (hact : ∀ i, Stocked (act i b s).state) : Stocked (indexed n act b s).state := by
  unfold Machine.indexed
  split
  · exact hact _
  · exact h

theorem Stocked.storing {α : Type} {value : Option α} {store : α → State → State} (h : Stocked s)
    (hstore : ∀ x, value = some x → Stocked (store x s)) : Stocked (storing value store s).state := by
  unfold Machine.storing
  split
  · exact hstore _ rfl
  · exact h

/-- A write with an index of an entry of another block. -/
theorem Stocked.indexedWrite {α : Type} {code length n : Nat} {value : Nat → Frame → State → Option α}
    {store : Nat → α → State → State} (h : Stocked s)
    (hs : ∀ i x u, Stocked u → Stocked (store i x u)) :
    Stocked
      (Machine.takeCommand code length
        (Machine.writing (Machine.indexed n fun i b u => Machine.storing (value i b u) (store i) u)) s) :=
  h.takeCommand fun _ _ hu => hu.writing (hu.indexed fun i => hu.storing fun x _ => hs i x _ hu)

/-- A read with an index. -/
theorem Stocked.indexedRead {code length n : Nat} {body : Nat → State → Frame} (h : Stocked s) :
    Stocked (Machine.takeCommand code length (Machine.indexed n fun i _ u => .done (body i u) u) s) :=
  h.takeCommand fun _ _ hu => hu.indexed fun _ => hu

theorem Stocked.clearedTable {k : Nat} (h : Stocked s) (ht : clearedTable k s = some t) : Stocked t := by
  unfold Machine.clearedTable at ht
  split at ht <;> cases ht <;> exact h.frame

theorem Stocked.enterGuard (h : Stocked s) : Stocked (enterGuard s).state := by
  rcases enterGuard_cases s with e | ⟨-, e⟩ <;> rw [e]
  · exact h
  · exact h.frame (t := guardEntry s) (by simp [guardEntry]) (by simp [guardEntry, setMode])

/-- LEAVE_GUARD leads to PASS with no record held alone (R11). -/
theorem Stocked.guardExit (h : Stocked s) : Stocked (guardExit s) where
  sound := h.sound.of_records (by simp)
  pass mode := by
    rw [guardExit_hold]
    cases held : s.hold.records with
    | nil => rfl
    | cons r rs => simp [Machine.guardExit, ModeCtl.atRest, held] at mode

theorem Stocked.leaveGuard (h : Stocked s) : Stocked (leaveGuard s).state := by
  unfold Machine.leaveGuard
  split
  · exact h.guardExit
  · exact h

theorem Stocked.readCounters {b : Frame} (h : Stocked s) : Stocked (readCounters b s).state := by
  unfold Machine.readCounters
  split
  · rename_i clear _
    cases clear
    · exact h
    · exact h.frame (t := clearCounters s)
  · exact h

theorem Stocked.badControlFrame (h : Stocked s) (e : execBadControlFrame s = .next t) : Stocked t := by
  unfold execBadControlFrame at e
  split at e
  · cases e
    exact h
  · split at e <;> cases e
    · exact h
    · exact h.frame

theorem Stocked.unknownCommand (h : Stocked s) (e : execUnknownCommand s = .next t) : Stocked t := by
  unfold execUnknownCommand at e
  split at e
  · cases e
    exact h
  · split at e <;> cases e
    · exact h.frame (by simp [respond, Answer.refuse]) (by simp [respond, Answer.refuse])
    · exact h

/-! #### The events of the line, the ports and the time base -/

theorem Stocked.linkDown {receiving : Option Nat} (h : Stocked s) (e : execLinkDown receiving s = .next t) :
    Stocked t := by
  unfold execLinkDown at e
  split at e
  · split at e <;> cases e
    · exact h.frame
    · exact h.frame
  · cases e
    exact h

theorem Stocked.linkUp (h : Stocked s) (e : execLinkUp s = .next t) : Stocked t := by
  unfold execLinkUp at e
  split at e <;> cases e
  · exact h
  · exact h.frame

theorem riseAtWakeLine_mode (g : ConfigRecord) (m : ModeCtl) : (riseAtWakeLine g m).mode = m.mode := by
  unfold riseAtWakeLine
  split <;> rfl

theorem Stocked.systemReadyRise (h : Stocked s) (e : execSystemReadyRise s = .next t) : Stocked t := by
  unfold execSystemReadyRise at e
  split at e
  · cases e
    exact h
  · dsimp only at e
    split at e <;> cases e
    · exact h.frame (hm := by simp [riseAtWakeLine_mode])
    · exact h.frame

theorem Stocked.systemReadyFall (h : Stocked s) (e : execSystemReadyFall s = .next t) : Stocked t := by
  unfold execSystemReadyFall at e
  split at e <;> cases e
  · exact h.frame
  · exact h

theorem Stocked.lineFrameReceived {rx : LineReception} (h : Stocked s)
    (e : execLineFrameReceived rx s = .next t) : Stocked t := by
  unfold execLineFrameReceived at e
  split at e
  · cases e
    exact h.frame
  split at e
  · cases e
    exact h
  split at e <;> cases e
  · exact h.frame
  · exact h.frame

theorem Stocked.sysFrameReceived {rx : SystemReception} (h : Stocked s)
    (e : execSysFrameReceived rx s = .next t) : Stocked t := by
  unfold execSysFrameReceived at e
  split at e
  · cases e
    exact h
  split at e <;> cases e
  · exact h.frame
  · exact h.frame

theorem Stocked.parseFrame (h : Stocked s) (e : execParseFrame s = .next t) : Stocked t := by
  unfold execParseFrame at e
  split at e
  · cases e
    exact h
  dsimp only at e
  split at e
  · split at e <;> cases e
    · exact h
    · exact .endDrain h.frame
  split at e <;> cases e
  · exact h
  · exact .endDrain h.frame

theorem Stocked.classifyFrame (h : Stocked s) (e : execClassifyFrame s = .next t) : Stocked t := by
  unfold execClassifyFrame at e
  split at e
  · cases e
    exact h
  split at e <;> cases e
  · exact .endDrain h.frame
  · exact h

theorem Stocked.takeNotice {timer : Nat} {n : ExpiryNotice} (h : Stocked s)
    (e : takeNotice timer s = some (n, t)) : Stocked t := by
  obtain ⟨-, rfl⟩ := takeNotice_eq_some e
  exact h.frame rfl id

theorem Stocked.sessionTimerExpiry {i : Nat} (h : Stocked s) (e : execSessionTimerExpiry i s = .next t) :
    Stocked t := by
  unfold execSessionTimerExpiry at e
  split at e
  · cases e
    exact h
  split at e
  · cases e
    exact h
  · rename_i u hn
    have taken := h.takeNotice hn
    cases e
    split
    · split
      · exact taken.frame
      · exact taken.frame
    · exact taken.frame
    · exact taken.frame

theorem Stocked.expiryAnswer {i : Nat} (h : Stocked s) (e : execExpiryAnswer i s = .next t) : Stocked t := by
  unfold execExpiryAnswer at e
  split at e <;> cases e
  · exact h.frame
  · exact h

theorem Stocked.alarmExpiry {n : Nat} (h : Stocked s) (e : execAlarmExpiry n s = .next t) : Stocked t := by
  unfold execAlarmExpiry at e
  split at e
  · cases e
    exact h
  · rename_i hn
    have taken := h.takeNotice hn
    split at e <;> cases e
    · exact taken.frame
    · exact taken

theorem Stocked.judgeRequest (h : Stocked s) : Stocked (judgeRequest r s) := by
  have mode : (Machine.judgeRequest r s).modeCtl.mode = .pass → s.modeCtl.mode = .pass := by
    rcases judgeRequest_modeCtl r s with same | ⟨-, waking⟩ | ⟨-, waking⟩
    · simp [same]
    · simp [waking]
    · simp [waking]
  rcases judgeRequest_hold_cases r s with same | ⟨outside, o, f, e⟩
  · exact h.frame (by rw [same]) mode
  · exact h.appends e (mt mode outside)

theorem Stocked.wakeRequest {place : Nat} (h : Stocked s) (e : execWakeRequest place s = .next t) :
    Stocked t := by
  unfold execWakeRequest at e
  split at e <;> cases e
  · exact h
  · exact .endDrain (.judgeRequest h.frame)

theorem Stocked.holdAppend (h : Stocked s) (e : execHoldAppend s = .next t) : Stocked t := by
  unfold execHoldAppend at e
  split at e
  · cases e
    exact h
  dsimp only at e
  split at e <;> cases e
  · exact h.frame
  · rename_i outside
    exact .endDrain (.appends (s := s.setHold _) h.frame rfl (by simpa using outside))

theorem Stocked.lineTxGrant (h : Stocked s) (e : execLineTxGrant s = .next t) : Stocked t := by
  unfold execLineTxGrant at e
  split at e <;> cases e
  · exact h.frame
  · exact h

theorem Stocked.lineTxDone (h : Stocked s) (e : execLineTxDone s = .next t) : Stocked t := by
  unfold execLineTxDone at e
  split at e <;> cases e
  · exact h
  · exact h.frame
  · exact h.frame

theorem Stocked.systemFrameDiscard (h : Stocked s) (e : execSystemFrameDiscard s = .next t) : Stocked t := by
  unfold execSystemFrameDiscard at e
  split at e
  · split at e <;> cases e
    · exact h.frame
    · exact h
  · cases e
    exact h

theorem Stocked.sysEgressGrant (h : Stocked s) (e : execSysEgressGrant s = .next t) : Stocked t := by
  unfold execSysEgressGrant at e
  split at e <;> cases e
  · exact h.frame
  · exact h

/-- What a delivery ends leaves the hold queue or removes its head, and DRAIN may end (R12, R174). -/
theorem Stocked.completeItem {item : EgressItem} (h : Stocked s) : Stocked (completeItem item s) := by
  have delivered (item : EgressItem) : Stocked (Machine.endDrain (s.setHold (holdDelivered item s.hold))) :=
    .endDrain (h.thins (HoldQueue.thins_holdDelivered item s.hold))
  cases item with
  | forward => exact h.frame rfl id
  | response => exact h.frame rfl id
  | rehearsal i => exact h.frame (by simp [Machine.completeItem]) (by simp [Machine.completeItem])
  | holdLead => exact delivered .holdLead
  | holdNotice => exact delivered .holdNotice
  | holdFrame => exact delivered .holdFrame
  | holdLoss => exact delivered .holdLoss

theorem Stocked.sysDeliveryDone (h : Stocked s) (e : execSysDeliveryDone s = .next t) : Stocked t := by
  unfold execSysDeliveryDone at e
  split at e <;> cases e
  · exact h
  · exact .completeItem h.frame

theorem Stocked.pulseEnd (h : Stocked s) : Stocked (pulseEnd s) :=
  h.frame (hm := by simp [(pulseEnd_move s).mode])

theorem Stocked.resumeWindowEnd (h : Stocked s) : Stocked (resumeWindowEnd s) :=
  h.frame (hm := by simp [(resumeWindowEnd_move s).mode])

theorem Stocked.takeHeldTick (h : Stocked s) : Stocked (takeHeldTick s) := by
  refine h.frame (by rw [takeHeldTick_hold]) ?_
  rcases takeHeldTick_modeCtl s with same | ⟨-, waking⟩
  · simp [same]
  · simp [waking]

theorem Stocked.countTick (h : Stocked s) : Stocked (countTick s) :=
  h.frame (hm := by simp [Machine.countTick, (tickAtWakeLine_move s.modeCtl).mode])

/-! #### Every command -/

theorem exec_stocked (e : exec c s = .next t) (h : Stocked s) : Stocked t := by
  cases c with
  | powerOnReset => cases e; exact .of_empty rfl
  | softReset => cases e; exact h.takeCommand fun _ u _ => .of_empty (s := softReset u) rfl
  | identify => cases e; exact h.takeCommand fun _ _ hu => hu
  | readStatus => cases e; exact h.takeCommand fun _ u hu => hu.frame (t := clearLatch u)
  | writeConfig =>
    cases e
    exact h.takeCommand fun _ _ hu => hu.writing (hu.storing fun _ _ => hu.frame)
  | readConfig => cases e; exact h.takeCommand fun _ _ hu => hu
  | writeMatch => cases e; exact h.indexedWrite fun _ _ _ hu => hu.frame
  | readMatch => cases e; exact h.indexedRead
  | writeIdentity => cases e; exact h.indexedWrite fun _ _ _ hu => hu.frame
  | readIdentity => cases e; exact h.indexedRead
  | writeName => cases e; exact h.indexedWrite fun _ _ _ hu => hu.frame
  | readName => cases e; exact h.indexedRead
  | writeSession => cases e; exact h.indexedWrite fun _ _ _ hu => hu.frame
  | readSession => cases e; exact h.indexedRead
  | writeAlarm => cases e; exact h.indexedWrite fun _ _ _ hu => hu.frame
  | readAlarm => cases e; exact h.indexedRead
  | clearTable =>
    cases e
    exact h.takeCommand fun _ _ hu => hu.writing (hu.storing fun _ hx => hu.clearedTable hx)
  | enterGuard => cases e; exact h.takeCommand fun _ _ hu => hu.enterGuard
  | leaveGuard => cases e; exact h.takeCommand fun _ _ hu => hu.leaveGuard
  | readWakeRecord =>
    cases e
    exact h.takeCommand fun _ u hu => hu.frame (t := u.setWake { u.wake with record := none })
  | readCounters => cases e; exact h.takeCommand fun _ _ hu => hu.readCounters
  | badControlFrame => exact h.badControlFrame e
  | unknownCommand => exact h.unknownCommand e
  | tick => cases e; exact h.pulseEnd.resumeWindowEnd.takeHeldTick.countTick
  | linkDown receiving => exact h.linkDown e
  | linkUp => exact h.linkUp e
  | systemReadyRise => exact h.systemReadyRise e
  | systemReadyFall => exact h.systemReadyFall e
  | lineFrameReceived rx => exact h.lineFrameReceived e
  | sysFrameReceived rx => exact h.sysFrameReceived e
  | parseFrame => exact h.parseFrame e
  | classifyFrame => exact h.classifyFrame e
  | sessionTimerExpiry i => exact h.sessionTimerExpiry e
  | expiryAnswer i => exact h.expiryAnswer e
  | alarmExpiry n => exact h.alarmExpiry e
  | quietIntervalEnd => cases e; exact h.takeHeldTick
  | wakeRequest place => exact h.wakeRequest e
  | pulseEnd => cases e; exact h.pulseEnd
  | resumeWindowEnd => cases e; exact h.resumeWindowEnd
  | holdAppend => exact h.holdAppend e
  | lineTxGrant => exact h.lineTxGrant e
  | lineTxDone => exact h.lineTxDone e
  | systemFrameDiscard => exact h.systemFrameDiscard e
  | sysEgressGrant => exact h.sysEgressGrant e
  | sysDeliveryDone => exact h.sysDeliveryDone e

/-- Settles O56: every command keeps the hold queue sound, and a step runs one on the rest of the queue. -/
theorem holdQueueStaysSound : Obligations.HoldQueueStaysSound := by
  intro c s t e sound pass
  have h : Stocked s := stocked_iff.2 ⟨sound, pass⟩
  have kept : Stocked t := by
    rcases e with e | e
    · exact exec_stocked e h
    · unfold step at e
      split at e
      · cases e
        exact h
      · exact exec_stocked e h.frame
  obtain ⟨sound', pass'⟩ := stocked_iff.1 kept
  exact ⟨sound', pass', kept.sound.freeBlocks_add_held⟩

end stocked
end Sys2Proof.Machine

namespace Sys2Proof.Machine

/-! ### HOLD_APPEND (O48, O49) -/

section append
variable {s t : State} {h h' : HoldQueue} {a : HoldHandover} {rest : List HoldHandover} {o : Origin}
  {f : HeldFrame} {k need : Nat} {q r : HoldRecord}

/-- The state whose hold queue has taken the oldest frame handed to it and not yet appended it. -/
def State.withAppends (s : State) (rest : List HoldHandover) : State :=
  { s with hold := { s.hold with appends := rest } }

theorem exec_holdAppend_of_pass (ha : s.hold.appends = a :: rest) (hm : s.modeCtl.mode = .pass) :
    exec .holdAppend s = .next (s.withAppends rest) := by
  simp only [exec, execHoldAppend, ha, hm, if_true]
  rfl

theorem exec_holdAppend_of_outside (ha : s.hold.appends = a :: rest) (hm : s.modeCtl.mode ≠ .pass) :
    exec .holdAppend s = .next (endDrain (holdAppend a.origin a.frame (s.withAppends rest)).1) := by
  simp only [exec, execHoldAppend, ha, hm, if_false]
  rfl

/-- DRAIN does not end with a record left. -/
theorem endDrain_of_record (hr : s.hold.records ≠ []) : endDrain s = s := by
  rcases endDrain_cases s with e | ⟨-, empty, -⟩
  · exact e
  · exact absurd empty hr

/-! #### Room (R172) -/

theorem HoldQueue.short_iff : h.short need = true ↔ h.freeBlocks.length < need ∨ 64 ≤ h.records.length := by
  rw [short, Bool.or_eq_true, decide_eq_true_iff, decide_eq_true_iff]
  rfl

/-- Nothing is evicted where there is room, and nothing for a HELD frame or without a HELD record. -/
theorem HoldQueue.roomFor_of_done
    (done : h.short (blocksNeeded f.bytes.length) = false ∨ o = .held ∨ h.oldestHeld = none) :
    h.roomFor o f = (h, 0) := by
  unfold roomFor
  split
  · rfl
  · rename_i other
    exact makeRoom_of_done (done.imp_right fun e => e.resolve_left other) _

theorem HoldQueue.length_evict (h : HoldQueue) (hk : k < h.records.length) :
    (h.evict k).records.length = h.records.length - 1 := by
  have kept (r : HoldRecord) : (h.carryLoss k r).records.length = h.records.length := by
    unfold carryLoss
    split
    · rfl
    split
    · rfl
    · exact List.length_modify ..
  rw [evict_of_getElem? (List.getElem?_eq_getElem hk)]
  dsimp only
  rw [List.length_eraseIdx, kept, if_pos hk]

theorem HoldQueue.evict_withAppends (h : HoldQueue) (k : Nat) (l : List HoldHandover) :
    { h with appends := l }.evict k = { h.evict k with appends := l } := by
  cases e : h.records[k]? with
  | none => simp only [evict, e]
  | some r =>
    rw [evict_of_getElem? e, evict_of_getElem? (h := { h with appends := l }) e]
    unfold carryLoss
    split
    · rfl
    split
    · rfl
    · rfl

theorem HoldQueue.evict_appends (h : HoldQueue) (k : Nat) : (h.evict k).appends = h.appends :=
  (congrArg HoldQueue.appends (h.evict_withAppends k h.appends) :)

/-- Where room is short the oldest HELD record goes, and room is made in what is left. -/
theorem HoldQueue.roomFor_of_short (ho : o ≠ .held) (short : h.short (blocksNeeded f.bytes.length) = true)
    (oldest : h.oldestHeld = some k) (hk : k < h.records.length) :
    h.roomFor o f = (((h.evict k).roomFor o f).1, ((h.evict k).roomFor o f).2 + 1) := by
  obtain ⟨n, hn⟩ : ∃ n, h.records.length = n + 1 := Nat.exists_eq_add_one_of_ne_zero (Nat.ne_zero_of_lt hk)
  rw [roomFor, roomFor, if_neg ho, if_neg ho, length_evict h hk, hn, makeRoom_of_short short oldest]
  rfl

theorem findIdx?_held_eq_some {l : List HoldRecord} (hr : l[k]? = some r) (held : r.origin = .held)
    (first : ∀ j < k, ∀ q, l[j]? = some q → q.origin ≠ .held) :
    l.findIdx? (fun r => r.origin == .held) = some k := by
  obtain ⟨hk, rfl⟩ := List.getElem?_eq_some_iff.1 hr
  refine List.findIdx?_eq_some_iff_getElem.2 ⟨hk, by simpa using held, fun j hj => ?_⟩
  simpa using first j hj _ (List.getElem?_eq_getElem (Nat.lt_trans hj hk))

/-- The place of the oldest HELD record that is not in delivery; only the head can be (R172, R174). -/
theorem HoldQueue.oldestHeld_eq_some (hr : h.records[k]? = some r) (held : r.origin = .held)
    (idle : k = 0 → h.stage = .idle)
    (first : ∀ j < k, ∀ q, h.records[j]? = some q → q.origin = .held → j = 0 ∧ h.stage ≠ .idle) :
    h.oldestHeld = some k := by
  by_cases hs : h.stage = .idle
  · rw [oldestHeld, hs]
    exact findIdx?_held_eq_some hr held fun j hj q hq e => (first j hj q hq e).2 hs
  · obtain ⟨i, rfl⟩ := Nat.exists_eq_add_one_of_ne_zero (mt idle hs)
    have tail : h.records.tail.findIdx? (fun r => r.origin == .held) = some i :=
      findIdx?_held_eq_some (by simpa using hr) held fun j hj q hq e => by
        simpa using first (j + 1) (Nat.succ_lt_succ hj) q (by simpa using hq) e
    unfold oldestHeld
    split
    · exact absurd ‹_› hs
    · rw [tail]
      rfl

/-! #### Whole, clipped or lost (R173) -/

theorem HoldQueue.store_of_whole (o : Origin) (enough : blocksNeeded f.bytes.length ≤ h.freeBlocks.length) :
    h.store o f =
      { h with
        pool := fillBlocks (h.freeBlocks.take (blocksNeeded f.bytes.length)) f.bytes h.pool
        records :=
          h.records
            ++ [⟨h.serial, o, f.arrival, f.bytes.length, f.bytes.length, 0,
              h.freeBlocks.take (blocksNeeded f.bytes.length)⟩]
        serial := h.serial + 1 } := by
  have whole : (h.newRecord o f).stored = f.bytes.length :=
    if_neg (by rw [blocksFor, List.length_take_of_le enough]; exact Nat.lt_irrefl _)
  rw [store_eq, newRecord_eq, whole]
  rfl

theorem HoldQueue.store_of_clipped (o : Origin) (few : h.freeBlocks.length < blocksNeeded f.bytes.length) :
    h.store o f =
      { h with
        pool := fillBlocks h.freeBlocks f.bytes h.pool
        records :=
          h.records
            ++ [⟨h.serial, o, f.arrival, f.bytes.length, h.freeBlocks.length * 256, 0, h.freeBlocks⟩]
        serial := h.serial + 1 } := by
  have all : h.blocksFor f = h.freeBlocks := List.take_of_length_le (Nat.le_of_lt few)
  have clipped : (h.newRecord o f).stored = h.freeBlocks.length * 256 := by
    rw [newRecord, all]
    exact if_pos few
  rw [store_eq, newRecord_eq, clipped, all]

theorem HoldQueue.lose_of_append {old : List HoldRecord} (hr : h.records = old ++ [r]) :
    h.lose = { h with records := old ++ [{ r with lossAfter := satBump r.lossAfter }] } := by
  simp [lose, hr, List.modify_eq_take_drop]

/-! #### The three ends of an append (R172, R173) -/

/-- With no eviction to make and a block and a record free, the frame is stored. -/
theorem exec_holdAppend_of_stored (ha : s.hold.appends = a :: rest) (hm : s.modeCtl.mode ≠ .pass)
    (done : s.hold.short (blocksNeeded a.frame.bytes.length) = false ∨ a.origin = .held
      ∨ s.hold.oldestHeld = none)
    (free : 1 ≤ s.hold.freeBlocks.length) (room : s.hold.records.length < 64)
    (e : (s.withAppends rest).hold.store a.origin a.frame = h) :
    exec .holdAppend s = .next
      (bumpIf (decide (s.hold.freeBlocks.length < blocksNeeded a.frame.bytes.length)) .holdClipped
        (s.setHold h)) := by
  subst e
  have none : (s.withAppends rest).hold.roomFor a.origin a.frame = ((s.withAppends rest).hold, 0) :=
    HoldQueue.roomFor_of_done done
  rw [exec_holdAppend_of_outside ha hm, holdAppend_eq a.origin a.frame _ none, if_pos ⟨room, free⟩,
    endDrain_of_record]
  · rfl
  · simp [HoldQueue.store_eq]

/-- With no eviction to make and no block or no record free, the frame is lost. -/
theorem exec_holdAppend_of_lost (ha : s.hold.appends = a :: rest) (hm : s.modeCtl.mode ≠ .pass)
    (done : s.hold.short (blocksNeeded a.frame.bytes.length) = false ∨ a.origin = .held
      ∨ s.hold.oldestHeld = none)
    (full : ¬(s.hold.records.length < 64 ∧ 0 < s.hold.freeBlocks.length)) (hr : s.hold.records ≠ [])
    (e : (s.withAppends rest).hold.lose = h) :
    exec .holdAppend s = .next (bump .holdLost (s.setHold h)) := by
  subst e
  have none : (s.withAppends rest).hold.roomFor a.origin a.frame = ((s.withAppends rest).hold, 0) :=
    HoldQueue.roomFor_of_done done
  rw [exec_holdAppend_of_outside ha hm, holdAppend_eq a.origin a.frame _ none, if_neg (by exact full),
    endDrain_of_record]
  · rfl
  · simpa [HoldQueue.lose, State.withAppends] using hr

/-- One eviction, counted, and the append goes on in what is left. -/
theorem holdAppend_of_eviction (ho : o ≠ .held) (short : s.hold.short (blocksNeeded f.bytes.length) = true)
    (oldest : s.hold.oldestHeld = some k) (hk : k < s.hold.records.length) :
    (holdAppend o f s).1 = (holdAppend o f (bump .holdEvicted (s.setHold (s.hold.evict k)))).1 := by
  rw [holdAppend_eq o f s (HoldQueue.roomFor_of_short ho short oldest hk),
    holdAppend_eq o f (bump .holdEvicted (s.setHold (s.hold.evict k))) (h := _) (n := _) rfl]
  rfl

theorem exec_holdAppend_of_eviction (ha : s.hold.appends = a :: rest) (hm : s.modeCtl.mode ≠ .pass)
    (ho : a.origin ≠ .held) (short : s.hold.short (blocksNeeded a.frame.bytes.length) = true)
    (oldest : s.hold.oldestHeld = some k) (hk : k < s.hold.records.length) :
    exec .holdAppend s = exec .holdAppend (bump .holdEvicted (s.setHold (s.hold.evict k))) := by
  have evicted : bump .holdEvicted ((s.withAppends rest).setHold ((s.withAppends rest).hold.evict k)) =
      (bump .holdEvicted (s.setHold (s.hold.evict k))).withAppends rest :=
    congrArg (fun h => bump .holdEvicted (s.setHold h)) (HoldQueue.evict_withAppends s.hold k rest)
  rw [exec_holdAppend_of_outside ha hm,
    exec_holdAppend_of_outside (s := bump .holdEvicted (s.setHold (s.hold.evict k)))
      ((HoldQueue.evict_appends ..).trans ha) hm,
    holdAppend_of_eviction (s := s.withAppends rest) ho short oldest hk, evicted]

/-- Settles O48: the three ends of an append, with the oldest HELD record named by its place. -/
theorem framesAreAppended : Obligations.FramesAreAppended := by
  intro s a rest n m taken ha hm hl hn hf ht
  subst hn hf ht
  refine ⟨fun enough free room => ?_, fun done => ⟨fun few free room => ?_, fun old r hr full => ?_⟩,
    fun k r ho short hr held idle first => ?_⟩
  · have enough : blocksNeeded a.frame.bytes.length ≤ s.hold.freeBlocks.length := enough
    have done : s.hold.short (blocksNeeded a.frame.bytes.length) = false := by
      rw [Bool.eq_false_iff, Ne, HoldQueue.short_iff]
      omega
    have step := exec_holdAppend_of_stored ha hm (.inl done) free room (HoldQueue.store_of_whole _ enough)
    rwa [decide_eq_false (Nat.not_lt.2 enough)] at step
  · have few : s.hold.freeBlocks.length < blocksNeeded a.frame.bytes.length := few
    have step := exec_holdAppend_of_stored ha hm (.inr done) free room (HoldQueue.store_of_clipped _ few)
    rwa [decide_eq_true few] at step
  · exact exec_holdAppend_of_lost ha hm (.inr done) (by omega) (by simp [hr]) (HoldQueue.lose_of_append hr)
  · have hk : k < s.hold.records.length := (List.getElem?_eq_some_iff.1 hr).1
    have evicts := exec_holdAppend_of_eviction ha hm ho
      (HoldQueue.short_iff.2 (short.imp_right fun e => Nat.le_of_eq e.symm))
      (HoldQueue.oldestHeld_eq_some hr held idle first) hk
    rw [HoldQueue.evict_of_getElem? hr] at evicts
    refine ⟨fun none => ?_, fun some lead => ?_, fun some inner apart => ?_⟩
    · rwa [HoldQueue.carryLoss, if_pos none] at evicts
    · rwa [HoldQueue.carryLoss, if_neg some, if_pos lead] at evicts
    · rwa [HoldQueue.carryLoss, if_neg some, if_neg fun lead => lead.elim (by omega) apart] at evicts

/-! #### What the records hold after an append -/

theorem HoldQueue.Thins.storedBytes (e : h.Thins h') (hr : r = { q with lossAfter := r.lossAfter }) :
    h'.storedBytes r = h.storedBytes q := by
  rw [hr, HoldQueue.storedBytes, e.pool]
  rfl

/-- A record that stays after an append holds the bytes that it held, and a new one those of the frame. -/
theorem holdAppend_readsBack (o : Origin) (f : HeldFrame) (pool : s.hold.pool.length = 64)
    (hr : r ∈ (holdAppend o f s).1.hold.records) :
    (∃ q ∈ s.hold.records, r = { q with lossAfter := r.lossAfter }
        ∧ (holdAppend o f s).1.hold.storedBytes r = s.hold.storedBytes q)
      ∨ (r.serial = s.hold.serial ∧ r.origin = o ∧ r.arrival = f.arrival ∧ r.original = f.bytes.length
        ∧ r.stored ≤ r.original ∧ (holdAppend o f s).1.hold.storedBytes r = f.bytes.take r.stored) := by
  rcases holdAppend_hold_cases o f s with thins | ⟨h, thins, -, e⟩
  · obtain ⟨q, hq, e⟩ := thins.of_mem hr
    exact .inl ⟨q, hq, e, thins.storedBytes e⟩
  · rw [e] at hr ⊢
    rw [HoldQueue.store_eq, List.mem_append, List.mem_singleton] at hr
    rcases hr with old | rfl
    · obtain ⟨q, hq, e⟩ := thins.of_mem old
      exact .inl ⟨q, hq, e, (HoldQueue.storedBytes_store old).trans (thins.storedBytes e)⟩
    · exact .inr ⟨thins.serial, rfl, rfl, rfl, h.stored_newRecord_le o f,
        HoldQueue.storedBytes_newRecord (thins.pool ▸ pool)⟩

/-- Settles O49: in PASS nothing is appended, and elsewhere an append reads back. -/
theorem storedBytesReadBack : Obligations.StoredBytesReadBack := by
  intro s t a rest _ pool ha step r hr
  by_cases hm : s.modeCtl.mode = .pass
  · rw [exec_holdAppend_of_pass ha hm] at step
    cases step
    exact .inl ⟨r, hr, rfl, rfl⟩
  · rw [exec_holdAppend_of_outside ha hm] at step
    cases step
    rw [endDrain_hold] at hr ⊢
    exact holdAppend_readsBack (s := s.withAppends rest) a.origin a.frame pool hr

end append
end Sys2Proof.Machine

namespace Sys2Proof.Machine

/-! ### The system port (O50 to O52) -/

section systemPort
variable {s idle : State} {b f : Frame} {i : Nat} {r : HoldRecord} {rs : List HoldRecord}

/-! #### Reception (R178) -/

theorem sysAdmits_iff {rx : SystemReception} :
    sysAdmits s rx = true ↔ rx.fcsGood = true ∧ rx.macError = false ∧ 64 ≤ rx.bytes.length
      ∧ rx.bytes.length ≤ maxLength rx.bytes ∧ receiveTaken s < Config.receivePlaces := by
  simp only [sysAdmits, Bool.and_eq_true, Bool.not_eq_true', decide_eq_true_iff, and_assoc]

/-- Settles O50: a frame is admitted by the checks of R178, of which one fails in every other case. -/
theorem systemFramesAreReceived : Obligations.SystemFramesAreReceived := by
  intro s rx taken ht
  have places : receiveTaken s = taken := ht.symm
  refine ⟨fun met => if_pos met, fun whole => ⟨fun good sound least most room => ?_, fun fails => ?_⟩⟩
  · have admits : sysAdmits s rx = true := sysAdmits_iff.2 ⟨good, sound, least, most, places ▸ room⟩
    exact (if_neg (by simp [whole])).trans (if_pos admits)
  · refine (if_neg (by simp [whole])).trans (if_neg fun admits => ?_)
    obtain ⟨good, sound, least, most, room⟩ := sysAdmits_iff.1 admits
    rw [places] at room
    rcases fails with e | e | short | long | full
    · simp [good] at e
    · simp [sound] at e
    · exact absurd least (Nat.not_le.2 short)
    · exact absurd most (Nat.not_le.2 long)
    · exact absurd room (Nat.not_lt.2 full)

/-! #### What the two streams offer (R181) -/

theorem controlOffer_eq_none_iff : controlOffer s = none ↔ s.ctl.response = none ∧ s.reply.notices = [] := by
  unfold controlOffer
  split <;> simp_all

theorem controlOffer_of_response (h : s.ctl.response = some f) : controlOffer s = some ⟨.response, f⟩ := by
  simp only [controlOffer, h]

theorem controlOffer_of_notice {rest : List Nat} (hc : s.ctl.response = none)
    (hn : s.reply.notices = i :: rest) :
    controlOffer s = some ⟨.rehearsal i, rehearsalNotice s.ctl.cfg (s.slot i)⟩ := by
  simp only [controlOffer, hc, hn]

theorem dataOffer_of_forward {rest : List Frame} (h : s.sys.fwd = f :: rest) :
    dataOffer s = some ⟨.forward, f⟩ := by
  simp only [dataOffer, h]

theorem dataOffer_of_drain (hf : s.sys.fwd = []) (hm : s.modeCtl.mode = .drain) :
    dataOffer s = holdItem s := by
  simp only [dataOffer, hf, hm, if_true]

/-- Without a record, a lead loss or a lead loss in delivery the hold queue offers nothing. -/
theorem holdItem_eq_none (hr : s.hold.records = []) (hl : s.hold.leadCount = 0) (hs : s.hold.stage ≠ .lead) :
    holdItem s = none := by
  cases stage : s.hold.stage with
  | lead => exact absurd stage hs
  | _ => simp [holdItem, stage, hr, hl]

theorem dataOffer_eq_none (hf : s.sys.fwd = [])
    (h : s.modeCtl.mode ≠ .drain
      ∨ (s.hold.records = [] ∧ s.hold.leadCount = 0 ∧ s.hold.stage ≠ .lead)) : dataOffer s = none := by
  by_cases hm : s.modeCtl.mode = .drain
  · obtain ⟨hr, hl, hs⟩ := h.resolve_left (absurd hm)
    rw [dataOffer_of_drain hf hm, holdItem_eq_none hr hl hs]
  · simp only [dataOffer, hf, hm, if_false]

section head
variable (hr : s.hold.records = r :: rs)
include hr

theorem holdItem_of_lead (h : s.hold.stage = .lead ∨ (s.hold.stage = .idle ∧ s.hold.leadCount ≠ 0)) :
    holdItem s =
      some ⟨.holdLead, lostFramesNotice s.ctl.cfg (s.hold.leadSerial.getD 0) s.hold.leadCount⟩ := by
  rcases h with stage | ⟨stage, lead⟩
  · simp only [holdItem, stage]
  · simp only [holdItem, stage, hr, List.head?_cons, if_pos lead]

theorem holdItem_of_notice (h : s.hold.stage = .notice ∨ (s.hold.stage = .idle ∧ s.hold.leadCount = 0)) :
    holdItem s = some ⟨.holdNotice, heldRecordNotice s.ctl.cfg r⟩ := by
  rcases h with stage | ⟨stage, lead⟩
  · simp [holdItem, stage, hr]
  · simp [holdItem, stage, hr, lead]

theorem holdItem_of_frame (stage : s.hold.stage = .frame) :
    holdItem s =
      some
        ⟨.holdFrame,
          if r.stored < r.original then clippedFrameNotice s.ctl.cfg r (s.hold.storedBytes r)
          else s.hold.storedBytes r⟩ := by
  simp [holdItem, stage, hr, HoldRecord.clipped]

theorem holdItem_of_loss (stage : s.hold.stage = .loss) :
    holdItem s = some ⟨.holdLoss, lostFramesNotice s.ctl.cfg r.serial r.lossAfter⟩ := by
  simp [holdItem, stage, hr]

end head

/-! #### The grant (R181) -/

theorem exec_sysEgressGrant_of_idle (hr : s.sys.ready = true) (ht : s.sys.tx = none) :
    exec .sysEgressGrant s = .next (grantEgress s) := if_pos ⟨hr, ht⟩

/-- The data stream goes alone, or with the control stream served last. -/
theorem grantEgress_of_data {x : EgressTx} (hd : dataOffer s = some x)
    (turn : s.sys.last = .control ∨ controlOffer s = none) : grantEgress s = sendItem .data x s := by
  cases hc : controlOffer s with
  | none => simp only [grantEgress, hd, hc]
  | some y => simp only [grantEgress, hd, hc, turn.resolve_right (by simp [hc]), if_true]

/-- The control stream goes alone, or with the data stream served last. -/
theorem grantEgress_of_control {x : EgressTx} (hc : controlOffer s = some x)
    (turn : s.sys.last = .data ∨ dataOffer s = none) : grantEgress s = sendItem .control x s := by
  cases hd : dataOffer s with
  | none => simp only [grantEgress, hd, hc]
  | some y =>
    have last : s.sys.last = .data := turn.resolve_right (by simp [hd])
    simp [grantEgress, hd, hc, last]

/-- Settles O51: the grant goes to the stream whose turn it is, with what that stream offers. -/
theorem egressIsGranted : Obligations.EgressIsGranted := by
  intro s control noData hcontrol hnoData
  have quiet : ¬control → controlOffer s = none := fun h => by
    obtain ⟨response, notices⟩ := not_or.1 (mt hcontrol.2 h)
    exact controlOffer_eq_none_iff.2 ⟨Classical.not_not.1 response, Classical.not_not.1 notices⟩
  have empty (h : noData) : dataOffer s = none := by
    obtain ⟨hf, hq⟩ := hnoData.1 h
    exact dataOffer_eq_none hf hq
  refine ⟨fun busy => ?_, fun ready link => ?_⟩
  · exact if_neg fun ⟨ready, link⟩ => busy.elim (by simp [ready]) (absurd link)
  have step := exec_sysEgressGrant_of_idle ready link
  have data {x : EgressTx} (offer : dataOffer s = some x) (turn : s.sys.last = .control ∨ ¬control) :
      exec .sysEgressGrant s = .next (sendItem .data x s) := by
    rw [step, grantEgress_of_data offer (turn.imp_right quiet)]
  have reply {x : EgressTx} (offer : controlOffer s = some x) (turn : s.sys.last = .data ∨ noData) :
      exec .sysEgressGrant s = .next (sendItem .control x s) := by
    rw [step, grantEgress_of_control offer (turn.imp_right empty)]
  refine ⟨fun none idle => ?_, fun f rest hf turn => data (dataOffer_of_forward hf) turn,
    fun f hf turn => reply (controlOffer_of_response hf) turn,
    fun i rest hn hi turn => reply (controlOffer_of_notice hn hi) turn, fun r rs hm hf turn hr => ?_⟩
  · rw [step, grantEgress, empty none, quiet idle]
  · have held {x : EgressTx} (offer : holdItem s = some x) :
        exec .sysEgressGrant s = .next (sendItem .data x s) :=
      data ((dataOffer_of_drain hf hm).trans offer) turn
    refine ⟨fun lead => held (holdItem_of_lead hr lead), fun notice => held (holdItem_of_notice hr notice),
      fun frame => ?_, fun loss => ?_⟩
    · rw [held (holdItem_of_frame hr frame), sendItem, stageOf, ← frame]
      rfl
    · rw [held (holdItem_of_loss hr loss), sendItem, stageOf, ← loss]
      rfl

/-! #### The end of a delivery (R174, R181) -/

theorem exec_sysDeliveryDone_of_item {x : EgressItem} (h : s.sys.tx = some ⟨x, b⟩)
    (hi : idle = { s with sys := { s.sys with tx := none } }) :
    exec .sysDeliveryDone s = .next (completeItem x idle) := by
  subst hi
  simp only [exec, execSysDeliveryDone, h]
  rfl

/-- The end of DRAIN, by its condition (R12). -/
theorem endDrain_eq (s : State) :
    endDrain s =
      { s with
        modeCtl :=
          { s.modeCtl with
            mode :=
              if s.modeCtl.mode = .drain ∧ s.hold.records = [] ∧ guardPending s = false
                  ∧ drainedWaiting s = false then .pass
              else s.modeCtl.mode } } := by
  unfold endDrain
  split
  · rename_i ends
    simp only [Bool.and_eq_true, decide_eq_true_eq, Bool.not_eq_true', List.isEmpty_iff, and_assoc] at ends
    rw [if_pos ends]
    rfl
  · rename_i stays
    simp only [Bool.and_eq_true, decide_eq_true_eq, Bool.not_eq_true', List.isEmpty_iff, and_assoc] at stays
    rw [if_neg stays]

/-- A delivery whose owner is the hold queue; DRAIN may end with it. -/
theorem exec_sysDeliveryDone_of_hold {x : EgressItem} {h : HoldQueue} (ht : s.sys.tx = some ⟨x, b⟩)
    (owner : ∀ u, completeItem x u = endDrain (u.setHold (holdDelivered x u.hold)))
    (e : holdDelivered x s.hold = h) :
    exec .sysDeliveryDone s = .next (endDrain { s with sys := { s.sys with tx := none }, hold := h }) := by
  subst e
  rw [exec_sysDeliveryDone_of_item ht rfl, owner]
  rfl

/-- DRAIN does not end while a record is left. -/
theorem exec_sysDeliveryDone_of_record {x : EgressItem} {h : HoldQueue} (ht : s.sys.tx = some ⟨x, b⟩)
    (owner : ∀ u, completeItem x u = endDrain (u.setHold (holdDelivered x u.hold)))
    (e : holdDelivered x s.hold = h) (left : h.records ≠ []) :
    exec .sysDeliveryDone s = .next { s with sys := { s.sys with tx := none }, hold := h } :=
  (exec_sysDeliveryDone_of_hold ht owner e).trans (congrArg _ (endDrain_of_record left))

section deliveredHead
variable {h : HoldQueue} (hr : h.records = r :: rs)
include hr

theorem holdDelivered_lead :
    holdDelivered .holdLead h = { h with leadCount := 0, leadSerial := none, stage := .notice } := by
  simp [holdDelivered, hr]

theorem holdDelivered_frame_of_loss (loss : r.lossAfter ≠ 0) :
    holdDelivered .holdFrame h = { h with stage := .loss } := by
  simp only [holdDelivered, hr, List.head?_cons, if_pos loss]

theorem holdDelivered_loss : holdDelivered .holdLoss h = { h with records := rs, stage := .idle } := by
  simp only [holdDelivered, HoldQueue.removeHead, hr, List.tail_cons]

theorem holdDelivered_frame_of_noLoss (loss : r.lossAfter = 0) :
    holdDelivered .holdFrame h = { h with records := rs, stage := .idle } := by
  simp only [holdDelivered, HoldQueue.removeHead, hr, List.head?_cons, List.tail_cons,
    if_neg fun ne : r.lossAfter ≠ 0 => ne loss]

end deliveredHead

/-- Settles O52, by the item that is delivered; DRAIN can end only where the last record goes. -/
theorem deliveriesComplete : Obligations.DeliveriesComplete := by
  intro s idle b hi
  have step {x : EgressItem} (h : s.sys.tx = some ⟨x, b⟩) := exec_sysDeliveryDone_of_item h hi
  subst hi
  refine ⟨step, step, fun i h => ?_, fun r rs hr => ?_⟩
  · rw [step h, completeItem, freeAndHandOn_eq_handedOn]
    rfl
  have left : s.hold.records ≠ [] := by simp [hr]
  refine ⟨fun h => exec_sysDeliveryDone_of_record h (fun _ => rfl) (holdDelivered_lead hr) left,
    fun h => exec_sysDeliveryDone_of_record h (fun _ => rfl) rfl left,
    fun h loss => exec_sysDeliveryDone_of_record h (fun _ => rfl) (holdDelivered_frame_of_loss hr loss) left,
    fun last => ?_⟩
  have removed : exec .sysDeliveryDone s = .next (endDrain
      { s with
        sys := { s.sys with tx := none }
        hold := { s.hold with records := rs, stage := .idle } }) := by
    rcases last with ⟨h, loss⟩ | h
    · exact exec_sysDeliveryDone_of_hold h (fun _ => rfl) (holdDelivered_frame_of_noLoss hr loss)
    · exact exec_sysDeliveryDone_of_hold h (fun _ => rfl) (holdDelivered_loss hr)
  rw [removed, endDrain_eq]
  rfl

end systemPort
end Sys2Proof.Machine

namespace Sys2Proof.Machine

/-! ### The reset state (O3, O58) -/

section resetState

/-- Settles O58: nothing runs, nothing is held and every order is empty; the rest are closed facts. -/
theorem resetIsSound : Obligations.ResetIsSound := by
  have quiet : Quiet State.reset := powerOnReset_quiet State.reset
  obtain ⟨holdSound, passEmpty⟩ := stocked_iff.1 (Stocked.of_empty (s := State.reset) rfl)
  obtain ⟨slots, probes⟩ := orderly_iff.1 (orderly_powerOnReset State.reset)
  have listed : ListedDerived State.reset := by decide
  have pressure : PressureSound State.reset := by decide
  have fifos : FifoBounds State.reset := by decide
  exact ⟨fun _ => rfl, fun _ => quiet, by decide, listed, pressure, fifos, holdSound, passEmpty, slots,
    probes⟩

/-- Settles O3: each table repeats its power-on entry, and the other fields are written out in `State.reset`. -/
theorem powerOnResetRestores : Obligations.PowerOnResetRestores := by
  obtain ⟨-, -, sizes, -⟩ := resetIsSound
  have free : State.reset.hold.freeBlocks.length = 64 := by decide
  have slots : ∀ x ∈ State.reset.reply.slots, x.state = .free := fun _ hx =>
    congrArg Slot.state (List.eq_of_mem_replicate hx)
  exact ⟨fun _ => ⟨_, rfl, rfl⟩, rfl, rfl, rfl, rfl, rfl, fun _ => List.eq_of_mem_replicate,
    fun _ => List.eq_of_mem_replicate, fun _ => List.eq_of_mem_replicate, fun _ => List.eq_of_mem_replicate,
    rfl, slots, rfl, rfl, rfl, rfl, rfl, rfl, fun _ => List.eq_of_mem_replicate,
    fun _ => List.eq_of_mem_replicate, rfl, rfl, rfl, rfl, rfl, rfl, free, rfl, rfl, rfl, rfl, rfl, rfl, rfl,
    rfl, rfl, rfl, sizes⟩

end resetState
end Sys2Proof.Machine

namespace Sys2Proof.Machine

/-! ### The checks of a control frame (O17) -/

section checks
variable {s : State} {f : Frame} {rest : List Frame} {code length : Nat}

/-- A control frame at the head of the receive FIFO, with the response buffer free (R179, R185). -/
theorem controlHead_of_cons (hr : s.sys.rx = f :: rest) (hn : s.ctl.response = none)
    (hc : isControl f = true) : controlHead s = some (readControl f) := by
  simp [controlHead, hr, hn, hc]

theorem isCommand_iff {h : ControlHeader} : h.isCommand = true ↔ h.version = 1 ∧ h.kind = 1 := by
  simp [ControlHeader.isCommand]

theorem knownCode_eq_false_iff : knownCode code = false ↔ code = 0 ∨ 20 < code := by
  rw [← Bool.not_eq_true, knownCode, Bool.and_eq_true, decide_eq_true_iff, decide_eq_true_iff]
  omega

theorem exec_badControlFrame_of_foreign (hh : controlHead s = some (readControl f))
    (hf : (readControl f).version ≠ 1 ∨ (readControl f).kind ≠ 1) :
    exec .badControlFrame s = .next (bump .sysBadControl (takeHead s)) := by
  have foreign : ¬(readControl f).isCommand = true := fun h => by
    obtain ⟨version, kind⟩ := isCommand_iff.1 h
    exact hf.elim (absurd version) (absurd kind)
  simp only [exec, execBadControlFrame, hh, if_neg foreign]

theorem exec_unknownCommand_of_unknown (hh : controlHead s = some (readControl f))
    (hv : (readControl f).version = 1) (hk : (readControl f).kind = 1)
    (hc : (readControl f).code = 0 ∨ 20 < (readControl f).code) :
    exec .unknownCommand s = .next
      (respond (readControl f)
        (.refuse
          (if (readControl f).present < (readControl f).bodyLength then .badLength else .unknownCommand)
          (takeHead s))) := by
  have unknown : (readControl f).isCommand = true ∧ knownCode (readControl f).code = false :=
    ⟨isCommand_iff.2 ⟨hv, hk⟩, knownCode_eq_false_iff.2 hc⟩
  simp only [exec, execUnknownCommand, hh, if_pos unknown]

/-- A body longer than the bytes present, or of another length than the command's, is refused before the
command's own checks (R186). -/
theorem takeCommand_of_badLength {act : Frame → State → Answer} (hh : controlHead s = some (readControl f))
    (hv : (readControl f).version = 1) (hk : (readControl f).kind = 1) (hc : (readControl f).code = code)
    (hl : (readControl f).present < (readControl f).bodyLength ∨ (readControl f).bodyLength ≠ length) :
    takeCommand code length act s = respond (readControl f) (.refuse .badLength (takeHead s)) := by
  have taken : (readControl f).isCommand = true ∧ (readControl f).code = code :=
    ⟨isCommand_iff.2 ⟨hv, hk⟩, hc⟩
  simp only [takeCommand, hh, if_pos taken]
  by_cases short : (readControl f).present < (readControl f).bodyLength
  · rw [if_pos short]
  · rw [if_neg short, if_pos (hl.resolve_left short)]

/-- Every command of the table is taken under its own code and length. -/
theorem exec_of_mem_commandTable {c : Instr × Nat × Nat} (hc : c ∈ commandTable) :
    ∃ act, ∀ s, exec c.1 s = .next (takeCommand c.2.1 c.2.2 act s) := by
  fin_cases hc <;> exact ⟨_, fun _ => rfl⟩

/-- Settles O17: the head is read once, and each check refuses or drops it with nothing done. -/
theorem controlFramesAreChecked : Obligations.ControlFramesAreChecked := by
  intro s f rest hr hn hc
  have head := controlHead_of_cons hr hn hc
  have taken := takeHead_of_cons hr
  refine ⟨fun foreign => ?_, fun hv hk => ⟨fun unknown => ?_, fun c hmem hcode hl => ?_⟩⟩
  · rw [exec_badControlFrame_of_foreign head foreign, taken]
  · rw [exec_unknownCommand_of_unknown head hv hk unknown, taken, respond_refuse]
  · obtain ⟨act, step⟩ := exec_of_mem_commandTable hmem
    rw [step, takeCommand_of_badLength head hv hk hcode hl, taken, respond_refuse]

end checks
end Sys2Proof.Machine

namespace Sys2Proof.Machine

/-! ### SOFT_RESET, IDENTIFY and READ_STATUS (O4, O5, O6) -/

section reports

/-- The runtime fields of a session at a soft reset (R98, R122). -/
theorem Session.resetRuntime_eq (x : Session) :
    x.resetRuntime =
      { x with
        state := if x.valid then .armed else .empty
        miss := 0
        lastPeer := (x.ts.map TsPart.echo).getD 0
        probesSent := 0
        acksSent := 0 } := by
  unfold Session.resetRuntime
  cases x.ts <;> rfl

/-- Settles O4: `softReset` block by block, and the response after it. -/
theorem softResetEffects : Obligations.SoftResetEffects := by
  intro s f rest ho
  have sessions : s.sessions.map Session.resetRuntime = s.sessions.map _ :=
    List.map_congr_left fun x _ => x.resetRuntime_eq
  have step : exec .softReset s =
      .next (respond (readControl f) (.done [] (softReset (s.withRx rest)))) :=
    congrArg _ (takeCommand_eq_respond _ ho)
  rw [step, ← sessions]
  rfl

/-- The sixteen bytes of R189, in the order of 11.6. -/
theorem identifyBody_eq :
    identifyBody = [0x0B, 0x5C, 0x22, 0x14, 1, 48, 12, 4, 8, 4, 4, 64, 64, 1, 0, 16] := by decide

/-- Settles O5: the body names no state. -/
theorem identifyDescribesThePart : Obligations.IdentifyDescribesThePart := by
  intro s f rest ho
  rw [← identifyBody_eq, ← respond_done]
  exact congrArg _ (takeCommand_eq_respond _ ho)

/-- The latch after READ_STATUS: kept only while the link is DOWN (R27, R190). -/
theorem clearLatch_eq (s : State) :
    clearLatch s = { s with linePort := ⟨s.linePort.up, s.linePort.lost && !s.linePort.up⟩ } := by
  unfold clearLatch
  split
  · rename_i up
    simp [State.setLinePort, up]
  · rename_i down
    have kept : (s.linePort.lost && !s.linePort.up) = s.linePort.lost := by simp [down]
    rw [kept]

/-- Settles O6: the body is made before the latch is cleared. -/
theorem readStatusReportsAndClearsLatch : Obligations.ReadStatusReportsAndClearsLatch := by
  intro s f rest ho
  have step : exec .readStatus s =
      .next (respond (readControl f)
        (.done (statusBody (s.withRx rest)) (clearLatch (s.withRx rest)))) :=
    congrArg _ (takeCommand_eq_respond _ ho)
  rw [step, clearLatch_eq]
  rfl

end reports
end Sys2Proof.Machine

namespace Sys2Proof.Machine

/-! ### READ_CONFIG, WRITE_CONFIG and CLEAR_TABLE (O7, O13) -/

section writes
variable {s : State} {f : Frame} {rest : List Frame} {code length : Nat}

/-- A write in PASS or DRAIN comes to its own act (R3). -/
theorem takeCommand_writing_outside {act : Frame → State → Answer} (h : Offers s f rest code length)
    (hm : s.modeCtl.mode = .pass ∨ s.modeCtl.mode = .drain) :
    takeCommand code length (writing act) s = respond (readControl f) (act (bodyOf f) (s.withRx rest)) := by
  have allowed : admitsWrites (s.withRx rest) = true := by
    rcases hm with hm | hm <;> simp [admitsWrites, State.withRx, hm]
  rw [takeCommand_eq_respond _ h, writing, if_pos allowed]

/-- The pressure state taken afresh: the lock stays, any other state is the one that P gives (R155). -/
theorem retake_eq (c : ConfigRecord) (w : WakeCtl) :
    retake c w =
      { w with
        pstate :=
          if w.pstate = .locked then .locked
          else if w.pressure < c.limW then .openState
          else if w.pressure < c.limS then .warned
          else .restrained } := by
  unfold retake
  split
  · rename_i locked
    rw [← locked]
  · rfl

/-- Settles O7, by what the body of WRITE_CONFIG is read as. -/
theorem configurationCommands : Obligations.ConfigurationCommands := by
  refine ⟨fun s f rest ho => congrArg _ (takeCommand_eq_respond _ ho), fun s f rest ho hm => ?_⟩
  have step : exec .writeConfig s =
      .next (respond (readControl f)
        (storing (decodeConfig (bodyOf f)) installConfig (s.withRx rest))) :=
    congrArg _ (takeCommand_writing_outside ho hm)
  refine ⟨fun c admitted => ?_, fun refused => ?_⟩
  · rw [step, admitted, storing, installConfig, retake_eq]
    rfl
  · rw [step, refused]
    rfl

/-- Settles O13: a table of its size cleared is the table of the reset state. -/
theorem clearTableClears : Obligations.ClearTableClears := by
  intro s f rest hsizes ho
  obtain ⟨matchSize, identitySize, nameSize, sessionSize, -, -, alarmSize, -⟩ := hsizes
  refine ⟨fun hm => congrArg _ (takeCommand_writing_inGuard ho hm), fun hm => ?_⟩
  have step : exec .clearTable s =
      .next (respond (readControl f)
        (storing (clearedTable (byteAt (bodyOf f) 0) (s.withRx rest)) (fun t _ => t) (s.withRx rest))) :=
    congrArg _ (takeCommand_writing_outside ho hm)
  have cleared {t : State} (h : clearedTable (byteAt (bodyOf f) 0) (s.withRx rest) = some (t.withRx rest)) :
      exec .clearTable s = .next (t.answered f rest .ok []) := by
    rw [step, h]
    rfl
  have entries {α : Type} (l : List α) (d : α) {n : Nat} (hn : l.length = n) :
      (l.map fun _ => d) = List.replicate n d := by rw [List.map_const', hn]
  refine ⟨fun h => cleared ?_, fun h => cleared ?_, fun h => cleared ?_, fun h => cleared ?_,
    fun h => cleared ?_, fun beyond => ?_⟩
  · rw [h]
    exact congrArg (fun l => some ((s.setMatchTable l).withRx rest)) (entries _ _ matchSize)
  · rw [h]
    exact congrArg (fun l => some ((refreshListed (s.setIdentities l)).withRx rest)) (entries _ _ identitySize)
  · rw [h]
    exact congrArg (fun l => some ((s.setNames l).withRx rest)) (entries _ _ nameSize)
  · rw [h]
    exact congrArg (fun l => some ((s.setSessions l).withRx rest)) (entries _ _ sessionSize)
  · rw [h]
    exact congrArg (fun l => some ((s.setBank { s.bank with alarms := l }).withRx rest)) (entries _ _ alarmSize)
  · obtain ⟨n, hn⟩ := Nat.exists_eq_add_of_le' beyond
    rw [step, hn]
    rfl

end writes
end Sys2Proof.Machine

namespace Sys2Proof.Machine

/-! ### The ranges of the configuration record (O8) -/

section ranges
variable {b : Frame} {c : ConfigRecord} {lo hi : Nat}

/-- The ranges of R191 of the fields that WRITE_CONFIG clamps. -/
structure ConfigRecord.Clamped (c : ConfigRecord) : Prop where
  weightCount : c.weights.length = 8
  weights : ∀ w ∈ c.weights, w ≤ 64
  quietInterval : 16 ≤ c.quietInterval ∧ c.quietInterval ≤ 65535
  pulseWidth : 1 ≤ c.pulseWidth ∧ c.pulseWidth ≤ 255
  retryLimit : c.retryLimit ≤ 7
  resumeWindow : 16 ≤ c.resumeWindow ∧ c.resumeWindow ≤ 65535
  ttl : 1 ≤ c.ttl ∧ c.ttl ≤ 255
  hopLimit : 1 ≤ c.hopLimit ∧ c.hopLimit ≤ 255

theorem clamp_mem (h : lo ≤ hi) (n : Nat) : lo ≤ clamp lo hi n ∧ clamp lo hi n ≤ hi :=
  ⟨Nat.le_max_left .., Nat.max_le.2 ⟨h, Nat.min_le_left ..⟩⟩

/-- The checks of R191, one by one. -/
theorem inRange_iff :
    c.inRange = true ↔
      isGroupMac c.hostMac = false ∧ c.vid ≤ 4095 ∧ c.pcp ≤ 7
        ∧ (1 ≤ c.baseThreshold ∧ c.baseThreshold ≤ 7) ∧ (1 ≤ c.restraint ∧ c.restraint ≤ 7)
        ∧ (1 ≤ c.limW ∧ c.limW ≤ c.limS ∧ c.limS < c.limL ∧ c.limL ≤ 511 ∧ c.limH < c.limL)
        ∧ c.linkLostCls ≤ 7 ∧ (1 ≤ c.namePort ∧ c.namePort ≤ 65535) ∧ isMulticast4 c.group4 = true
        ∧ isMulticast6 c.group6 = true ∧ c.extraMacs.length ≤ 4
        ∧ ∀ m ∈ c.extraMacs, isGroupMac m = true ∧ m ≠ Config.broadcastMac := by
  simp only [ConfigRecord.inRange, Bool.and_eq_true, Bool.not_eq_true', decide_eq_true_eq, List.all_eq_true,
    bne_iff_ne, and_assoc]

/-- An IPv4 multicast address begins with a byte from 224 to 239. -/
theorem firstByte_of_isMulticast4 {a : BitVec 32} (h : isMulticast4 a = true) :
    224 ≤ a.toNat / 2 ^ 24 ∧ a.toNat / 2 ^ 24 ≤ 239 := by
  have : a.toNat / 2 ^ 28 = 14 := beq_iff_eq.1 h
  omega

/-- An admitted record has passed the checks, and its other fields come from a clamp. -/
theorem decodeConfig_some (h : decodeConfig b = some c) : c.inRange = true ∧ c.Clamped := by
  simp only [decodeConfig, Option.bind_eq_bind, Option.bind_eq_some_iff, Option.ite_none_right_eq_some,
    Option.some.injEq] at h
  obtain ⟨_, -, _, -, _, -, _, -, inRange, rfl⟩ := h
  exact
    ⟨inRange,
      { weightCount := by simp
        weights := fun w hw => by
          obtain ⟨k, -, rfl⟩ := List.mem_map.1 hw
          exact (clamp_mem (by decide) _).2
        quietInterval := clamp_mem (by decide) _
        pulseWidth := clamp_mem (by decide) _
        retryLimit := (clamp_mem (by decide) _).2
        resumeWindow := clamp_mem (by decide) _
        ttl := clamp_mem (by decide) _
        hopLimit := clamp_mem (by decide) _ }⟩

/-- Settles O8: the checked fields by `inRange_iff`, the clamped ones by `ConfigRecord.Clamped`. -/
theorem admittedConfigurationsAreInRange : Obligations.AdmittedConfigurationsAreInRange := by
  intro b c h
  obtain ⟨inRange, clamped⟩ := decodeConfig_some h
  obtain ⟨hostMac, vid, pcp, ⟨base, base'⟩, ⟨restraint, restraint'⟩, ⟨limW, limS, limL, limL', limH⟩, linkLost,
    ⟨port, port'⟩, group4, group6, extraCount, extra⟩ := inRange_iff.1 inRange
  obtain ⟨weightCount, weights, ⟨quiet, quiet'⟩, ⟨pulse, pulse'⟩, retry, ⟨resume, resume'⟩, ⟨ttl, ttl'⟩,
    ⟨hop, hop'⟩⟩ := clamped
  exact ⟨hostMac, vid, pcp, base, base', restraint, restraint', limW, limS, limL, limL', limH, weightCount,
    weights, quiet, quiet', pulse, pulse', retry, resume, resume', linkLost, ttl, ttl', hop, hop', port, port',
    firstByte_of_isMulticast4 group4, beq_iff_eq.1 group6, extraCount, extra⟩

end ranges
end Sys2Proof.Machine

namespace Sys2Proof.Machine

/-! ### A configuration body read back (O9) -/

section configBodies
variable {c : ConfigRecord} {k n : Nat}

/-! #### Numbers of one width in a row -/

theorem length_flatten_map_toBytes (n : Nat) (l : List Nat) :
    (l.map (toBytes n)).flatten.length = n * l.length := by
  induction l with
  | nil => rfl
  | cons x l ih =>
    rw [List.map_cons, List.flatten_cons, List.length_append, length_toBytes, ih, List.length_cons, Nat.mul_add,
      Nat.mul_one, Nat.add_comm]

/-- The number at a place of the row reads back. -/
theorem beNat_flatten_map_toBytes {l : List Nat} (hl : ∀ x ∈ l, x < 256 ^ n) (hk : k < l.length) (d : Frame) :
    beNat ((l.map (toBytes n)).flatten ++ d) (n * k) n = l[k] := by
  induction l generalizing k with
  | nil => exact absurd hk (Nat.not_lt_zero k)
  | cons x l ih =>
    obtain ⟨fits, rest⟩ := List.forall_mem_cons.1 hl
    rw [List.map_cons, List.flatten_cons, List.append_assoc]
    cases k with
    | zero => exact beNat_toBytes_of_lt fits _
    | succ k =>
      rw [beNat_toBytes_after (Nat.le_mul_of_pos_right n k.succ_pos), Nat.mul_succ, Nat.add_sub_cancel]
      exact ih rest (Nat.lt_of_succ_lt_succ hk)

/-- A list is what its places give. -/
theorem map_range_eq {α : Type} {l : List α} {g : Nat → α} (h : ∀ (k : Nat) (hk : k < l.length), g k = l[k]) :
    (List.range l.length).map g = l :=
  List.ext_getElem (by simp) fun k _ hk => by
    rw [List.getElem_map, List.getElem_range]
    exact h k hk

/-! #### The four parts of a configuration body (11.6) -/

@[simp] theorem wakeMode_ofCode_code (m : WakeMode) : WakeMode.ofCode m.code = some m := by cases m <;> rfl

theorem wakeMode_code_lt (m : WakeMode) : m.code < 256 := by cases m <;> decide

/-- The twenty bytes before the weights. -/
def configHeader (c : ConfigRecord) : Frame :=
  macBytes c.hostMac ++ (toBytes 2 c.vid ++ (toBytes 1 c.pcp ++ (toBytes 1 (boolCode c.defaultHold)
    ++ (toBytes 1 c.baseThreshold ++ (toBytes 1 c.restraint ++ (toBytes 2 c.limW ++ (toBytes 2 c.limS
      ++ (toBytes 2 c.limL ++ toBytes 2 c.limH))))))))

/-- The weights, a byte each. -/
def weightBytes (c : ConfigRecord) : Frame := (c.weights.map (toBytes 1)).flatten

/-- The thirty-five bytes between the weights and the extra MACs. -/
def configFields (c : ConfigRecord) : Frame :=
  toBytes 2 c.quietInterval ++ (toBytes 1 (boolCode c.suppressDrop) ++ (toBytes 1 c.wakeMode.code
    ++ (toBytes 1 c.pulseWidth ++ (toBytes 1 c.retryLimit ++ (toBytes 2 c.resumeWindow
      ++ (toBytes 1 c.linkLostCls ++ (toBytes 1 c.ttl ++ (toBytes 1 c.hopLimit
        ++ (toBytes 1 (boolCode c.rehearsal) ++ (toBytes 2 c.namePort ++ (toBytes 4 c.group4.toNat
          ++ (toBytes 16 c.group6.toNat ++ toBytes 1 c.extraMacs.length))))))))))))

/-- The extra MACs, six bytes each. -/
def extraMacBytes (c : ConfigRecord) : Frame := ((c.extraMacs.map BitVec.toNat).map (toBytes 6)).flatten

theorem configBody_eq (c : ConfigRecord) :
    configBody c = configHeader c ++ (weightBytes c ++ (configFields c ++ padTo 24 (extraMacBytes c))) := by
  have macs : c.extraMacs.map macBytes = (c.extraMacs.map BitVec.toNat).map (toBytes 6) :=
    List.map_map.symm
  unfold configBody
  simp only [configHeader, weightBytes, configFields, extraMacBytes, macs, List.append_assoc]

@[simp] theorem length_configHeader (c : ConfigRecord) : (configHeader c).length = 20 := by
  simp [configHeader, macBytes]

@[simp] theorem length_configFields (c : ConfigRecord) : (configFields c).length = 35 := by
  simp [configFields]

theorem length_weightBytes (hw : c.weights.length = 8) : (weightBytes c).length = 8 := by
  rw [weightBytes, length_flatten_map_toBytes, hw]

theorem length_extraMacBytes (c : ConfigRecord) : (extraMacBytes c).length = 6 * c.extraMacs.length := by
  rw [extraMacBytes, length_flatten_map_toBytes, List.length_map]

theorem length_configBody (hw : c.weights.length = 8) (hx : c.extraMacs.length ≤ 4) :
    (configBody c).length = 87 := by
  have macs : (extraMacBytes c).length ≤ 24 := by
    rw [length_extraMacBytes]
    omega
  rw [configBody_eq, List.length_append, List.length_append, List.length_append, length_configHeader,
    length_weightBytes hw, length_configFields, length_padTo macs]

/-! #### Each part read back at its offset -/

theorem beNat_configBody_weights (c : ConfigRecord) (i n : Nat) :
    beNat (configBody c) (20 + i) n =
      beNat (weightBytes c ++ (configFields c ++ padTo 24 (extraMacBytes c))) i n := by
  rw [configBody_eq, beNat_append_of_le (by simp), length_configHeader, Nat.add_sub_cancel_left]

theorem beNat_configBody_fields (hw : c.weights.length = 8) (i n : Nat) :
    beNat (configBody c) (28 + i) n = beNat (configFields c ++ padTo 24 (extraMacBytes c)) i n := by
  have before := length_weightBytes hw
  rw [show 28 + i = 20 + (8 + i) by omega, beNat_configBody_weights, beNat_append_of_le (by omega), before,
    Nat.add_sub_cancel_left]

theorem beNat_configBody_extraMacs (hw : c.weights.length = 8) (i n : Nat) :
    beNat (configBody c) (63 + i) n = beNat (padTo 24 (extraMacBytes c)) i n := by
  rw [show 63 + i = 28 + (35 + i) by omega, beNat_configBody_fields hw, beNat_append_of_le (by simp),
    length_configFields, Nat.add_sub_cancel_left]

/-- The weights read back, and their clamp leaves them. -/
theorem weights_configBody (h : c.Clamped) :
    ((List.range 8).map fun k => clamp 0 64 (byteAt (configBody c) (20 + k))) = c.weights := by
  have place (k : Nat) (hk : k < c.weights.length) :
      clamp 0 64 (byteAt (configBody c) (20 + k)) = c.weights[k] := by
    have fits : ∀ w ∈ c.weights, w < 256 ^ 1 := fun w hw => Nat.lt_of_le_of_lt (h.weights w hw) (by decide)
    have read := beNat_flatten_map_toBytes fits hk (configFields c ++ padTo 24 (extraMacBytes c))
    rw [Nat.one_mul] at read
    rw [byteAt_eq_beNat, beNat_configBody_weights, weightBytes, read,
      clamp_of_mem ⟨Nat.zero_le _, h.weights _ (List.getElem_mem hk)⟩]
  rw [← h.weightCount]
  exact map_range_eq place

/-- The extra MACs read back. -/
theorem extraMacs_configBody (hw : c.weights.length = 8) :
    ((List.range c.extraMacs.length).map fun k => macAt (configBody c) (63 + 6 * k)) = c.extraMacs := by
  refine map_range_eq fun k hk => ?_
  have fits : ∀ x ∈ c.extraMacs.map BitVec.toNat, x < 256 ^ 6 := fun x hx => by
    obtain ⟨m, -, rfl⟩ := List.mem_map.1 hx
    exact m.isLt
  have read : beNat (padTo 24 (extraMacBytes c)) (6 * k) 6 = c.extraMacs[k].toNat := by
    rw [padTo, extraMacBytes, beNat_flatten_map_toBytes fits (by simpa using hk), List.getElem_map]
  rw [macAt, beNat_configBody_extraMacs hw, read, BitVec.ofNat_toNat, BitVec.setWidth_eq]

/-- The header of a body reads back. -/
theorem header_configBody (hr : c.inRange = true) :
    macAt (configBody c) 0 = c.hostMac ∧ beNat (configBody c) 6 2 = c.vid ∧ byteAt (configBody c) 8 = c.pcp
      ∧ byteAt (configBody c) 9 = boolCode c.defaultHold ∧ byteAt (configBody c) 10 = c.baseThreshold
      ∧ byteAt (configBody c) 11 = c.restraint ∧ beNat (configBody c) 12 2 = c.limW
      ∧ beNat (configBody c) 14 2 = c.limS ∧ beNat (configBody c) 16 2 = c.limL
      ∧ beNat (configBody c) 18 2 = c.limH := by
  obtain ⟨-, vid, pcp, base, restraint, limits, -⟩ := inRange_iff.1 hr
  rw [configBody_eq, configHeader]
  simp only [List.append_assoc, macAt_macBytes]
  simp [macBytes, beNat_toBytes_after, beNat_toBytes_of_lt, byteAt_toBytes_after, byteAt_toBytes_first,
    boolCode_lt, show c.vid < 65536 by omega, show c.pcp < 256 by omega, show c.baseThreshold < 256 by omega,
    show c.restraint < 256 by omega, show c.limW < 65536 by omega, show c.limS < 65536 by omega,
    show c.limL < 65536 by omega, show c.limH < 65536 by omega]

theorem byteAt_configBody_fields (hw : c.weights.length = 8) (i : Nat) :
    byteAt (configBody c) (28 + i) = byteAt (configFields c ++ padTo 24 (extraMacBytes c)) i := by
  simpa only [byteAt_eq_beNat] using beNat_configBody_fields hw i 1

/-- The fields behind the weights read back, up to the name port. -/
theorem fields_configBody (hr : c.inRange = true) (h : c.Clamped) :
    beNat (configBody c) 28 2 = c.quietInterval ∧ byteAt (configBody c) 30 = boolCode c.suppressDrop
      ∧ byteAt (configBody c) 31 = c.wakeMode.code ∧ byteAt (configBody c) 32 = c.pulseWidth
      ∧ byteAt (configBody c) 33 = c.retryLimit ∧ beNat (configBody c) 34 2 = c.resumeWindow
      ∧ byteAt (configBody c) 36 = c.linkLostCls ∧ byteAt (configBody c) 37 = c.ttl
      ∧ byteAt (configBody c) 38 = c.hopLimit ∧ byteAt (configBody c) 39 = boolCode c.rehearsal
      ∧ beNat (configBody c) 40 2 = c.namePort := by
  obtain ⟨-, -, -, -, -, -, linkLost, port, -⟩ := inRange_iff.1 hr
  have number := beNat_configBody_fields h.weightCount
  have byte := byteAt_configBody_fields h.weightCount
  obtain ⟨-, -, quiet, pulse, retry, resume, ttl, hop⟩ := h
  rw [number 0, byte 2, byte 3, byte 4, byte 5, number 6, byte 8, byte 9, byte 10, byte 11, number 12]
  simp [configFields, beNat_toBytes_after, beNat_toBytes_of_lt, byteAt_toBytes_after, byteAt_toBytes_first,
    boolCode_lt, wakeMode_code_lt, show c.quietInterval < 65536 by omega, show c.pulseWidth < 256 by omega,
    show c.retryLimit < 256 by omega, show c.resumeWindow < 65536 by omega,
    show c.linkLostCls < 256 by omega, show c.ttl < 256 by omega, show c.hopLimit < 256 by omega,
    show c.namePort < 65536 by omega]

/-- The name groups and the count of the extra MACs read back. -/
theorem groups_configBody (hw : c.weights.length = 8) (hx : c.extraMacs.length ≤ 4) :
    v4At (configBody c) 42 = c.group4 ∧ v6At (configBody c) 46 = c.group6
      ∧ byteAt (configBody c) 62 = c.extraMacs.length := by
  rw [v4At, v6At, beNat_configBody_fields hw 14, beNat_configBody_fields hw 18,
    byteAt_configBody_fields hw 34]
  simp [configFields, beNat_toBytes_after, ofNat_beNat_toBytes, byteAt_toBytes_after, byteAt_toBytes_first,
    show c.extraMacs.length < 256 by omega]

theorem decodeConfig_configBody (hr : c.inRange = true) (h : c.Clamped) :
    decodeConfig (configBody c) = some c := by
  have weights := weights_configBody h
  have macs := extraMacs_configBody h.weightCount
  obtain ⟨-, -, -, -, -, -, -, -, -, -, extraCount, -⟩ := inRange_iff.1 hr
  obtain ⟨hostMac, vid, pcp, hold, base, restraint, limW, limS, limL, limH⟩ := header_configBody hr
  obtain ⟨quiet, suppress, wakeMode, pulse, retry, resume, linkLost, ttl, hop, rehearsal, port⟩ :=
    fields_configBody hr h
  obtain ⟨group4, group6, count⟩ := groups_configBody h.weightCount extraCount
  simp only [decodeConfig, hostMac, vid, pcp, hold, base, restraint, limW, limS, limL, limH, weights, quiet,
    suppress, wakeMode, pulse, retry, resume, linkLost, ttl, hop, rehearsal, port, group4, group6, count, macs,
    yesNo_boolCode, wakeMode_ofCode_code, clamp_of_mem h.quietInterval, clamp_of_mem h.pulseWidth,
    clamp_of_mem ⟨Nat.zero_le _, h.retryLimit⟩, clamp_of_mem h.resumeWindow, clamp_of_mem h.ttl,
    clamp_of_mem h.hopLimit, Option.bind_eq_bind, Option.bind_some]
  exact if_pos hr

/-- Settles O9: every field reads back at its offset, and passes its check or clamp. -/
theorem configurationBodyReadsBack : Obligations.ConfigurationBodyReadsBack := by
  intro c hr weightCount weights quiet pulse retry resume ttl hop
  obtain ⟨-, -, -, -, -, -, -, -, -, -, extraCount, -⟩ := inRange_iff.1 hr
  exact ⟨length_configBody weightCount extraCount,
    decodeConfig_configBody hr ⟨weightCount, weights, quiet, pulse, retry, resume, ttl, hop⟩⟩

end configBodies
end Sys2Proof.Machine

namespace Sys2Proof.Machine

/-! ### The queue and the step (O1, O2) -/

/-- Settles O1, by the two forms of the queue. -/
theorem stepRunsFrontCommand : Obligations.StepRunsFrontCommand :=
  ⟨fun c rest s front => by rw [step, front], fun s empty => by rw [step, empty]⟩

/-- A command's run from a state ends in a next state, with the queue as it was. -/
def Completes (s : State) (r : Result) : Prop := ∃ t : State, r = .next t ∧ t.pending = s.pending

section completes
variable {s t : State}

theorem Completes.next (kept : t.pending = s.pending := by simp) : Completes s (.next t) := ⟨t, rfl, kept⟩

theorem Completes.idle (s : State) : Completes s (.next s) := .next rfl

/-! #### Control commands (R184 to R188) -/

theorem writing_pending {act : Frame → State → Answer} {b : Frame}
    (hact : (act b s).state.pending = s.pending) : (writing act b s).state.pending = s.pending := by
  unfold writing
  split
  · exact hact
  · rfl

theorem indexed_pending {n : Nat} {act : Nat → Frame → State → Answer} {b : Frame}
    (hact : ∀ i, (act i b s).state.pending = s.pending) : (indexed n act b s).state.pending = s.pending := by
  unfold indexed
  split
  · exact hact _
  · rfl

theorem storing_pending {α : Type} {value : Option α} {store : α → State → State}
    (hstore : ∀ x, value = some x → (store x s).pending = s.pending) :
    (storing value store s).state.pending = s.pending := by
  cases value with
  | some x => exact hstore x rfl
  | none => rfl

theorem clearedTable_pending {selector : Nat} (h : clearedTable selector s = some t) :
    t.pending = s.pending := by
  unfold clearedTable at h
  split at h <;> cases h <;> simp

theorem enterGuard_pending (s : State) : (enterGuard s).state.pending = s.pending := by
  rcases enterGuard_cases s with h | ⟨-, h⟩ <;> rw [h]
  simp [guardEntry]

theorem leaveGuard_pending (s : State) : (leaveGuard s).state.pending = s.pending := by
  unfold leaveGuard
  split
  · exact guardExit_pending s
  · rfl

theorem readCounters_pending (b : Frame) (s : State) : (readCounters b s).state.pending = s.pending := by
  unfold readCounters
  split
  · rename_i clear _
    cases clear
    · rfl
    · exact clearCounters_pending s
  · rfl

/-- A control command completes where its act keeps the queue: idle, refused or done (R185, R186). -/
theorem completes_takeCommand {code length : Nat} {act : Frame → State → Answer}
    (hact : ∀ b u, (act b u).state.pending = u.pending) :
    Completes s (.next (takeCommand code length act s)) := by
  have responded (h : ControlHeader) (a : Answer) : (respond h a).pending = a.state.pending := rfl
  have taken : (takeHead s).pending = s.pending := takeHead_pending s
  rcases takeCommand_cases code length act s with idle | ⟨h, a, answered, refused | ⟨b, rfl⟩⟩
  · exact .next (congrArg State.pending idle)
  · exact .next (by rw [answered, responded, refused, taken])
  · exact .next (by rw [answered, responded, hact, taken])

/-- A command that reports and changes nothing. -/
theorem completes_report {code length : Nat} {body : State → Frame} :
    Completes s (.next (takeCommand code length (fun _ u => .done (body u) u) s)) :=
  completes_takeCommand fun _ _ => rfl

/-- A read with an index. -/
theorem completes_indexedRead {code length n : Nat} {body : Nat → State → Frame} :
    Completes s (.next (takeCommand code length (indexed n fun i _ u => .done (body i u) u) s)) :=
  completes_takeCommand fun _ _ => indexed_pending fun _ => rfl

/-- A write with an index. -/
theorem completes_indexedWrite {α : Type} {code length n : Nat} {value : Nat → Frame → State → Option α}
    {store : Nat → α → State → State} (hstore : ∀ i x u, (store i x u).pending = u.pending) :
    Completes s (.next
      (takeCommand code length (writing (indexed n fun i b u => storing (value i b u) (store i) u)) s)) :=
  completes_takeCommand fun _ u => writing_pending <| indexed_pending fun i => storing_pending fun x _ =>
    hstore i x u

theorem completes_badControlFrame (s : State) : Completes s (execBadControlFrame s) := by
  unfold execBadControlFrame
  split
  · exact .idle s
  split
  · exact .idle s
  · exact .next

theorem completes_unknownCommand (s : State) : Completes s (execUnknownCommand s) := by
  unfold execUnknownCommand
  split
  · exact .idle s
  split
  · exact .next rfl
  · exact .idle s

/-! #### The line, the guard path and the link -/

theorem completes_lineFrameReceived (rx : LineReception) (s : State) :
    Completes s (execLineFrameReceived rx s) := by
  unfold execLineFrameReceived
  split
  · exact .next
  split
  · exact .idle s
  split
  · exact .next
  · exact .next

theorem completes_parseFrame (s : State) : Completes s (execParseFrame s) := by
  unfold execParseFrame
  split
  · exact .idle s
  dsimp only
  split
  · split
    · exact .idle s
    · exact .next
  split
  · exact .idle s
  · exact .next

theorem completes_classifyFrame (s : State) : Completes s (execClassifyFrame s) := by
  unfold execClassifyFrame
  split
  · exact .idle s
  split
  · exact .next
  · exact .idle s

theorem completes_linkDown (receiving : Option Nat) (s : State) : Completes s (execLinkDown receiving s) := by
  unfold execLinkDown
  split
  · cases receiving with
    | some n => exact .next
    | none => exact .next
  · exact .idle s

theorem completes_linkUp (s : State) : Completes s (execLinkUp s) := by
  unfold execLinkUp
  split
  · exact .idle s
  · exact .next

theorem completes_lineTxGrant (s : State) : Completes s (execLineTxGrant s) := by
  unfold execLineTxGrant
  split
  · exact .next
  · exact .idle s

theorem completes_lineTxDone (s : State) : Completes s (execLineTxDone s) := by
  unfold execLineTxDone
  split
  · exact .idle s
  · exact .next
  · exact .next

theorem completes_systemFrameDiscard (s : State) : Completes s (execSystemFrameDiscard s) := by
  unfold execSystemFrameDiscard
  split
  · split
    · exact .next
    · exact .idle s
  · exact .idle s

/-! #### Expiries, wake requests and the hold queue -/

/-- A notice taken leaves the queue alone. -/
theorem takeNotice_pending {timer : Nat} {n : ExpiryNotice} (h : takeNotice timer s = some (n, t)) :
    t.pending = s.pending := by
  obtain ⟨-, rfl⟩ := takeNotice_eq_some h
  rfl

theorem completes_sessionTimerExpiry (i : Nat) (s : State) : Completes s (execSessionTimerExpiry i s) := by
  unfold execSessionTimerExpiry
  split
  · exact .idle s
  split
  · exact .idle s
  · rename_i hn
    refine .next ((State.setBank_pending ..).trans (.trans ?_ (takeNotice_pending hn)))
    split
    · split
      · rfl
      · exact expiryAlive_pending ..
    · exact expiryProbing_pending ..
    · rfl

theorem completes_expiryAnswer (i : Nat) (s : State) : Completes s (execExpiryAnswer i s) := by
  unfold execExpiryAnswer
  split
  · exact .next
  · exact .idle s

theorem completes_alarmExpiry (n : Nat) (s : State) : Completes s (execAlarmExpiry n s) := by
  unfold execAlarmExpiry
  split
  · exact .idle s
  · rename_i hn
    have taken := takeNotice_pending hn
    split
    · exact .next ((alarmExpires_pending ..).trans taken)
    · exact .next taken

theorem completes_wakeRequest (place : Nat) (s : State) : Completes s (execWakeRequest place s) := by
  unfold execWakeRequest
  split
  · exact .idle s
  · exact .next

theorem completes_holdAppend (s : State) : Completes s (execHoldAppend s) := by
  unfold execHoldAppend
  split
  · exact .idle s
  dsimp only
  split
  · exact .next
  · exact .next

/-! #### The system port -/

theorem completes_sysFrameReceived (rx : SystemReception) (s : State) :
    Completes s (execSysFrameReceived rx s) := by
  unfold execSysFrameReceived
  split
  · exact .idle s
  split
  · exact .next
  · exact .next

theorem completes_systemReadyRise (s : State) : Completes s (execSystemReadyRise s) := by
  unfold execSystemReadyRise
  split
  · exact .idle s
  dsimp only
  split
  · exact .next
  · exact .next

theorem completes_systemReadyFall (s : State) : Completes s (execSystemReadyFall s) := by
  unfold execSystemReadyFall
  split
  · exact .next
  · exact .idle s

theorem completes_sysEgressGrant (s : State) : Completes s (execSysEgressGrant s) := by
  unfold execSysEgressGrant
  split
  · exact .next
  · exact .idle s

theorem completes_sysDeliveryDone (s : State) : Completes s (execSysDeliveryDone s) := by
  unfold execSysDeliveryDone
  split
  · exact .idle s
  · exact .next

/-! #### Every command -/

theorem completes_exec (c : Instr) (s : State) : Completes s (exec c s) := by
  cases c with
  | powerOnReset => exact .next rfl
  | softReset => exact completes_takeCommand fun _ u => softReset_pending u
  | identify => exact completes_report
  | readStatus => exact completes_takeCommand fun _ u => clearLatch_pending u
  | writeConfig =>
    exact completes_takeCommand fun _ u => writing_pending <| storing_pending fun x _ =>
      installConfig_pending x u
  | readConfig => exact completes_report
  | writeMatch => exact completes_indexedWrite storeMatch_pending
  | readMatch => exact completes_indexedRead
  | writeIdentity => exact completes_indexedWrite storeIdentity_pending
  | readIdentity => exact completes_indexedRead
  | writeName => exact completes_indexedWrite storeName_pending
  | readName => exact completes_indexedRead
  | writeSession => exact completes_indexedWrite storeSession_pending
  | readSession => exact completes_indexedRead
  | writeAlarm => exact completes_indexedWrite storeAlarm_pending
  | readAlarm => exact completes_indexedRead
  | clearTable =>
    exact completes_takeCommand fun _ _ => writing_pending <| storing_pending fun _ hx =>
      clearedTable_pending hx
  | enterGuard => exact completes_takeCommand fun _ => enterGuard_pending
  | leaveGuard => exact completes_takeCommand fun _ => leaveGuard_pending
  | readWakeRecord => exact completes_takeCommand fun _ _ => rfl
  | readCounters => exact completes_takeCommand readCounters_pending
  | badControlFrame => exact completes_badControlFrame s
  | unknownCommand => exact completes_unknownCommand s
  | tick => exact .next ((countTick_pending _).trans (settleTick_pending s))
  | linkDown receiving => exact completes_linkDown receiving s
  | linkUp => exact completes_linkUp s
  | systemReadyRise => exact completes_systemReadyRise s
  | systemReadyFall => exact completes_systemReadyFall s
  | lineFrameReceived rx => exact completes_lineFrameReceived rx s
  | sysFrameReceived rx => exact completes_sysFrameReceived rx s
  | parseFrame => exact completes_parseFrame s
  | classifyFrame => exact completes_classifyFrame s
  | sessionTimerExpiry i => exact completes_sessionTimerExpiry i s
  | expiryAnswer i => exact completes_expiryAnswer i s
  | alarmExpiry n => exact completes_alarmExpiry n s
  | quietIntervalEnd => exact .next (takeHeldTick_pending s)
  | wakeRequest place => exact completes_wakeRequest place s
  | pulseEnd => exact .next (pulseEnd_pending s)
  | resumeWindowEnd => exact .next (resumeWindowEnd_pending s)
  | holdAppend => exact completes_holdAppend s
  | lineTxGrant => exact completes_lineTxGrant s
  | lineTxDone => exact completes_lineTxDone s
  | systemFrameDiscard => exact completes_systemFrameDiscard s
  | sysEgressGrant => exact completes_sysEgressGrant s
  | sysDeliveryDone => exact completes_sysDeliveryDone s

end completes

/-- Settles O2: command by command, each path of its meaning ends in a next state with the same queue. -/
theorem everyCommandCompletes : Obligations.EveryCommandCompletes := completes_exec

end Sys2Proof.Machine

namespace Sys2Proof.Machine

/-! ### The sizes that no write changes (R124, R145, R169, R194) -/

/-- How many reply slots, timers, hold blocks and counters there are. -/
def State.rooms (s : State) : Nat × Nat × Nat × Nat :=
  (s.reply.slots.length, s.bank.timers.length, s.hold.pool.length, s.ctl.counters.length)

section rooms
variable {s t : State}

theorem rooms_eq (hr : t.reply.slots.length = s.reply.slots.length)
    (hb : t.bank.timers.length = s.bank.timers.length) (hh : t.hold.pool.length = s.hold.pool.length)
    (hc : t.ctl.counters.length = s.ctl.counters.length) : t.rooms = s.rooms := by
  rw [State.rooms, hr, hb, hh, hc]
  rfl

/-! #### One rule per update -/

variable (s)

@[simp] theorem rooms_setPending (x : List Instr) : (s.setPending x).rooms = s.rooms := rfl
@[simp] theorem rooms_setModeCtl (x : ModeCtl) : (s.setModeCtl x).rooms = s.rooms := rfl
@[simp] theorem rooms_setLinePort (x : LinePort) : (s.setLinePort x).rooms = s.rooms := rfl
@[simp] theorem rooms_setGuardPath (x : GuardPath) : (s.setGuardPath x).rooms = s.rooms := rfl
@[simp] theorem rooms_setMatchTable (x : List MatchEntry) : (s.setMatchTable x).rooms = s.rooms := rfl
@[simp] theorem rooms_setIdentities (x : List Identity) : (s.setIdentities x).rooms = s.rooms := rfl
@[simp] theorem rooms_setNames (x : List NameEntry) : (s.setNames x).rooms = s.rooms := rfl
@[simp] theorem rooms_setSessions (x : List Session) : (s.setSessions x).rooms = s.rooms := rfl
@[simp] theorem rooms_setProbes (x : List Nat) : (s.setProbes x).rooms = s.rooms := rfl
@[simp] theorem rooms_setArb (x : LineArb) : (s.setArb x).rooms = s.rooms := rfl
@[simp] theorem rooms_setWake (x : WakeCtl) : (s.setWake x).rooms = s.rooms := rfl
@[simp] theorem rooms_setSys (x : SysPort) : (s.setSys x).rooms = s.rooms := rfl

variable {s}

theorem rooms_setReply {x : ReplyBuilder} (h : x.slots.length = s.reply.slots.length) :
    (s.setReply x).rooms = s.rooms := rooms_eq h rfl rfl rfl

theorem rooms_setBank {x : TimerBank} (h : x.timers.length = s.bank.timers.length) :
    (s.setBank x).rooms = s.rooms := rooms_eq rfl h rfl rfl

theorem rooms_setHold {x : HoldQueue} (h : x.pool.length = s.hold.pool.length) :
    (s.setHold x).rooms = s.rooms := rooms_eq rfl rfl h rfl

theorem rooms_setCtl {x : ControlUnit} (h : x.counters.length = s.ctl.counters.length) :
    (s.setCtl x).rooms = s.rooms := rooms_eq rfl rfl rfl h

/-! #### Counters, entries and what is on its way -/

@[simp] theorem rooms_bump (c : Counter) (s : State) : (bump c s).rooms = s.rooms :=
  rooms_setCtl (List.length_modify ..)

@[simp] theorem rooms_bumpIf (p : Bool) (c : Counter) (s : State) : (bumpIf p c s).rooms = s.rooms := by
  cases p <;> simp [bumpIf]

@[simp] theorem rooms_bumpTimes (n : Nat) (c : Counter) (s : State) : (bumpTimes n c s).rooms = s.rooms := by
  induction n generalizing s with
  | zero => rfl
  | succ n ih => simp [bumpTimes, ih]

@[simp] theorem rooms_setMode (m : Mode) (s : State) : (setMode m s).rooms = s.rooms := rfl

@[simp] theorem rooms_endDrain (s : State) : (endDrain s).rooms = s.rooms := by
  rcases endDrain_cases s with e | ⟨-, -, -, -, e⟩ <;> simp [e]

@[simp] theorem rooms_modifyIdentity (i : Nat) (f : Identity → Identity) (s : State) :
    (modifyIdentity i f s).rooms = s.rooms := rfl

@[simp] theorem rooms_modifySession (i : Nat) (f : Session → Session) (s : State) :
    (modifySession i f s).rooms = s.rooms := rfl

@[simp] theorem rooms_modifyTimer (i : Nat) (f : Timer → Timer) (s : State) :
    (modifyTimer i f s).rooms = s.rooms := rooms_setBank (List.length_modify ..)

@[simp] theorem rooms_modifyAlarm (i : Nat) (f : Alarm → Alarm) (s : State) :
    (modifyAlarm i f s).rooms = s.rooms := rfl

@[simp] theorem rooms_stageTimer (i v : Nat) (s : State) : (stageTimer i v s).rooms = s.rooms :=
  rooms_modifyTimer ..

@[simp] theorem rooms_stopTimer (i : Nat) (s : State) : (stopTimer i s).rooms = s.rooms :=
  rooms_modifyTimer ..

@[simp] theorem rooms_sendRequest (r : WakeRequest) (s : State) : (sendRequest r s).rooms = s.rooms := rfl

@[simp] theorem rooms_handToHold (o : Origin) (f : HeldFrame) (s : State) :
    (handToHold o f s).rooms = s.rooms := rfl

/-! #### The reply builder and the link -/

@[simp] theorem rooms_fillSlot (i : Nat) (d : SlotDest) (k : ReplyKind) (n : Option Nat) (v4 : Bool) (f : Frame)
    (s : State) : (fillSlot i d k n v4 f s).rooms = s.rooms := rooms_setReply List.length_set

@[simp] theorem rooms_skipReply (p : Path) (s : State) : (skipReply p s).rooms = s.rooms := rooms_bumpIf ..

theorem rooms_buildReply {p : Path} {k : ReplyKind} {n : Option Nat} {v4 : Bool} {frame : BitVec 16 → Frame}
    (h : buildReply p k n v4 frame s = some t) : t.rooms = s.rooms := by
  obtain ⟨i, -, rfl⟩ := buildReply_some h
  simp

@[simp] theorem rooms_buildProbe (slot i : Nat) (s : State) : (buildProbe slot i s).rooms = s.rooms := by
  simp [buildProbe]

@[simp] theorem rooms_freeAndHandOn (i : Nat) (s : State) : (freeAndHandOn i s).rooms = s.rooms := by
  unfold freeAndHandOn
  dsimp only
  split <;> simp [rooms_setReply]

@[simp] theorem rooms_freeAllAndHandOn (l : List Nat) (s : State) : (freeAllAndHandOn l s).rooms = s.rooms := by
  induction l generalizing s with
  | nil => rfl
  | cons i rest ih => simp [freeAllAndHandOn, ih]

@[simp] theorem rooms_countDiscarded (l : List Nat) (s : State) : (countDiscarded l s).rooms = s.rooms := by
  induction l generalizing s with
  | nil => rfl
  | cons i rest ih => simp [countDiscarded, ih]

@[simp] theorem rooms_discardLineReplies (s : State) : (discardLineReplies s).rooms = s.rooms := by
  simp [discardLineReplies, rooms_setReply]

@[simp] theorem rooms_probeDue (i : Nat) (s : State) : (probeDue i s).rooms = s.rooms := by
  unfold probeDue
  split
  · rfl
  · split <;> simp

@[simp] theorem rooms_cutTransmission (s : State) : (cutTransmission s).rooms = s.rooms := by
  unfold cutTransmission
  split <;> simp

@[simp] theorem rooms_linkLostRequest (s : State) : (linkLostRequest s).rooms = s.rooms := by
  unfold linkLostRequest
  split <;> simp

theorem length_freezeFrom (k : Nat) (l : List Timer) : (freezeFrom k l).length = l.length := by
  induction l generalizing k with
  | nil => rfl
  | cons x rest ih => simp [freezeFrom, ih]

@[simp] theorem rooms_linkLost (s : State) : (linkLost s).rooms = s.rooms := by
  simp [linkLost, rooms_setBank, length_freezeFrom]

@[simp] theorem rooms_grantReply (i : Nat) (s : State) : (grantReply i s).rooms = s.rooms := by
  simp [grantReply, rooms_setReply]

/-! #### The keepalive unit and the alarms -/

@[simp] theorem rooms_leaveRunning (i : Nat) (x : SessionState) (s : State) :
    (leaveRunning i x s).rooms = s.rooms := by
  simp [leaveRunning]

@[simp] theorem rooms_leaveRunningAll (x : SessionState) (l : List Nat) (s : State) :
    (leaveRunningAll x l s).rooms = s.rooms := by
  induction l generalizing s with
  | nil => rfl
  | cons i rest ih => simp [leaveRunningAll, ih]

@[simp] theorem rooms_inspectOutbound (b : Frame) (s : State) : (inspectOutbound b s).rooms = s.rooms := by
  unfold inspectOutbound
  dsimp only
  split
  · split <;> simp
  · rfl

@[simp] theorem rooms_grantLine (s : State) : (grantLine s).rooms = s.rooms := by
  have system (f : Frame) : (grantSystem f s).rooms = s.rooms := by simp [grantSystem, takeHead]
  unfold grantLine
  split
  · simp
  · simp [system]
  · split <;> simp [system]
  · rfl

@[simp] theorem rooms_expiryAlive (i : Nat) (staged : Bool) (s : State) :
    (expiryAlive i staged s).rooms = s.rooms := by
  unfold expiryAlive
  split <;> simp

@[simp] theorem rooms_expiryProbing (i : Nat) (s : State) : (expiryProbing i s).rooms = s.rooms := by
  unfold expiryProbing
  dsimp only
  split <;> simp

@[simp] theorem rooms_liveness (i : Nat) (v : Option (BitVec 32)) (s : State) :
    (liveness i v s).rooms = s.rooms := by
  simp [liveness]

@[simp] theorem rooms_ackReply (i : Nat) (p : ParsedFrame) (s : State) : (ackReply i p s).rooms = s.rooms := by
  unfold ackReply
  dsimp only
  split
  · rename_i built
    simp [rooms_buildReply built]
  · simp

@[simp] theorem rooms_passOn (i : Nat) (x : SessionState) (cls : Nat) (cause : WakeCause) (p : ParsedFrame)
    (s : State) : (passOn i x cls cause p s).state.rooms = s.rooms := by
  simp [passOn, Judged.done]

@[simp] theorem rooms_judgeSegment (i : Nat) (p : ParsedFrame) (s : State) :
    (judgeSegment i p s).state.rooms = s.rooms := by
  unfold judgeSegment
  dsimp only
  repeat' split
  all_goals simp [Judged.done]

@[simp] theorem rooms_judgeSession (p : ParsedFrame) (s : State) :
    (judgeSession p s).state.rooms = s.rooms := by
  unfold judgeSession
  dsimp only
  repeat' split
  all_goals simp [Judged.done, Judged.decline]

@[simp] theorem rooms_alarmExpires (n : Nat) (s : State) : (alarmExpires n s).rooms = s.rooms := by
  unfold alarmExpires
  dsimp only
  split <;> simp

/-! #### The other responders and the classifier -/

@[simp] theorem rooms_dropBadSum (p : ParsedFrame) (s : State) : (dropBadSum p s).state.rooms = s.rooms :=
  rooms_bumpIf ..

@[simp] theorem rooms_answer (p : ParsedFrame) (c : Counter) (v4 : Bool) (frame : BitVec 16 → Frame)
    (s : State) : (answer p c v4 frame s).rooms = s.rooms := by
  unfold answer
  split
  · rename_i built
    simp [rooms_buildReply built]
  · simp

@[simp] theorem rooms_defend (form : ConflictForm) (i : Identity) (p : ParsedFrame) (s : State) :
    (defend form i p s).rooms = s.rooms := by
  unfold defend
  split
  · split
    · rename_i built
      exact rooms_buildReply built
    · simp
  · rfl

@[simp] theorem rooms_handleConflict (i : Nat) (form : ConflictForm) (p : ParsedFrame) (s : State) :
    (handleConflict i form p s).state.rooms = s.rooms := by
  unfold handleConflict countConflict detachIdentity
  dsimp only
  repeat' split
  all_goals simp [Judged.done, Judged.decline]

@[simp] theorem rooms_judgeAddress (p : ParsedFrame) (s : State) :
    (judgeAddress p s).state.rooms = s.rooms := by
  rcases judgeAddress_cases p s with e | e | ⟨i, form, e⟩ | ⟨c, frame, e⟩ <;> rw [e]
  · rfl
  · simp
  · simp
  · exact rooms_answer ..

@[simp] theorem rooms_judgeEcho (p : ParsedFrame) (s : State) : (judgeEcho p s).state.rooms = s.rooms := by
  rcases judgeEcho_cases p s with e | e | ⟨v4, frame, e⟩ <;> rw [e]
  · rfl
  · simp
  · exact rooms_answer ..

@[simp] theorem rooms_answerName (p : ParsedFrame) (k : Nat) (v4 : Bool) (frame : BitVec 16 → Frame)
    (s : State) : (answerName p k v4 frame s).rooms = s.rooms := by
  unfold answerName
  split
  · rename_i built
    split <;> simp [rooms_buildReply built]
  · simp

@[simp] theorem rooms_judgeName (p : ParsedFrame) (s : State) : (judgeName p s).state.rooms = s.rooms := by
  rcases judgeName_cases p s with e | e | ⟨k, v4, frame, e⟩ <;> rw [e]
  · rfl
  · simp
  · exact rooms_answerName ..

@[simp] theorem rooms_holdVerdict (p : ParsedFrame) (s : State) : (holdVerdict p s).rooms = s.rooms := by
  unfold holdVerdict
  split <;> simp

@[simp] theorem rooms_wakeVerdict (cause : WakeCause) (k cls : Nat) (p : ParsedFrame) (s : State) :
    (wakeVerdict cause k cls p s).rooms = s.rooms := by
  unfold wakeVerdict
  repeat' split
  all_goals simp

@[simp] theorem rooms_afterResponder (k : Nat) (e : MatchEntry) (p : ParsedFrame) (j : Judged) :
    (afterResponder k e p j).rooms = j.state.rooms := by
  unfold afterResponder applyFallback
  repeat' split
  all_goals simp

@[simp] theorem rooms_carryOut (k : Nat) (e : MatchEntry) (p : ParsedFrame) (s : State) :
    (carryOut k e p s).rooms = s.rooms := by
  unfold carryOut
  split <;> simp

@[simp] theorem rooms_classify (p : ParsedFrame) (s : State) : (classify p s).rooms = s.rooms := by
  unfold classify
  split
  · simp
  · dsimp only
    split <;> simp

@[simp] theorem rooms_countParse (p : Path) (q : PStatus) (s : State) : (countParse p q s).rooms = s.rooms := by
  unfold countParse
  split
  · split <;> simp
  · rfl

/-! #### The hold queue and the wake controller -/

theorem length_pool_store (h : HoldQueue) (o : Origin) (f : HeldFrame) :
    (h.store o f).pool.length = h.pool.length := fillBlocks_length ..

@[simp] theorem rooms_holdAppend (o : Origin) (f : HeldFrame) (s : State) :
    (holdAppend o f s).1.rooms = s.rooms := by
  obtain ⟨⟨h, n⟩, e⟩ : ∃ x, s.hold.roomFor o f = x := ⟨_, rfl⟩
  have room : (s.setHold h).rooms = s.rooms := rooms_setHold (by
    have thins := s.hold.thins_roomFor o f
    rw [e] at thins
    rw [thins.pool])
  rw [holdAppend_eq o f s e]
  split
  · rw [rooms_bumpIf, rooms_setHold (by simp [length_pool_store]), rooms_bumpTimes, room]
  · rw [rooms_bump, rooms_setHold (by simp [(HoldQueue.thins_lose _).pool]), rooms_bumpTimes, room]

@[simp] theorem rooms_holdRequestFrame (o : Origin) (r : WakeRequest) (s : State) :
    (holdRequestFrame o r s).rooms = s.rooms := by
  unfold holdRequestFrame
  split <;> simp

@[simp] theorem rooms_assertWake (cls : Nat) (cause : WakeCause) (source : Nat) (frame : Option HeldFrame)
    (s : State) : (assertWake cls cause source frame s).rooms = s.rooms := by
  cases frame <;> simp [assertWake]

@[simp] theorem rooms_suppressRequest (r : WakeRequest) (s : State) :
    (suppressRequest r s).rooms = s.rooms := by
  unfold suppressRequest
  dsimp only
  split <;> simp

@[simp] theorem rooms_laterCause (r : WakeRequest) (s : State) : (laterCause r s).rooms = s.rooms := by
  unfold laterCause
  dsimp only
  split <;> simp

@[simp] theorem rooms_judgeRequest (r : WakeRequest) (s : State) : (judgeRequest r s).rooms = s.rooms := by
  unfold judgeRequest
  repeat' split
  all_goals simp

@[simp] theorem rooms_takeHeldTick (s : State) : (takeHeldTick s).rooms = s.rooms := by
  unfold takeHeldTick endQuietInterval deferredWake
  dsimp only
  repeat' split
  all_goals simp

theorem pool_holdDelivered (item : EgressItem) (h : HoldQueue) :
    (holdDelivered item h).pool.length = h.pool.length := by
  rw [(HoldQueue.thins_holdDelivered item h).pool]

@[simp] theorem rooms_completeItem (item : EgressItem) (s : State) :
    (completeItem item s).rooms = s.rooms := by
  unfold completeItem
  split <;> simp [rooms_setHold, rooms_setCtl, rooms_setReply, pool_holdDelivered]

@[simp] theorem rooms_sendItem (stream : EgressStream) (x : EgressTx) (s : State) :
    (sendItem stream x s).rooms = s.rooms := rfl

@[simp] theorem rooms_grantEgress (s : State) : (grantEgress s).rooms = s.rooms := by
  unfold grantEgress
  repeat' split
  all_goals simp

/-! #### Time, the wake line and the ports -/

@[simp] theorem rooms_windowEndInGap (s : State) : (windowEndInGap s).rooms = s.rooms := by
  unfold windowEndInGap
  split <;> simp

@[simp] theorem rooms_pulseEnd (s : State) : (pulseEnd s).rooms = s.rooms := by
  unfold pulseEnd
  dsimp only
  repeat' split
  all_goals simp

@[simp] theorem rooms_resumeWindowEnd (s : State) : (resumeWindowEnd s).rooms = s.rooms := by
  unfold resumeWindowEnd
  repeat' split
  all_goals simp

@[simp] theorem rooms_countTick (s : State) : (countTick s).rooms = s.rooms := by
  simp [countTick, rooms_setBank, tickAtBank]

@[simp] theorem rooms_offerGuardPath (p : Path) (b : Frame) (s : State) :
    (offerGuardPath p b s).rooms = s.rooms := by
  unfold offerGuardPath
  split <;> simp

@[simp] theorem rooms_handOn (b : Frame) (s : State) : (handOn b s).rooms = s.rooms := by
  unfold handOn offerCopy offerForward offerDrained releaseDrained
  repeat' split
  all_goals simp [rooms_setHold]

/-! #### Guard entry and exit, and the soft reset -/

@[simp] theorem rooms_enterTimers (s : State) : (enterTimers s).rooms = s.rooms := by
  simp [enterTimers, startAlarmTimers_eq, startSessionTimers_eq, rooms_setBank]

@[simp] theorem rooms_guardEntry (s : State) : (guardEntry s).rooms = s.rooms := by simp [guardEntry]

@[simp] theorem rooms_guardExit (s : State) : (guardExit s).rooms = s.rooms := by
  simp [guardExit, stopAllTimers, rooms_setBank]

@[simp] theorem rooms_softReset (s : State) : (softReset s).rooms = s.rooms :=
  rooms_eq (List.length_map _) (List.length_map _) rfl rfl

end rooms
end Sys2Proof.Machine

namespace Sys2Proof.Machine

/-! ### What every step keeps of the tables, the pressure and the FIFOs (O55) -/

section pressure
variable {s t : State} {c : ConfigRecord} {w : WakeCtl}

/-- P is at most 511, and the pressure state is the lock or the one that P gives (R155). -/
def WakeCtl.PressureHolds (c : ConfigRecord) (w : WakeCtl) : Prop :=
  w.pressure ≤ 511 ∧ (w.pstate = .locked ∨ w.pstate = pressureStateOf c w.pressure)

theorem pressureHolds_retake (h : w.pressure ≤ 511) : (retake c w).PressureHolds c := by
  unfold retake
  split
  · rename_i locked
    exact ⟨h, .inl locked⟩
  · exact ⟨h, .inr rfl⟩

/-- An assertion takes P to H with the lock, or raises it to at most 511 (R158). -/
theorem pressureHolds_addPressure (hc : c.inRange = true) (cls : Nat) (w : WakeCtl) :
    (addPressure c cls w).PressureHolds c := by
  obtain ⟨-, -, -, -, -, ⟨-, -, -, limL, limH⟩, -⟩ := inRange_iff.1 hc
  unfold addPressure
  dsimp only
  split
  · exact ⟨show c.limH ≤ 511 by omega, .inl rfl⟩
  · exact pressureHolds_retake (Nat.min_le_left ..)

/-- P 0 is below every limit, so it gives OPEN (R155, R191). -/
theorem pressureStateOf_zero (hc : c.inRange = true) : pressureStateOf c 0 = .openState := by
  obtain ⟨-, -, -, -, -, ⟨limW, -⟩, -⟩ := inRange_iff.1 hc
  exact if_pos limW

/-- A quiet interval lowers P, and opens the lock at 0 (R161). -/
theorem pressureHolds_easePressure (hc : c.inRange = true) (h : w.pressure ≤ 511) :
    (easePressure c w).PressureHolds c := by
  have eased : w.pressure - 1 ≤ 511 := Nat.le_trans (Nat.sub_le ..) h
  unfold easePressure
  dsimp only
  split
  · refine ⟨eased, ?_⟩
    dsimp only
    split
    · rename_i zero
      exact .inr (zero ▸ (pressureStateOf_zero hc).symm)
    · exact .inl rfl
  · exact pressureHolds_retake eased

/-- A change that leaves the configuration, P and the pressure state. -/
theorem PressureSound.of_eq (h : PressureSound s)
    (kept : t.ctl.cfg = s.ctl.cfg ∧ t.wake.pressure = s.wake.pressure ∧ t.wake.pstate = s.wake.pstate) :
    PressureSound t := by
  obtain ⟨cfg, pressure, pstate⟩ := kept
  rw [PressureSound, cfg, pressure, pstate]
  exact h

/-- A change of the pressure under one configuration. -/
theorem PressureSound.of_holds (h : PressureSound s) (cfg : t.ctl.cfg = s.ctl.cfg)
    (wake : t.wake.PressureHolds s.ctl.cfg) : PressureSound t := by
  rw [PressureSound, cfg]
  exact ⟨h.1, wake⟩

theorem PressureSound.assertWake (h : PressureSound s) (cls : Nat) (cause : WakeCause) (source : Nat)
    (frame : Option HeldFrame) : PressureSound (assertWake cls cause source frame s) :=
  h.of_holds (by simp) (by rw [assertWake_wake]; exact pressureHolds_addPressure h.1 cls s.wake)

theorem PressureSound.judgeRequest (h : PressureSound s) (r : WakeRequest) :
    PressureSound (judgeRequest r s) := by
  unfold Machine.judgeRequest
  split
  · exact h.of_eq (by simp)
  split
  · split
    · exact h.of_eq (by simp)
    split
    · exact h.assertWake ..
    · exact h.of_eq (by simp)
  · split
    · exact h.of_eq (by simp)
    · exact h.of_eq (by simp)
  · exact h.of_eq (by simp)
  · exact h

theorem PressureSound.deferredWake (h : PressureSound s) (before : Nat) :
    PressureSound (deferredWake before s) := by
  unfold Machine.deferredWake
  split
  · exact .of_eq (h.assertWake ..) ⟨rfl, rfl, rfl⟩
  · exact h

theorem PressureSound.endQuietInterval (h : PressureSound s) : PressureSound (endQuietInterval s) := by
  have eased : PressureSound (s.setWake { easePressure s.ctl.cfg s.wake with quiet := 0 }) :=
    h.of_holds rfl (pressureHolds_easePressure h.1 h.2.1)
  exact eased.deferredWake _

theorem PressureSound.takeHeldTick (h : PressureSound s) : PressureSound (takeHeldTick s) := by
  unfold Machine.takeHeldTick
  split
  · dsimp only
    split
    · exact .endQuietInterval (h.of_eq (by simp))
    · exact h.of_eq (by simp)
  · exact h

/-- A tick at the wake controller moves the quiet counter or is held (R161, log 6). -/
theorem tickAtWake_cases (c : ConfigRecord) (w : WakeCtl) :
    tickAtWake c w = { w with tickHeld := true } ∨ tickAtWake c w = { w with quiet := w.quiet + 1 } := by
  unfold tickAtWake
  split
  · exact .inl rfl
  · exact .inr rfl

theorem PressureSound.countTick (h : PressureSound s) : PressureSound (countTick s) := by
  have wake : (Machine.countTick s).wake = tickAtWake s.ctl.cfg s.wake := rfl
  rcases tickAtWake_cases s.ctl.cfg s.wake with e | e <;> rw [e] at wake
  · exact h.of_eq ⟨by simp, by rw [wake], by rw [wake]⟩
  · exact h.of_eq ⟨by simp, by rw [wake], by rw [wake]⟩

end pressure

section fifos
variable {s t : State}

/-! #### The three FIFOs (R31, R178, R180) -/

/-- A change that leaves the FIFOs, and the data frame in transmission. -/
theorem FifoBounds.of_eq (h : FifoBounds s)
    (kept : t.guardPath.fifo = s.guardPath.fifo ∧ t.sys.rx = s.sys.rx ∧ t.sys.fwd = s.sys.fwd
      ∧ t.arb.tx = s.arb.tx) : FifoBounds t := by
  obtain ⟨fifo, rx, fwd, tx⟩ := kept
  rw [FifoBounds, receiveTaken, fifo, rx, fwd, tx]
  exact h

/-- A change that fills no place. -/
theorem FifoBounds.of_le (h : FifoBounds s)
    (fewer : t.guardPath.fifo.length ≤ s.guardPath.fifo.length ∧ receiveTaken t ≤ receiveTaken s
      ∧ t.sys.fwd.length ≤ s.sys.fwd.length) : FifoBounds t := by
  obtain ⟨fifo, taken, fwd⟩ := h
  obtain ⟨fifo', taken', fwd'⟩ := fewer
  exact ⟨Nat.le_trans fifo' fifo, Nat.le_trans taken' taken, Nat.le_trans fwd' fwd⟩

theorem receiveTaken_of_idle (h : s.arb.tx = none) : receiveTaken s = s.sys.rx.length := by
  simp [receiveTaken, h]

theorem length_rx_le_receiveTaken (s : State) : s.sys.rx.length ≤ receiveTaken s := Nat.le_add_right ..

/-- With nothing in transmission the frames that stand in the receive FIFO take its places. -/
theorem FifoBounds.of_idle (h : FifoBounds s) (idle : t.arb.tx = none)
    (fewer : t.guardPath.fifo.length ≤ s.guardPath.fifo.length ∧ t.sys.rx.length ≤ s.sys.rx.length
      ∧ t.sys.fwd.length ≤ s.sys.fwd.length) : FifoBounds t := by
  obtain ⟨fifo, rx, fwd⟩ := fewer
  exact h.of_le ⟨fifo, receiveTaken_of_idle idle ▸ Nat.le_trans rx (length_rx_le_receiveTaken s), fwd⟩

theorem FifoBounds.takeHead (h : FifoBounds s) : FifoBounds (takeHead s) :=
  h.of_le (by simp [receiveTaken, Machine.takeHead])

/-- A data frame that is granted keeps its place (R178). -/
theorem FifoBounds.grantLine (h : FifoBounds s) (idle : s.arb.tx = none) : FifoBounds (grantLine s) := by
  have reply (i : Nat) : FifoBounds (grantReply i s) := by
    refine h.of_le ⟨by simp, Nat.le_of_eq ?_, by simp⟩
    rw [receiveTaken_of_idle idle, receiveTaken, grantReply_sys]
    rfl
  have system (f : Frame) (hf : dataHead s = some f) : FifoBounds (grantSystem f s) := by
    have sys : (grantSystem f s).sys = (Machine.takeHead s).sys := by simp [grantSystem]
    have tx : (grantSystem f s).arb.tx = some (.system f) := by simp [grantSystem]
    have waits : 0 < s.sys.rx.length := by
      refine List.length_pos_iff.2 fun empty => ?_
      simp [dataHead, empty] at hf
    refine h.of_le ⟨by simp, ?_, by rw [sys]; exact Nat.le_refl _⟩
    rw [receiveTaken_of_idle idle, receiveTaken, sys, tx]
    simp only [Machine.takeHead, State.setSys_sys, List.length_tail]
    omega
  unfold Machine.grantLine
  split
  · exact reply _
  · rename_i hf
    exact system _ hf
  · rename_i hf
    split
    · exact reply _
    · exact system _ hf
  · exact h

theorem linkLost_arb_tx (s : State) : (linkLost s).arb.tx = none := by
  simp [linkLost, cutTransmission_arb_tx]

/-- A frame takes a place of the input FIFO only while one is free (R31). -/
theorem FifoBounds.offerGuardPath (h : FifoBounds s) (p : Path) (b : Frame) :
    FifoBounds (offerGuardPath p b s) := by
  have ⟨_, taken, fwd⟩ := h
  unfold Machine.offerGuardPath
  split
  · rename_i room
    exact ⟨by simpa using room, taken, fwd⟩
  · exact h.of_eq (by simp)

/-- A frame takes a place of the forward FIFO only while one is free (R180). -/
theorem FifoBounds.offerForward (h : FifoBounds s) (b : Frame) : FifoBounds (offerForward b s) := by
  have ⟨fifo, taken, _⟩ := h
  unfold Machine.offerForward
  split
  · rename_i room
    exact ⟨fifo, taken, by simpa using room.2⟩
  · exact h.of_eq (by simp)

theorem FifoBounds.offerDrained (h : FifoBounds s) (b : Frame) : FifoBounds (offerDrained b s) := by
  unfold Machine.offerDrained
  split
  · exact h.offerGuardPath ..
  · refine h.of_le ⟨?_, by simp [receiveTaken], by simp⟩
    simpa [releaseDrained] using List.length_filter_le ..

theorem FifoBounds.handOn (h : FifoBounds s) (b : Frame) : FifoBounds (handOn b s) := by
  unfold Machine.handOn offerCopy
  split
  · split
    · exact (h.offerForward b).offerGuardPath ..
    · exact h.offerForward b
  · exact h.offerGuardPath ..
  · exact h.offerGuardPath ..
  · exact h.offerDrained b

end fifos

section furnished
variable {c : Instr} {s t : State} {r : WakeRequest}

/-! #### Furnished: one rule per kind of change -/

/-- Every table has its size, the LISTED set is the derived one, and the pressure state and the FIFOs are
sound. -/
structure Furnished (s : State) : Prop where
  sizes : Sizes s
  listed : ListedDerived s
  pressure : PressureSound s
  fifos : FifoBounds s

/-- What is loaded and the rooms tell the size of every table. -/
theorem sizes_of_loaded (h : Sizes s) (loaded : t.loaded = s.loaded) (rooms : t.rooms = s.rooms) : Sizes t := by
  simp only [State.loaded, Prod.mk.injEq] at loaded
  simp only [State.rooms, Prod.mk.injEq] at rooms
  obtain ⟨-, entries, identities, names, sessions, alarms⟩ := loaded
  obtain ⟨slots, timers, pool, counters⟩ := rooms
  have size {α β : Type} {l l' : List α} {g : α → β} (e : l.map g = l'.map g) : l.length = l'.length := by
    simpa using congrArg List.length e
  rw [Sizes, size entries, size identities, size names, size sessions, size alarms, slots, timers, pool,
    counters]
  exact h

/-- The LISTED set does not depend on an identity's runtime fields (R33). -/
theorem deriveListed_resetRuntime (ids : List Identity) (g : ConfigRecord) :
    deriveListed (ids.map Identity.resetRuntime) g = deriveListed ids g := by
  rw [deriveListed, List.filterMap_map]
  rfl

theorem listed_of_loaded (h : ListedDerived s) (loaded : t.loaded = s.loaded)
    (kept : t.guardPath.listed = s.guardPath.listed) : ListedDerived t := by
  simp only [State.loaded, Prod.mk.injEq] at loaded
  obtain ⟨cfg, -, identities, -⟩ := loaded
  rw [ListedDerived, kept, cfg, ← deriveListed_resetRuntime t.identities, identities,
    deriveListed_resetRuntime]
  exact h

/-- A change of runtime fields that keeps the rooms and the LISTED set. -/
theorem Furnished.of_loaded (h : Furnished s) (loaded : t.loaded = s.loaded)
    (kept : t.rooms = s.rooms ∧ t.guardPath.listed = s.guardPath.listed) (pressure : PressureSound t)
    (fifos : FifoBounds t) : Furnished t := by
  obtain ⟨rooms, listed⟩ := kept
  exact ⟨sizes_of_loaded h.sizes loaded rooms, listed_of_loaded h.listed loaded listed, pressure, fifos⟩

/-- A change of runtime fields that leaves the pressure too. -/
theorem Furnished.calm (h : Furnished s) (calm : Calm s t)
    (kept : t.rooms = s.rooms ∧ t.guardPath.listed = s.guardPath.listed
      ∧ t.wake.pressure = s.wake.pressure ∧ t.wake.pstate = s.wake.pstate) (fifos : FifoBounds t) :
    Furnished t := by
  obtain ⟨rooms, listed, pressure, pstate⟩ := kept
  have cfg : t.ctl.cfg = s.ctl.cfg := congrArg Prod.fst calm.loaded
  exact h.of_loaded calm.loaded ⟨rooms, listed⟩ (h.pressure.of_eq ⟨cfg, pressure, pstate⟩) fifos

/-- A change that leaves what is loaded, the rooms, the LISTED set, the pressure and the FIFOs. -/
theorem Furnished.frame (h : Furnished s)
    (kept : t.loaded = s.loaded ∧ t.rooms = s.rooms ∧ t.guardPath.listed = s.guardPath.listed
      ∧ (t.ctl.cfg = s.ctl.cfg ∧ t.wake.pressure = s.wake.pressure ∧ t.wake.pstate = s.wake.pstate)
      ∧ (t.guardPath.fifo = s.guardPath.fifo ∧ t.sys.rx = s.sys.rx ∧ t.sys.fwd = s.sys.fwd
        ∧ t.arb.tx = s.arb.tx)) : Furnished t := by
  obtain ⟨loaded, rooms, listed, pressure, fifos⟩ := kept
  exact h.of_loaded loaded ⟨rooms, listed⟩ (h.pressure.of_eq pressure) (h.fifos.of_eq fifos)

/-- A write of a table that the LISTED set does not depend on. -/
theorem Furnished.write (h : Furnished s) (sizes : Sizes t)
    (kept : t.guardPath = s.guardPath ∧ t.identities = s.identities ∧ t.ctl.cfg = s.ctl.cfg ∧ t.wake = s.wake
      ∧ t.sys = s.sys ∧ t.arb = s.arb) : Furnished t := by
  obtain ⟨guardPath, identities, cfg, wake, sys, arb⟩ := kept
  refine ⟨sizes, ?_, h.pressure.of_eq (by simp [cfg, wake]), h.fifos.of_eq (by simp [guardPath, sys, arb])⟩
  rw [ListedDerived, guardPath, identities, cfg]
  exact h.listed

theorem Furnished.bump (h : Furnished s) (n : Counter) : Furnished (bump n s) :=
  h.frame (by simp [State.loaded])

theorem Furnished.endDrain (h : Furnished s) : Furnished (endDrain s) := h.frame (by simp [State.loaded])

/-! #### Control commands -/

theorem Furnished.takeHead (h : Furnished s) : Furnished (takeHead s) :=
  h.calm (calm_takeHead s) ⟨rfl, rfl, rfl, rfl⟩ h.fifos.takeHead

theorem Furnished.respond {a : Answer} (h : Furnished a.state) (g : ControlHeader) : Furnished (respond g a) :=
  h.write h.sizes ⟨rfl, rfl, rfl, rfl, rfl, rfl⟩

/-- A command whose act keeps everything sound. -/
theorem Furnished.takeCommand {code length : Nat} {act : Frame → State → Answer} (h : Furnished s)
    (hact : ∀ b u, Furnished u → Furnished (act b u).state) : Furnished (takeCommand code length act s) := by
  rcases takeCommand_cases code length act s with e | ⟨g, a, e, ha | ⟨b, rfl⟩⟩ <;> rw [e]
  · exact h
  · exact .respond (ha ▸ h.takeHead) g
  · exact .respond (hact b _ h.takeHead) g

theorem Furnished.writing {act : Frame → State → Answer} {b : Frame} (h : Furnished s)
    (hact : Furnished (act b s).state) : Furnished (writing act b s).state := by
  unfold Machine.writing
  split
  · exact hact
  · exact h

theorem Furnished.indexed {n : Nat} {act : Nat → Frame → State → Answer} {b : Frame} (h : Furnished s)
    (hact : ∀ i, Furnished (act i b s).state) : Furnished (indexed n act b s).state := by
  unfold Machine.indexed
  split
  · exact hact _
  · exact h

theorem Furnished.storing {α : Type} {value : Option α} {store : α → State → State} (h : Furnished s)
    (hstore : ∀ x, value = some x → Furnished (store x s)) : Furnished (storing value store s).state := by
  unfold Machine.storing
  split
  · exact hstore _ rfl
  · exact h

/-- A write with an index. -/
theorem Furnished.indexedWrite {α : Type} {code length n : Nat} {value : Nat → Frame → State → Option α}
    {store : Nat → α → State → State} (h : Furnished s)
    (hs : ∀ i x u, Furnished u → Furnished (store i x u)) :
    Furnished
      (Machine.takeCommand code length
        (Machine.writing (Machine.indexed n fun i b u => Machine.storing (value i b u) (store i) u)) s) :=
  h.takeCommand fun _ _ hu => hu.writing (hu.indexed fun i => hu.storing fun x _ => hs i x _ hu)

/-- A read with an index. -/
theorem Furnished.indexedRead {code length n : Nat} {body : Nat → State → Frame} (h : Furnished s) :
    Furnished (Machine.takeCommand code length (Machine.indexed n fun i _ u => .done (body i u) u) s) :=
  h.takeCommand fun _ _ hu => hu.indexed fun _ => hu

/-- An admitted configuration is in range, and the LISTED set and the pressure state are taken from it
(R33, R155, R191). -/
theorem Furnished.installConfig {g : ConfigRecord} (h : Furnished s) (hg : g.inRange = true) :
    Furnished (installConfig g s) where
  sizes := h.sizes
  listed := rfl
  pressure := by
    have held : PressureSound ((s.setCtl { s.ctl with cfg := g }).setWake (retake g s.wake)) := by
      obtain ⟨-, pressure, -⟩ := h.pressure
      exact ⟨hg, pressureHolds_retake pressure⟩
    exact held
  fifos := h.fifos

/-- A table of identities of its size, with the LISTED set derived again (R33). -/
theorem Furnished.refreshIdentities {l : List Identity} (h : Furnished s) (hl : l.length = s.identities.length) :
    Furnished (refreshListed (s.setIdentities l)) where
  sizes := by
    obtain ⟨entries, identities, rest⟩ := h.sizes
    exact ⟨entries, hl.trans identities, rest⟩
  listed := rfl
  pressure := h.pressure
  fifos := h.fifos

theorem Furnished.setMatchTable {l : List MatchEntry} (h : Furnished s) (hl : l.length = s.matchTable.length) :
    Furnished (s.setMatchTable l) :=
  h.write (by rw [Sizes, State.setMatchTable_matchTable, hl]; exact h.sizes) ⟨rfl, rfl, rfl, rfl, rfl, rfl⟩

theorem Furnished.setNames {l : List NameEntry} (h : Furnished s) (hl : l.length = s.names.length) :
    Furnished (s.setNames l) :=
  h.write (by rw [Sizes, State.setNames_names, hl]; exact h.sizes) ⟨rfl, rfl, rfl, rfl, rfl, rfl⟩

theorem Furnished.setSessions {l : List Session} (h : Furnished s) (hl : l.length = s.sessions.length) :
    Furnished (s.setSessions l) :=
  h.write (by rw [Sizes, State.setSessions_sessions, hl]; exact h.sizes) ⟨rfl, rfl, rfl, rfl, rfl, rfl⟩

theorem Furnished.setAlarms {l : List Alarm} (h : Furnished s) (hl : l.length = s.bank.alarms.length) :
    Furnished (s.setBank { s.bank with alarms := l }) :=
  h.write (by rw [Sizes, State.setBank_bank, hl]; exact h.sizes) ⟨rfl, rfl, rfl, rfl, rfl, rfl⟩

theorem Furnished.clearedTable {k : Nat} (h : Furnished s) (ht : clearedTable k s = some t) : Furnished t := by
  unfold Machine.clearedTable at ht
  split at ht <;> cases ht
  · exact h.setMatchTable (List.length_map _)
  · exact h.refreshIdentities (List.length_map _)
  · exact h.setNames (List.length_map _)
  · exact h.setSessions (List.length_map _)
  · exact h.setAlarms (List.length_map _)

theorem enter_resetRuntime (x : Session) : x.enter.resetRuntime = x.resetRuntime := by
  unfold Session.enter
  split <;> rfl

theorem alarm_enter_resetRuntime (a : Alarm) : a.enter.resetRuntime = a.resetRuntime := by
  unfold Alarm.enter
  split <;> rfl

/-- Guard entry changes runtime fields alone (R6). -/
theorem guardEntry_loaded (s : State) : (guardEntry s).loaded = s.loaded := by
  obtain ⟨-, alarms, -⟩ := enterTimers_bank s
  simp [State.loaded, guardEntry, alarms, Function.comp_def, enter_resetRuntime, alarm_enter_resetRuntime,
    Identity.resetRuntime]

theorem Furnished.enterGuard (h : Furnished s) : Furnished (enterGuard s).state := by
  rcases enterGuard_cases s with e | ⟨-, e⟩ <;> rw [e]
  · exact h
  · exact h.frame (t := guardEntry s) ⟨guardEntry_loaded s, rooms_guardEntry s, by simp [guardEntry]⟩

theorem Furnished.guardExit (h : Furnished s) : Furnished (guardExit s) :=
  h.frame ⟨guardExit_loaded s, by simp⟩

theorem Furnished.leaveGuard (h : Furnished s) : Furnished (leaveGuard s).state := by
  unfold Machine.leaveGuard
  split
  · exact h.guardExit
  · exact h

/-- A soft reset opens the pressure and empties the FIFOs (R195). -/
theorem Furnished.softReset (h : Furnished s) : Furnished (softReset s) := by
  have zero : (Machine.softReset s).wake.PressureHolds s.ctl.cfg :=
    ⟨Nat.zero_le _, .inr (pressureStateOf_zero h.pressure.1).symm⟩
  exact h.of_loaded (softReset_loaded s) ⟨rooms_softReset s, rfl⟩ (h.pressure.of_holds rfl zero)
    (h.fifos.of_idle rfl ⟨Nat.zero_le _, Nat.zero_le _, Nat.zero_le _⟩)

theorem Furnished.clearLatch (h : Furnished s) : Furnished (clearLatch s) := by
  unfold Machine.clearLatch
  split
  · exact h.frame (by simp [State.loaded])
  · exact h

theorem Furnished.readCounters {b : Frame} (h : Furnished s) : Furnished (readCounters b s).state := by
  unfold Machine.readCounters
  split
  · rename_i clear _
    cases clear
    · exact h
    · exact h.frame (t := clearCounters s) ⟨rfl, rooms_setCtl (List.length_map _), by simp⟩
  · exact h

theorem Furnished.badControlFrame (h : Furnished s) (e : execBadControlFrame s = .next t) : Furnished t := by
  unfold execBadControlFrame at e
  split at e
  · cases e
    exact h
  · split at e <;> cases e
    · exact h
    · exact h.takeHead.bump _

theorem Furnished.unknownCommand (h : Furnished s) (e : execUnknownCommand s = .next t) : Furnished t := by
  unfold execUnknownCommand at e
  split at e
  · cases e
    exact h
  · split at e <;> cases e
    · exact .respond h.takeHead _
    · exact h

/-! #### The events of the line, the ports and the time base -/

theorem Furnished.linkLost (h : Furnished s) : Furnished (linkLost s) :=
  h.calm (.linkLost (.refl s)) (by simp) (h.fifos.of_idle (linkLost_arb_tx s) (by simp))

theorem Furnished.linkDown {receiving : Option Nat} (h : Furnished s) (e : execLinkDown receiving s = .next t) :
    Furnished t := by
  unfold execLinkDown at e
  split at e
  · split at e <;> cases e
    · exact .linkLost (h.bump _)
    · exact h.linkLost
  · cases e
    exact h

theorem Furnished.linkUp (h : Furnished s) (e : execLinkUp s = .next t) : Furnished t := by
  unfold execLinkUp at e
  split at e <;> cases e
  · exact h
  · exact h.calm (.linkUp (.refl s)) ⟨rooms_setBank (List.length_map _), by simp⟩ (h.fifos.of_eq (by simp))

theorem Furnished.systemReadyRise (h : Furnished s) (e : execSystemReadyRise s = .next t) : Furnished t := by
  unfold execSystemReadyRise at e
  split at e
  · cases e
    exact h
  · dsimp only at e
    split at e <;> cases e
    · exact h.frame (by simp [State.loaded])
    · exact h.frame (by simp [State.loaded])

theorem Furnished.systemReadyFall (h : Furnished s) (e : execSystemReadyFall s = .next t) : Furnished t := by
  unfold execSystemReadyFall at e
  split at e <;> cases e
  · exact h.frame (by simp [State.loaded])
  · exact h

theorem listed_offerGuardPath (p : Path) (b : Frame) (s : State) :
    (offerGuardPath p b s).guardPath.listed = s.guardPath.listed := by
  unfold offerGuardPath
  split <;> simp

theorem listed_handOn (b : Frame) (s : State) : (handOn b s).guardPath.listed = s.guardPath.listed := by
  unfold handOn offerCopy offerDrained
  repeat' split
  all_goals simp [listed_offerGuardPath, releaseDrained]

theorem Furnished.handOn (h : Furnished s) (b : Frame) : Furnished (handOn b s) :=
  h.of_loaded (by simp [State.loaded]) ⟨rooms_handOn b s, listed_handOn b s⟩ (h.pressure.of_eq (by simp))
    (h.fifos.handOn b)

theorem Furnished.lineFrameReceived {rx : LineReception} (h : Furnished s)
    (e : execLineFrameReceived rx s = .next t) : Furnished t := by
  unfold execLineFrameReceived at e
  split at e
  · cases e
    exact h.bump _
  split at e
  · cases e
    exact h
  split at e <;> cases e
  · exact h.bump _
  · exact .handOn (h.bump _) _

/-- A frame takes a place of the receive FIFO only while one is free (R178). -/
theorem Furnished.sysFrameReceived {rx : SystemReception} (h : Furnished s)
    (e : execSysFrameReceived rx s = .next t) : Furnished t := by
  unfold execSysFrameReceived at e
  split at e
  · cases e
    exact h
  split at e <;> cases e
  · rename_i admits
    simp only [sysAdmits, Bool.and_eq_true, decide_eq_true_eq] at admits
    obtain ⟨-, room⟩ := admits
    obtain ⟨fifo, -, fwd⟩ := h.fifos
    refine h.of_loaded rfl ⟨rfl, rfl⟩ h.pressure ⟨fifo, ?_, fwd⟩
    simp only [receiveTaken, State.setSys_sys, State.setSys_arb, List.length_append,
      List.length_singleton] at room ⊢
    omega
  · exact h.bump _

theorem Furnished.parseFrame (h : Furnished s) (e : execParseFrame s = .next t) : Furnished t := by
  unfold execParseFrame at e
  split at e
  · cases e
    exact h
  rename_i fifo
  dsimp only at e
  split at e
  · split at e <;> cases e
    · exact h
    · exact .endDrain (h.of_loaded (by simp [State.loaded]) (by simp) (h.pressure.of_eq (by simp))
      (h.fifos.of_le (by simp [receiveTaken, fifo])))
  split at e <;> cases e
  · exact h
  · exact .endDrain (h.of_loaded (by simp [State.loaded]) (by simp) (h.pressure.of_eq (by simp))
      (h.fifos.of_le (by simp [receiveTaken, fifo])))

theorem Furnished.classifyFrame (h : Furnished s) (e : execClassifyFrame s = .next t) : Furnished t := by
  unfold execClassifyFrame at e
  split at e
  · cases e
    exact h
  split at e <;> cases e
  · have taken : Furnished (s.setGuardPath { s.guardPath with parsed := none }) :=
      h.frame (by simp [State.loaded])
    exact .endDrain (taken.calm (.classify (.refl _)) (by simp) (taken.fifos.of_eq (by simp)))
  · exact h

theorem Furnished.takeNotice {timer : Nat} {n : ExpiryNotice} (h : Furnished s)
    (e : takeNotice timer s = some (n, t)) : Furnished t := by
  obtain ⟨-, rfl⟩ := takeNotice_eq_some e
  exact h.write h.sizes ⟨rfl, rfl, rfl, rfl, rfl, rfl⟩

theorem Furnished.sessionTimerExpiry {i : Nat} (h : Furnished s) (e : execSessionTimerExpiry i s = .next t) :
    Furnished t := by
  unfold execSessionTimerExpiry at e
  split at e
  · cases e
    exact h
  split at e
  · cases e
    exact h
  · rename_i u hn
    have taken := h.takeNotice hn
    cases e
    have answered {v : State} (hv : Furnished v) (a : List Nat) :
        Furnished (v.setBank { v.bank with answers := a }) := hv.write hv.sizes ⟨rfl, rfl, rfl, rfl, rfl, rfl⟩
    refine answered ?_ _
    split
    · rename_i alive
      have running : (u.session i).running = true := by simp [Session.running, alive]
      split
      · exact taken
      · exact taken.calm (.expiryAlive (.refl u) running) (by simp) (taken.fifos.of_eq (by simp))
    · rename_i probing
      have running : (u.session i).running = true := by simp [Session.running, probing]
      exact taken.calm (.expiryProbing (.refl u) running) (by simp) (taken.fifos.of_eq (by simp))
    · exact taken

theorem Furnished.expiryAnswer {i : Nat} (h : Furnished s) (e : execExpiryAnswer i s = .next t) :
    Furnished t := by
  unfold execExpiryAnswer at e
  split at e <;> cases e
  · exact h.frame (by simp [State.loaded, rooms_setBank, modifyTimer])
  · exact h

theorem Furnished.alarmExpiry {n : Nat} (h : Furnished s) (e : execAlarmExpiry n s = .next t) :
    Furnished t := by
  unfold execAlarmExpiry at e
  split at e
  · cases e
    exact h
  · rename_i hn
    have taken := h.takeNotice hn
    split at e <;> cases e
    · exact taken.calm (.alarmExpires (.refl _)) (by simp) (taken.fifos.of_eq (by simp))
    · exact taken

theorem Furnished.judgeRequest (h : Furnished s) (r : WakeRequest) : Furnished (judgeRequest r s) :=
  h.of_loaded (by simp [State.loaded]) (by simp) (h.pressure.judgeRequest r) (h.fifos.of_eq (by simp))

theorem Furnished.wakeRequest {place : Nat} (h : Furnished s) (e : execWakeRequest place s = .next t) :
    Furnished t := by
  unfold execWakeRequest at e
  split at e <;> cases e
  · exact h
  · exact .endDrain (.judgeRequest (h.frame (by simp [State.loaded])) _)

theorem Furnished.holdAppend (h : Furnished s) (e : execHoldAppend s = .next t) : Furnished t := by
  unfold execHoldAppend at e
  split at e
  · cases e
    exact h
  dsimp only at e
  split at e <;> cases e
  · exact h.frame (by simp [State.loaded, rooms_setHold])
  · exact .endDrain (h.frame (by simp [State.loaded, rooms_setHold]))

theorem Furnished.lineTxGrant (h : Furnished s) (e : execLineTxGrant s = .next t) : Furnished t := by
  unfold execLineTxGrant at e
  split at e <;> cases e
  · rename_i idle
    exact h.calm (.grantLine (.refl s)) (by simp) (h.fifos.grantLine idle.2)
  · exact h

theorem Furnished.lineTxDone (h : Furnished s) (e : execLineTxDone s = .next t) : Furnished t := by
  have ended : Furnished (s.setArb { s.arb with tx := none }) :=
    h.of_loaded rfl ⟨rfl, rfl⟩ h.pressure (h.fifos.of_idle rfl (by simp))
  unfold execLineTxDone at e
  split at e <;> cases e
  · exact h
  · exact ended.calm (.freeAndHandOn (.refl _)) (by simp) (ended.fifos.of_eq (by simp))
  · exact ended

theorem Furnished.systemFrameDiscard (h : Furnished s) (e : execSystemFrameDiscard s = .next t) :
    Furnished t := by
  unfold execSystemFrameDiscard at e
  split at e
  · split at e <;> cases e
    · exact h.takeHead.calm (.bump (.inspectOutbound (.refl _))) (by simp) (h.takeHead.fifos.of_eq (by simp))
    · exact h
  · cases e
    exact h

/-- A grant to the laptop takes nothing out of a FIFO (R181). -/
theorem fifos_grantEgress (s : State) :
    (grantEgress s).sys.rx = s.sys.rx ∧ (grantEgress s).sys.fwd = s.sys.fwd := by
  unfold grantEgress
  repeat' split
  all_goals exact ⟨rfl, rfl⟩

theorem Furnished.sysEgressGrant (h : Furnished s) (e : execSysEgressGrant s = .next t) : Furnished t := by
  unfold execSysEgressGrant at e
  split at e <;> cases e
  · obtain ⟨rx, fwd⟩ := fifos_grantEgress s
    exact h.frame (by simp [State.loaded, rx, fwd])
  · exact h

theorem rx_completeItem (item : EgressItem) (s : State) : (completeItem item s).sys.rx = s.sys.rx := by
  unfold completeItem
  split <;> simp

/-- A forwarded frame leaves its place, and no other item has one (R180, R181). -/
theorem Furnished.completeItem {item : EgressItem} (h : Furnished s) : Furnished (completeItem item s) := by
  have fwd : (Machine.completeItem item s).sys.fwd.length ≤ s.sys.fwd.length := by
    cases item with
    | forward => simp [Machine.completeItem]
    | response => exact Nat.le_refl _
    | _ => simp [Machine.completeItem]
  exact h.calm (.completeItem (.refl s)) (by simp)
    (h.fifos.of_le (by simp [receiveTaken, rx_completeItem, fwd]))

theorem Furnished.sysDeliveryDone (h : Furnished s) (e : execSysDeliveryDone s = .next t) : Furnished t := by
  unfold execSysDeliveryDone at e
  split at e <;> cases e
  · exact h
  · exact .completeItem (h.frame (by simp [State.loaded]))

theorem Furnished.pulseEnd (h : Furnished s) : Furnished (pulseEnd s) := h.frame (by simp [State.loaded])

theorem Furnished.resumeWindowEnd (h : Furnished s) : Furnished (resumeWindowEnd s) :=
  h.frame (by simp [State.loaded])

theorem Furnished.takeHeldTick (h : Furnished s) : Furnished (takeHeldTick s) :=
  h.of_loaded (by simp [State.loaded]) (by simp) h.pressure.takeHeldTick (h.fifos.of_eq (by simp))

theorem Furnished.countTick (h : Furnished s) : Furnished (countTick s) :=
  h.of_loaded (Calm.countTick (.refl s)).loaded (by simp) h.pressure.countTick (h.fifos.of_eq (by simp))

/-! #### Every command -/

theorem furnished_powerOnReset (s : State) :
    Furnished
      { State.reset with
        pending := s.pending
        sys := { State.reset.sys with ready := s.sys.ready } } := by
  obtain ⟨-, -, sizes, listed, pressure, fifos, -⟩ := resetIsSound
  exact ⟨sizes, listed, pressure, fifos⟩

theorem exec_furnished (e : exec c s = .next t) (h : Furnished s) : Furnished t := by
  cases c with
  | powerOnReset => cases e; exact furnished_powerOnReset s
  | softReset => cases e; exact h.takeCommand fun _ _ hu => hu.softReset
  | identify => cases e; exact h.takeCommand fun _ _ hu => hu
  | readStatus => cases e; exact h.takeCommand fun _ _ hu => hu.clearLatch
  | writeConfig =>
    cases e
    exact h.takeCommand fun _ _ hu => hu.writing (hu.storing fun _ hx =>
      hu.installConfig (decodeConfig_some hx).1)
  | readConfig => cases e; exact h.takeCommand fun _ _ hu => hu
  | writeMatch => cases e; exact h.indexedWrite fun _ _ _ hu => hu.setMatchTable List.length_set
  | readMatch => cases e; exact h.indexedRead
  | writeIdentity => cases e; exact h.indexedWrite fun _ _ _ hu => hu.refreshIdentities List.length_set
  | readIdentity => cases e; exact h.indexedRead
  | writeName => cases e; exact h.indexedWrite fun _ _ _ hu => hu.setNames List.length_set
  | readName => cases e; exact h.indexedRead
  | writeSession => cases e; exact h.indexedWrite fun _ _ _ hu => hu.setSessions List.length_set
  | readSession => cases e; exact h.indexedRead
  | writeAlarm => cases e; exact h.indexedWrite fun _ _ _ hu => hu.setAlarms List.length_set
  | readAlarm => cases e; exact h.indexedRead
  | clearTable =>
    cases e
    exact h.takeCommand fun _ _ hu => hu.writing (hu.storing fun _ hx => hu.clearedTable hx)
  | enterGuard => cases e; exact h.takeCommand fun _ _ hu => hu.enterGuard
  | leaveGuard => cases e; exact h.takeCommand fun _ _ hu => hu.leaveGuard
  | readWakeRecord =>
    cases e
    exact h.takeCommand fun _ u hu =>
      hu.frame (t := u.setWake { u.wake with record := none }) (by simp [State.loaded])
  | readCounters => cases e; exact h.takeCommand fun _ _ hu => hu.readCounters
  | badControlFrame => exact h.badControlFrame e
  | unknownCommand => exact h.unknownCommand e
  | tick => cases e; exact h.pulseEnd.resumeWindowEnd.takeHeldTick.countTick
  | linkDown receiving => exact h.linkDown e
  | linkUp => exact h.linkUp e
  | systemReadyRise => exact h.systemReadyRise e
  | systemReadyFall => exact h.systemReadyFall e
  | lineFrameReceived rx => exact h.lineFrameReceived e
  | sysFrameReceived rx => exact h.sysFrameReceived e
  | parseFrame => exact h.parseFrame e
  | classifyFrame => exact h.classifyFrame e
  | sessionTimerExpiry i => exact h.sessionTimerExpiry e
  | expiryAnswer i => exact h.expiryAnswer e
  | alarmExpiry n => exact h.alarmExpiry e
  | quietIntervalEnd => cases e; exact h.takeHeldTick
  | wakeRequest place => exact h.wakeRequest e
  | pulseEnd => cases e; exact h.pulseEnd
  | resumeWindowEnd => cases e; exact h.resumeWindowEnd
  | holdAppend => exact h.holdAppend e
  | lineTxGrant => exact h.lineTxGrant e
  | lineTxDone => exact h.lineTxDone e
  | systemFrameDiscard => exact h.systemFrameDiscard e
  | sysEgressGrant => exact h.sysEgressGrant e
  | sysDeliveryDone => exact h.sysDeliveryDone e

/-- Settles O55: every command keeps the tables, the pressure and the FIFOs sound, and a step runs one on the
rest of the queue. -/
theorem tablesStaySound : Obligations.TablesStaySound := by
  intro c s t e sizes listed pressure fifos
  have h : Furnished s := ⟨sizes, listed, pressure, fifos⟩
  have kept : Furnished t := by
    rcases e with e | e
    · exact exec_furnished e h
    · unfold step at e
      split at e
      · cases e
        exact h
      · exact exec_furnished e (h.frame (by simp [State.loaded]))
  exact ⟨kept.sizes, kept.listed, kept.pressure, kept.fifos⟩

end furnished
end Sys2Proof.Machine

namespace Sys2Proof.Machine

/-! ### Line frames and their receive checks (O35, O36) -/

section lineFrames
variable {s : State} {rx : LineReception} {b : Frame} {vid : Nat}

/-! #### LINE_FRAME_RECEIVED, by the outcome of the checks (R22) -/

theorem exec_lineFrameReceived_of_cut (hc : rx.cut = true) :
    exec (.lineFrameReceived rx) s = .next (bump (cutCounter rx.bytes.length) s) := if_pos hc

theorem exec_lineFrameReceived_of_down (hc : rx.cut = false) (hu : s.linePort.up = false) :
    exec (.lineFrameReceived rx) s = .next s :=
  (if_neg (by simp [hc])).trans (if_pos hu)

theorem exec_lineFrameReceived_of_fault {n : Counter} (hc : rx.cut = false) (hu : s.linePort.up = true)
    (hf : receiveFault s rx = some n) : exec (.lineFrameReceived rx) s = .next (bump n s) := by
  change execLineFrameReceived rx s = _
  simp [execLineFrameReceived, hc, hu, hf]

theorem exec_lineFrameReceived_of_good (hc : rx.cut = false) (hu : s.linePort.up = true)
    (hf : receiveFault s rx = none) :
    exec (.lineFrameReceived rx) s = .next (handOn (withoutFcs rx.bytes) (bump .rxGood s)) := by
  change execLineFrameReceived rx s = _
  simp [execLineFrameReceived, hc, hu, hf]

/-! #### The checks in their order (R22, R23) -/

theorem receiveFault_of_runt (h : rx.bytes.length < 64) : receiveFault s rx = some .rxRunt := if_pos h

theorem receiveFault_of_long (h : 64 ≤ rx.bytes.length) (long : maxLength rx.bytes < rx.bytes.length) :
    receiveFault s rx = some .rxLong := by
  rw [receiveFault, if_neg (Nat.not_lt.2 h), if_pos long]

/-- A frame of an admitted length is judged by its FCS and then by the VLAN filter. -/
theorem receiveFault_of_length (h : 64 ≤ rx.bytes.length) (fits : rx.bytes.length ≤ maxLength rx.bytes) :
    receiveFault s rx =
      if rx.fcsGood = false ∨ rx.phyError = true then some .rxFcs
      else if s.modeCtl.mode ≠ .pass ∧ vlanAdmits s.ctl.cfg.vid rx.bytes = false then some .rxVlanForeign
      else none := by
  rw [receiveFault, if_neg (Nat.not_lt.2 h), if_neg (Nat.not_lt.2 fits)]

theorem vlanAdmits_iff :
    vlanAdmits vid b = true ↔
      (vid = 0 ∧ (isTagged b = false ∨ vidOf b = 0)) ∨ (vid ≠ 0 ∧ isTagged b = true ∧ vidOf b = vid) := by
  by_cases h : vid = 0 <;> simp [vlanAdmits, h]

theorem vlanAdmits_eq_false_iff :
    vlanAdmits vid b = false ↔
      (vid = 0 ∧ isTagged b = true ∧ vidOf b ≠ 0)
        ∨ (vid ≠ 0 ∧ (isTagged b = false ∨ vidOf b ≠ vid)) := by
  by_cases h : vid = 0
  · simp [vlanAdmits, h]
  · cases tagged : isTagged b <;> simp [vlanAdmits, h, tagged]

theorem maxLength_of_untagged (h : isTagged b = false) : maxLength b = 1518 := by simp [maxLength, h]

theorem maxLength_of_tagged (h : isTagged b = true) : maxLength b = 1522 := by simp [maxLength, h]

/-- Settles O35, check by check. -/
theorem badLineFramesAreCounted : Obligations.BadLineFramesAreCounted := by
  refine fun s rx => ⟨exec_lineFrameReceived_of_cut, exec_lineFrameReceived_of_down, fun hc hu => ?_⟩
  have counted {n : Counter} := exec_lineFrameReceived_of_fault (n := n) hc hu
  refine ⟨fun runt => counted (receiveFault_of_runt runt), fun long => counted ?_, fun hl fits => ?_⟩
  · rcases long with ⟨tag, long⟩ | ⟨tag, long⟩
    · exact receiveFault_of_long (by omega) (maxLength_of_untagged tag ▸ long)
    · exact receiveFault_of_long (by omega) (maxLength_of_tagged tag ▸ long)
  · have fault := receiveFault_of_length (s := s) hl fits
    refine ⟨fun bad => counted (fault.trans (if_pos bad)), fun fcs phy guard foreign => counted ?_⟩
    rw [fault, if_neg (by simp [fcs, phy]), if_pos ⟨guard, vlanAdmits_eq_false_iff.2 foreign⟩]

/-! #### The path of a good frame, mode by mode (R24, R31, R180) -/

/-- A byte before the FCS is read in the frame without it. -/
theorem byteAt_withoutFcs {i : Nat} (h : i + 4 < b.length) : byteAt (withoutFcs b) i = byteAt b i := by
  rw [byteAt, withoutFcs, List.getD_eq_getElem?_getD, List.getElem?_take_of_lt (by omega),
    ← List.getD_eq_getElem?_getD, byteAt]

theorem beNat_withoutFcs {i n : Nat} (h : i + n + 4 ≤ b.length) : beNat (withoutFcs b) i n = beNat b i n := by
  induction n generalizing i with
  | zero => rfl
  | succ n ih => rw [beNat, beNat, byteAt_withoutFcs (by omega), ih (by omega)]

/-- The VLAN filter reads the tag alone, which the FCS is not part of (R23). -/
theorem vlanAdmits_withoutFcs (h : 64 ≤ b.length) : vlanAdmits vid (withoutFcs b) = vlanAdmits vid b := by
  have tagged : isTagged (withoutFcs b) = isTagged b := by
    rw [isTagged, beNat_withoutFcs (by omega), isTagged]
  have tag : vidOf (withoutFcs b) = vidOf b := by rw [vidOf, beNat_withoutFcs (by omega), vidOf]
  rw [vlanAdmits, tagged, tag, vlanAdmits]

theorem offerGuardPath_of_room {p : Path} (h : s.guardPath.fifo.length < 16) :
    offerGuardPath p b s =
      { s with
        guardPath := { s.guardPath with fifo := s.guardPath.fifo ++ [⟨b, s.bank.tick, p⟩] } } := if_pos h

theorem offerGuardPath_of_full {p : Path} (h : 16 ≤ s.guardPath.fifo.length) (hp : p ≠ .copy) :
    offerGuardPath p b s = bump .parseOverrun s :=
  (if_neg (Nat.not_lt.2 h)).trans (by simp [bumpIf, hp])

/-- A copy that finds the FIFO full is not counted (R31). -/
theorem offerGuardPath_copy_of_full (h : 16 ≤ s.guardPath.fifo.length) : offerGuardPath .copy b s = s :=
  if_neg (Nat.not_lt.2 h)

theorem handOn_of_guard (h : s.modeCtl.mode = .guard ∨ s.modeCtl.mode = .waking) :
    handOn b s = offerGuardPath .guardPath b s := by
  rcases h with h | h <;> simp [handOn, h]

theorem handOn_of_pass (h : s.modeCtl.mode = .pass) : handOn b s = offerCopy b (offerForward b s) := by
  simp [handOn, h]

theorem handOn_of_drain (h : s.modeCtl.mode = .drain) : handOn b s = offerDrained b s := by
  simp [handOn, h]

theorem offerForward_bump (n : Counter) :
    offerForward b (bump n s) =
      if s.sys.ready = true ∧ s.sys.fwd.length < 2 then
        bump n { s with sys := { s.sys with fwd := s.sys.fwd ++ [b] } }
      else bump .fwdDropped (bump n s) := rfl

theorem offerCopy_eq :
    offerCopy b s =
      if s.ctl.cfg.rehearsal = true ∧ vlanAdmits s.ctl.cfg.vid b = true then offerGuardPath .copy b s
      else s := rfl

theorem offerDrained_of_pending (h : guardPending s = true) : offerDrained b s = offerGuardPath .drained b s :=
  if_pos h

theorem offerDrained_of_free (h : guardPending s = false) :
    offerDrained b s = handToHold .drained ⟨b, s.bank.tick⟩ (releaseDrained s) := if_neg (by simp [h])

/-- Settles O36: a good frame is handed on without its FCS as the mode says. -/
theorem goodLineFramesAreHandedOn : Obligations.GoodLineFramesAreHandedOn := by
  intro s b admitted hu hl fits hadmitted
  rw [← vlanAdmits_iff] at hadmitted
  have good (h : s.modeCtl.mode = .pass ∨ vlanAdmits s.ctl.cfg.vid b = true) :
      exec (.lineFrameReceived ⟨b, true, false, false⟩) s =
        .next (handOn (withoutFcs b) (bump .rxGood s)) := by
    refine exec_lineFrameReceived_of_good rfl hu ?_
    rw [receiveFault_of_length hl fits, if_neg (by simp), if_neg]
    rintro ⟨outside, foreign⟩
    rcases h with pass | admits
    · exact outside pass
    · simp [admits] at foreign
  refine ⟨fun hm ha => ?_, fun hm => ?_, fun hm ha => ?_⟩
  · rw [good (.inr (hadmitted.1 ha)), handOn_of_guard (by simpa using hm)]
    exact ⟨fun room => congrArg _ (offerGuardPath_of_room room),
      fun full => congrArg _ (offerGuardPath_of_full full (by decide))⟩
  · intro t ht
    have forwarded : offerForward (withoutFcs b) (bump .rxGood s) = t :=
      (offerForward_bump .rxGood).trans ht.symm
    have path : t.guardPath = s.guardPath := by simp [← forwarded]
    have cfg : t.ctl.cfg = s.ctl.cfg := by simp [← forwarded]
    have tick : t.bank.tick = s.bank.tick := by simp [← forwarded]
    have copy := offerCopy_eq (s := t) (b := withoutFcs b)
    rw [cfg, vlanAdmits_withoutFcs hl] at copy
    rw [good (.inl hm), handOn_of_pass (by simpa using hm), forwarded, copy]
    refine ⟨fun on ha room => ?_, fun out => congrArg _ ?_⟩
    · rw [if_pos ⟨on, hadmitted.1 ha⟩, offerGuardPath_of_room (by rwa [path]), path, tick]
      rfl
    · split
      · rename_i copied
        obtain ⟨on, admits⟩ := copied
        have full := (out.resolve_left (by simp [on])).resolve_left (not_not.2 (hadmitted.2 admits))
        exact offerGuardPath_copy_of_full (by rwa [path])
      · rfl
  · rw [good (.inr (hadmitted.1 ha)), handOn_of_drain (by simpa using hm)]
    have behind (pending : guardPending s = true) :
        offerDrained (withoutFcs b) (bump .rxGood s) =
          offerGuardPath .drained (withoutFcs b) (bump .rxGood s) := offerDrained_of_pending pending
    refine ⟨fun pending room => congrArg _ ?_, fun pending full => congrArg _ ?_, fun free => congrArg _ ?_⟩
    · exact (behind pending).trans (offerGuardPath_of_room room)
    · exact (behind pending).trans (offerGuardPath_of_full full (by decide))
    · exact offerDrained_of_free free

end lineFrames
end Sys2Proof.Machine

namespace Sys2Proof.Machine

/-! ### PARSE_FRAME (O38) -/

section parsing
variable {s : State} {g : GuardItem} {rest : List GuardItem} {q : Parsed}

/-- The state whose parser has taken the frame at the head of the input FIFO and handed it to the classifier
(R31). -/
def State.parsedTo (s : State) (g : GuardItem) (rest : List GuardItem) (q : Parsed) : State :=
  { s with
    guardPath :=
      { s.guardPath with
        fifo := rest
        parsed := some ⟨g.bytes, g.arrival, g.path, q.fv, q.pos⟩ } }

theorem exec_parseFrame_of_free (hf : s.guardPath.fifo = g :: rest) (hp : g.path ≠ .drained)
    (free : s.guardPath.parsed = none) (hq : parseFrame (s.parseContext true) g.bytes = q) :
    exec .parseFrame s = .next (endDrain (countParse g.path q.fv.pstatus (s.parsedTo g rest q))) := by
  change execParseFrame s = _
  simp only [execParseFrame, hf, if_neg hp, free, hq]
  rfl

theorem exec_parseFrame_of_busy (hf : s.guardPath.fifo = g :: rest) (hp : g.path ≠ .drained)
    (busy : s.guardPath.parsed ≠ none) : exec .parseFrame s = .next s := by
  change execParseFrame s = _
  simp [execParseFrame, hf, hp, Option.isSome_iff_ne_none.2 busy]

theorem exec_parseFrame_of_drained (hf : s.guardPath.fifo = g :: rest) (hp : g.path = .drained) :
    exec .parseFrame s =
      if guardPending s then .next s
      else
        .next
          (endDrain
            { s with
              guardPath := { s.guardPath with fifo := rest }
              hold := { s.hold with appends := s.hold.appends ++ [⟨⟨g.bytes, g.arrival⟩, .drained⟩] } }) := by
  change execParseFrame s = _
  simp only [execParseFrame, hf, if_pos hp]
  rfl

/-- With a guard-path frame pending or a DRAIN frame waiting, DRAIN does not end (R12). -/
theorem endDrain_of_waiting (h : guardPending s = true ∨ drainedWaiting s = true) : endDrain s = s := by
  rcases endDrain_cases s with e | ⟨-, -, pending, waiting, -⟩
  · exact e
  · simp [pending, waiting] at h

theorem guardPending_countParse (p : Path) (u : PStatus) (s : State) :
    guardPending (countParse p u s) = guardPending s := by simp [guardPending]

/-- A rehearsal copy is not counted (R40). -/
theorem countParse_of_copy (u : PStatus) (s : State) : countParse .copy u s = s := rfl

/-- Settles O38, by the path of the frame at the head. -/
theorem framesAreParsed : Obligations.FramesAreParsed := by
  intro s g rest q hf hq
  refine ⟨fun free path => ?_, fun free path mode => ?_, fun path busy => exec_parseFrame_of_busy hf path busy,
    fun path settled => ?_, fun path pending => ?_⟩
  · have pending : guardPending (s.parsedTo g rest q) = true := by simp [guardPending, State.parsedTo, path]
    rw [exec_parseFrame_of_free hf (by simp [path]) free hq,
      endDrain_of_waiting (.inl (by rwa [guardPending_countParse])), State.parsedTo, path]
    cases q.fv.pstatus <;> rfl
  · rw [exec_parseFrame_of_free hf (by simp [path]) free hq, path, countParse_of_copy,
      endDrain_of_not_drain (s := s.parsedTo g rest q) mode, State.parsedTo, path]
  · rw [exec_parseFrame_of_drained hf path, settled, endDrain_of_waiting (.inr (by simp [drainedWaiting]))]
    rfl
  · rw [exec_parseFrame_of_drained hf path, if_pos pending]

end parsing
end Sys2Proof.Machine

namespace Sys2Proof.Machine

/-! ### The Ethernet header (O39) -/

section ethernet
variable {k : ParseContext} {b : Frame} {v : FieldVector} {l3 l4 stop d : Nat}

/-- The three fields of the Ethernet header (R32). -/
def FieldVector.ethernet (v : FieldVector) : DClass × Nat × L3Kind := (v.dclass, v.etype, v.l3kind)

/-! #### No later layer changes the fields of the Ethernet header -/

theorem ethernet_parseTransport : (parseTransport k b l3 l4 stop v).fv.ethernet = v.ethernet := by
  unfold parseTransport
  dsimp only
  split
  · split
    · rfl
    · split <;> rfl
  split
  · split
    · rfl
    split
    · split <;> rfl
    · rfl
  split
  · split
    · rfl
    · split <;> rfl
  · rfl

theorem ethernet_parseArp : (parseArp k b l3 v).fv.ethernet = v.ethernet := by
  unfold parseArp
  dsimp only
  split <;> rfl

theorem ethernet_parseIpv4 : (parseIpv4 k b l3 v).fv.ethernet = v.ethernet := by
  unfold parseIpv4
  dsimp only
  split
  · rfl
  split
  · rfl
  split
  · rfl
  split
  · rfl
  · exact ethernet_parseTransport

theorem ethernet_walkExtensions {more nh off : Nat} :
    (walkExtensions k b l3 stop more nh off v).fv.ethernet = v.ethernet := by
  induction more generalizing nh off v with
  | zero =>
    unfold walkExtensions
    split
    · rfl
    · exact ethernet_parseTransport
  | succ more ih =>
    unfold walkExtensions
    split
    · extract_lets len field w
      split
      · rfl
      split
      · split
        · exact ethernet_parseTransport
        · exact ih
      · exact ih
    · exact ethernet_parseTransport

theorem ethernet_parseIpv6 : (parseIpv6 k b l3 v).fv.ethernet = v.ethernet := by
  unfold parseIpv6
  dsimp only
  split
  · rfl
  split
  · rfl
  · exact ethernet_walkExtensions

/-- The field vector as the Ethernet header leaves it (R32). -/
def ethernetVector (k : ParseContext) (b : Frame) : FieldVector :=
  { FieldVector.blank with
    dclass := classOfMac k (macAt b 0)
    etype := etherType b
    l3kind := kindOfType (etherType b) }

theorem ethernet_parseFrame (k : ParseContext) (b : Frame) :
    (parseFrame k b).fv.ethernet = (classOfMac k (macAt b 0), etherType b, kindOfType (etherType b)) := by
  change _ = (ethernetVector k b).ethernet
  unfold parseFrame
  dsimp only
  split
  · exact ethernet_parseArp
  · exact ethernet_parseIpv4
  · exact ethernet_parseIpv6
  · rfl
  · split <;> rfl

/-- For L3KIND NONE and OTHER the parser stops after the Ethernet header (R32). -/
theorem parseFrame_of_noLayer (h : kindOfType (etherType b) = .none ∨ kindOfType (etherType b) = .other) :
    (parseFrame k b).fv =
      { ethernetVector k b with
        pstatus := if isTagged b = true ∧ etherType b = 0x8100 then .other else .ok } := by
  have none_ne : kindOfType (etherType b) = .none → etherType b ≠ 0x8100 := by
    intro none type
    simp [type, kindOfType] at none
  unfold parseFrame
  dsimp only
  split <;> rename_i kind
  · simp [kind] at h
  · simp [kind] at h
  · simp [kind] at h
  · simp [none_ne kind, ethernetVector, FieldVector.blank]
  · by_cases tags : isTagged b = true ∧ etherType b = 0x8100 <;> simp [tags, ethernetVector, FieldVector.blank]

/-! #### DCLASS, ETYPE and L3KIND by number -/

theorem ofNat_eq_broadcastMac (hd : d < 2 ^ 48) :
    BitVec.ofNat 48 d = Config.broadcastMac ↔ d = 0xFFFFFFFFFFFF := by
  rw [← BitVec.toNat_inj, BitVec.toNat_ofNat, Nat.mod_eq_of_lt hd]
  rfl

theorem isGroupMac_ofNat (d : Nat) : isGroupMac (BitVec.ofNat 48 d) = decide (d / 2 ^ 40 % 2 = 1) := by
  rw [isGroupMac, BitVec.getLsbD_ofNat, Nat.testBit_eq_decide_div_mod_eq]
  rfl

theorem etherType_eq (b : Frame) :
    etherType b = if beNat b 12 2 = 0x8100 then beNat b 16 2 else beNat b 12 2 := by
  simp [etherType, isTagged]

theorem classOfMac_of_own (h : k.hostMac ≠ 0 ∧ BitVec.ofNat 48 d = k.hostMac) :
    classOfMac k (BitVec.ofNat 48 d) = .own := if_pos h

/-- DCLASS by the cases of R32 in their order, after OWN. -/
theorem classOfMac_of_not_own (hd : d < 2 ^ 48) (h : ¬(k.hostMac ≠ 0 ∧ BitVec.ofNat 48 d = k.hostMac)) :
    classOfMac k (BitVec.ofNat 48 d) =
      if d = 0xFFFFFFFFFFFF then .broadcast
      else if d / 2 ^ 40 % 2 = 1 then if BitVec.ofNat 48 d ∈ k.listed then .listed else .other
      else .foreign := by
  rw [classOfMac, if_neg h, isGroupMac_ofNat]
  simp [ofNat_eq_broadcastMac hd]

theorem kindOfType_of_lt {n : Nat} (h : n < 0x0600) : kindOfType n = .none := by
  simp [kindOfType, h, show n ≠ 0x0806 by omega, show n ≠ 0x0800 by omega, show n ≠ 0x86DD by omega]

theorem kindOfType_of_other {n : Nat} (h : 0x0600 ≤ n) (arp : n ≠ 0x0806) (ipv4 : n ≠ 0x0800)
    (ipv6 : n ≠ 0x86DD) : kindOfType n = .other := by
  simp [kindOfType, arp, ipv4, ipv6, Nat.not_lt.2 h]

/-- Settles O39: the later layers leave the Ethernet header's fields, and without one the parser stops. -/
theorem ethernetHeaderIsParsed : Obligations.EthernetHeaderIsParsed := by
  rintro s b d et v rfl rfl het
  rw [← etherType_eq] at het
  subst het
  have hd : beNat b 0 6 < 2 ^ 48 := beNat_lt b 0 6
  have fields := ethernet_parseFrame (s.parseContext true) b
  simp only [FieldVector.ethernet, Prod.mk.injEq] at fields
  obtain ⟨dclass, etype, l3kind⟩ := fields
  rw [macAt] at dclass
  refine ⟨fun own => ?_, fun other => ⟨fun all => ?_, fun notAll group => ?_, fun single => ?_⟩, etype, ?_⟩
  · rw [dclass, classOfMac_of_own own]
  · rw [dclass, classOfMac_of_not_own hd other, if_pos all]
  · rw [dclass, classOfMac_of_not_own hd other, if_neg notAll, if_pos group]
    exact ⟨fun listed => if_pos listed, fun unlisted => if_neg unlisted⟩
  · have notAll : beNat b 0 6 ≠ 0xFFFFFFFFFFFF := by omega
    rw [dclass, classOfMac_of_not_own hd other, if_neg notAll, if_neg (by omega)]
  · rw [l3kind]
    refine ⟨fun arp => by rw [arp]; rfl, fun ipv4 => by rw [ipv4]; rfl, fun ipv6 => by rw [ipv6]; rfl,
      kindOfType_of_lt, kindOfType_of_other, fun stops => ?_⟩
    rw [parseFrame_of_noLayer stops]
    simp [ethernetVector, FieldVector.blank, isTagged]

end ethernet
end Sys2Proof.Machine

namespace Sys2Proof.Machine

/-! ### LINK_UP and LINK_DOWN (O34) -/

/-! #### Counters by a saturating count (R194) -/

theorem toNat_satBump {w : Nat} (c : BitVec w) : (satBump c).toNat = min (c.toNat + 1) (2 ^ w - 1) := by
  have hc := c.isLt
  unfold satBump
  split
  next full => simp [full]
  next low =>
    have below : c.toNat ≠ 2 ^ w - 1 := fun e => low (BitVec.eq_of_toNat_eq (by simpa using e))
    have one : (1#w).toNat = 1 := by
      rw [BitVec.toNat_ofNat]
      exact Nat.mod_eq_of_lt (by omega)
    rw [BitVec.toNat_add, one, Nat.mod_eq_of_lt (by omega)]
    omega

section linkLoss
variable {s t : State}

theorem counter_bump_congr {c d : Counter} (hl : t.ctl.counters.length = s.ctl.counters.length)
    (h : t.counter d = s.counter d) : (bump c t).counter d = (bump c s).counter d := by
  simp only [State.counter] at h
  simp only [State.counter, bump, State.setCtl_ctl, getD_modify, hl, h]

theorem counter_countDiscarded_of_ne {c : Counter} (h : c ≠ .replyDiscarded) (l : List Nat) (s : State) :
    (countDiscarded l s).counter c = s.counter c := by
  induction l generalizing s with
  | nil => rfl
  | cons i rest ih => exact (ih _).trans (counter_bump_of_ne h s)

/-- Each discarded slot moves REPLY_DISCARDED by one, up to its maximum (R139). -/
theorem toNat_counter_countDiscarded (hl : s.ctl.counters.length = Config.counterCount) (l : List Nat) :
    ((countDiscarded l s).counter .replyDiscarded).toNat
      = min ((s.counter .replyDiscarded).toNat + l.length) (2 ^ 32 - 1) := by
  induction l generalizing s with
  | nil =>
    have := (s.counter .replyDiscarded).isLt
    simp only [countDiscarded, List.length_nil]
    omega
  | cons i rest ih =>
    have next := ih (s := bump .replyDiscarded s) (by simpa [bump] using hl)
    rw [counter_bump_self hl, toNat_satBump] at next
    simp only [countDiscarded, next, List.length_cons]
    omega

/-! #### The transmission cut off (R138) -/

theorem cutTransmission_arb (s : State) : (cutTransmission s).arb = ⟨none, s.arb.last⟩ := by
  unfold cutTransmission
  split
  · simp
  · simp
  next h => cases hs : s.arb; simp_all

theorem counter_cutTransmission_of_ne {c : Counter} (h : c ≠ .lineTxDropped) (s : State) :
    (cutTransmission s).counter c = s.counter c := by
  unfold cutTransmission
  split
  · exact counter_bump_of_ne h _
  · rfl
  · rfl

theorem counter_cutTransmission_system {f : Frame} (h : s.arb.tx = some (.system f))
    (hl : s.ctl.counters.length = Config.counterCount) :
    (cutTransmission s).counter .lineTxDropped = satBump (s.counter .lineTxDropped) := by
  simp only [cutTransmission, h]
  exact counter_bump_self hl

theorem cutTransmission_ctl_of_no_system (h : ∀ f, s.arb.tx ≠ some (.system f)) :
    (cutTransmission s).ctl = s.ctl := by
  unfold cutTransmission
  split
  next f hf => exact absurd hf (h f)
  · rfl
  · rfl

/-! #### Slots handed on -/

theorem freeAllAndHandOn_eq_foldl (l : List Nat) (s : State) :
    freeAllAndHandOn l s = l.foldl State.handedOn s := by
  induction l generalizing s with
  | nil => rfl
  | cons i rest ih => rw [freeAllAndHandOn, ih, freeAndHandOn_eq_handedOn, List.foldl_cons]

theorem counter_handedOn_of_ne {c : Counter} (h : c ≠ .probesSent) (s : State) (i : Nat) :
    (s.handedOn i).counter c = s.counter c := by
  unfold State.handedOn
  split
  · rfl
  · exact counter_bump_of_ne h _

theorem counter_foldl_handedOn_of_ne {c : Counter} (h : c ≠ .probesSent) (l : List Nat) (s : State) :
    (l.foldl State.handedOn s).counter c = s.counter c := by
  induction l generalizing s with
  | nil => rfl
  | cons i rest ih => exact (ih _).trans (counter_handedOn_of_ne h s i)

theorem handedOn_probes (s : State) (i : Nat) : (s.handedOn i).probes = s.probes.tail := by
  unfold State.handedOn
  split
  next h => simp [h]
  next h => simp [h, State.probeBuilt, State.queued]

/-- Each slot handed on takes one session off the pending-probe list (R126). -/
theorem foldl_handedOn_probes (l : List Nat) (s : State) :
    (l.foldl State.handedOn s).probes = s.probes.drop l.length := by
  induction l generalizing s with
  | nil => rfl
  | cons i rest ih => rw [List.foldl_cons, ih, handedOn_probes, List.drop_tail, List.length_cons]

/-- With no session waiting, slots that are FREE already stay as they are. -/
theorem foldl_handedOn_of_no_probes {l : List Nat} (hp : s.probes = [])
    (free : ∀ i ∈ l, s.reply.slots.set i Slot.empty = s.reply.slots) : l.foldl State.handedOn s = s := by
  induction l with
  | nil => rfl
  | cons i rest ih =>
    have stays : s.handedOn i = s := by
      unfold State.handedOn
      split
      · rw [free i List.mem_cons_self]
      next h => simp [hp] at h
    rw [List.foldl_cons, stays]
    exact ih fun j hj => free j (List.mem_cons_of_mem _ hj)

/-- Two states agree in what handing a slot on reads and writes. -/
structure HandsAlike (s t : State) : Prop where
  reply : t.reply = s.reply
  sessions : t.sessions = s.sessions
  probes : t.probes = s.probes
  identities : t.identities = s.identities
  cfg : t.ctl.cfg = s.ctl.cfg
  elapsed : t.bank.elapsed = s.bank.elapsed
  sent : t.counter .probesSent = s.counter .probesSent
  counters : t.ctl.counters.length = s.ctl.counters.length

theorem HandsAlike.probeBuilt (h : HandsAlike s t) (slot i : Nat) :
    HandsAlike (s.probeBuilt slot i) (t.probeBuilt slot i) := by
  have session : t.session i = s.session i := by rw [State.session, h.sessions, State.session]
  have identity (k : Nat) : t.identity k = s.identity k := by
    rw [State.identity, h.identities, State.identity]
  exact
    { reply := by
        simp [State.probeBuilt, State.queued, h.reply, h.cfg, h.elapsed, session, identity]
      sessions := by simp [State.probeBuilt, h.sessions]
      probes := by simp [State.probeBuilt, State.queued, h.probes]
      identities := by simp [State.probeBuilt, State.queued, h.identities]
      cfg := by simp [State.probeBuilt, State.queued, h.cfg]
      elapsed := by simp [State.probeBuilt, State.queued, h.elapsed]
      sent := counter_bump_congr h.counters h.sent
      counters := by simp [State.probeBuilt, State.queued, bump, h.counters] }

theorem HandsAlike.handedOn (h : HandsAlike s t) (i : Nat) : HandsAlike (s.handedOn i) (t.handedOn i) := by
  unfold State.handedOn
  rw [h.probes]
  split
  · exact { h with reply := by rw [h.reply], probes := rfl }
  · refine .probeBuilt ?_ _ _
    exact { h with reply := by rw [h.reply], probes := rfl }

theorem HandsAlike.foldl_handedOn (h : HandsAlike s t) (l : List Nat) :
    HandsAlike (l.foldl State.handedOn s) (l.foldl State.handedOn t) := by
  induction l generalizing s t with
  | nil => exact h
  | cons i rest ih => exact ih (h.handedOn i)

/-! #### The answers for the line discarded (R139) -/

/-- The state without its answers for the line, before the slots are handed on. -/
def State.lineDiscarded (s : State) : State :=
  { s with
    reply :=
      { s.reply with
        slots := s.reply.slots.map fun x => if x.onLine then Slot.empty else x
        queue := [] } }

theorem discardLineReplies_eq_foldl (s : State) :
    discardLineReplies s
      = (lineSlots s).foldl State.handedOn (countDiscarded (lineSlots s) s.lineDiscarded) := by
  rw [discardLineReplies, freeAllAndHandOn_eq_foldl]
  rfl

/-- A slot for the line is FREE once the answers are discarded. -/
theorem set_lineDiscarded_slots {i : Nat} (h : (s.slot i).onLine = true) :
    s.lineDiscarded.reply.slots.set i Slot.empty = s.lineDiscarded.reply.slots := by
  refine List.ext_getElem (by simp) fun k hk hk' => ?_
  rw [List.getElem_set]
  split
  next hik =>
    subst hik
    have hi : i < s.reply.slots.length := by simpa [State.lineDiscarded] using hk'
    simp only [State.slot, List.getD_eq_getElem?_getD, List.getElem?_eq_getElem hi, Option.getD_some] at h
    simp [State.lineDiscarded, h]
  · rfl

/-! #### The timers frozen (R148) -/

theorem freezeFrom_getD (k : Nat) (l : List Timer) (i : Nat) :
    (freezeFrom k l).getD i Timer.powerOn
      = if k + i < 8 ∧ (l.getD i Timer.powerOn).state = .running then
          { l.getD i Timer.powerOn with state := .frozen }
        else l.getD i Timer.powerOn := by
  induction l generalizing k i with
  | nil => simp [freezeFrom, Timer.powerOn]
  | cons x rest ih =>
    cases i with
    | zero => simp [freezeFrom, gated]
    | succ i => simpa [freezeFrom, Nat.add_assoc, Nat.add_comm 1 i] using ih (k + 1) i

/-! #### The loss of link as a whole -/

theorem linkLost_ctl (s : State) :
    (linkLost s).ctl = (discardLineReplies (cutTransmission (s.setLinePort ⟨false, true⟩))).ctl := by
  simp [linkLost]

/-- The state at a loss of link whose answers are discarded and counted, before the slots are handed on. -/
def State.cutOff (s : State) : State :=
  let c := cutTransmission (s.setLinePort ⟨false, true⟩)
  countDiscarded (lineSlots s) c.lineDiscarded

theorem discard_cutTransmission (s : State) :
    discardLineReplies (cutTransmission (s.setLinePort ⟨false, true⟩))
      = (lineSlots s).foldl State.handedOn s.cutOff := by
  have slots : lineSlots (cutTransmission (s.setLinePort ⟨false, true⟩)) = lineSlots s := by
    simp [lineSlots, State.slot]
  rw [discardLineReplies_eq_foldl, slots]
  rfl

theorem counter_cutOff_of_ne {c : Counter} (h : c ≠ .replyDiscarded) (s : State) :
    s.cutOff.counter c = (cutTransmission (s.setLinePort ⟨false, true⟩)).counter c :=
  counter_countDiscarded_of_ne h _ _

theorem counters_length_of_rooms (h : t.rooms = s.rooms) : t.ctl.counters.length = s.ctl.counters.length := by
  simp only [State.rooms, Prod.mk.injEq] at h
  obtain ⟨_, _, _, counters⟩ := h
  exact counters

theorem cutTransmission_counters_length (s : State) :
    (cutTransmission (s.setLinePort ⟨false, true⟩)).ctl.counters.length = s.ctl.counters.length :=
  counters_length_of_rooms (by simp)

theorem cutOff_counters_length (s : State) : s.cutOff.ctl.counters.length = s.ctl.counters.length :=
  (counters_length_of_rooms (rooms_countDiscarded _ _)).trans (cutTransmission_counters_length s)

theorem cutOff_handsAlike (s : State) : HandsAlike s.lineDiscarded s.cutOff where
  reply := by simp [State.cutOff, State.lineDiscarded]
  sessions := by simp [State.cutOff, State.lineDiscarded]
  probes := by simp [State.cutOff, State.lineDiscarded]
  identities := by simp [State.cutOff, State.lineDiscarded]
  cfg := by simp [State.cutOff, State.lineDiscarded]
  elapsed := by simp [State.cutOff, State.lineDiscarded]
  sent := (counter_cutOff_of_ne (by decide) s).trans (counter_cutTransmission_of_ne (by decide) _)
  counters := cutOff_counters_length s

/-- A loss of link leaves the reply builder and the sessions as handing the discarded slots on does. -/
theorem linkLost_handsAlike (s : State) :
    HandsAlike ((lineSlots s).foldl State.handedOn s.lineDiscarded) (linkLost s) := by
  have folded := (cutOff_handsAlike s).foldl_handedOn (lineSlots s)
  rw [← discard_cutTransmission] at folded
  exact
    { reply := by simp [linkLost, ← folded.reply]
      sessions := by simp [linkLost, ← folded.sessions]
      probes := by simp [linkLost, ← folded.probes]
      identities := by simp [linkLost, ← folded.identities]
      cfg := by simp [linkLost, ← folded.cfg]
      elapsed := by simp [linkLost, ← folded.elapsed]
      sent := (counter_of_ctl (linkLost_ctl s)).trans folded.sent
      counters := by rw [linkLost_ctl, folded.counters] }

theorem linkLost_counter_of_ne {c : Counter} (h : c ≠ .probesSent) (s : State) :
    (linkLost s).counter c = s.cutOff.counter c := by
  rw [counter_of_ctl (linkLost_ctl s), discard_cutTransmission]
  exact counter_foldl_handedOn_of_ne h _ _

theorem linkLost_lineTxDropped (s : State) :
    (linkLost s).counter .lineTxDropped
      = (cutTransmission (s.setLinePort ⟨false, true⟩)).counter .lineTxDropped :=
  (linkLost_counter_of_ne (by decide) s).trans (counter_cutOff_of_ne (by decide) s)

theorem toNat_linkLost_replyDiscarded (hl : s.ctl.counters.length = Config.counterCount) :
    ((linkLost s).counter .replyDiscarded).toNat
      = min ((s.counter .replyDiscarded).toNat + (lineSlots s).length) (2 ^ 32 - 1) := by
  have discarded := toNat_counter_countDiscarded
    (s := (cutTransmission (s.setLinePort ⟨false, true⟩)).lineDiscarded)
    ((cutTransmission_counters_length s).trans hl) (lineSlots s)
  rw [linkLost_counter_of_ne (by decide)]
  refine discarded.trans ?_
  congr 3
  exact counter_cutTransmission_of_ne (c := .replyDiscarded) (by decide) _

theorem linkLost_timer (s : State) (i : Nat) :
    (linkLost s).timer i
      = if i < 8 ∧ (s.timer i).state = .running then { s.timer i with state := .frozen } else s.timer i := by
  simpa [State.timer, linkLost] using freezeFrom_getD 0 s.bank.timers i

theorem linkLost_wake (s : State) :
    (linkLost s).wake
      = { s.wake with
          requests :=
            s.wake.requests
              ++ (if (s.modeCtl.mode = .guard ∨ s.modeCtl.mode = .waking) ∧ s.ctl.cfg.linkLostCls ≠ 0 then
                  [⟨s.ctl.cfg.linkLostCls, .linkLost, 0, none, false⟩]
                else []) } := by
  simp only [linkLost, linkLostRequest, inGuard_eq_true_iff, sendRequest, State.setBank_modeCtl,
    discardLineReplies_modeCtl, cutTransmission_modeCtl, State.setLinePort_modeCtl, State.setBank_ctl,
    discardLineReplies_ctl_cfg, cutTransmission_ctl_cfg, State.setLinePort_ctl]
  by_cases asks : (s.modeCtl.mode = .guard ∨ s.modeCtl.mode = .waking) ∧ s.ctl.cfg.linkLostCls ≠ 0
  · simp [if_pos asks]
  · simp [if_neg asks]

theorem linkLost_arb (s : State) : (linkLost s).arb = ⟨none, s.arb.last⟩ := by
  simp [linkLost, cutTransmission_arb]

/-- With no session waiting the slots for the line are FREE and nothing is built. -/
theorem foldl_handedOn_lineDiscarded (hp : s.probes = []) :
    (lineSlots s).foldl State.handedOn s.lineDiscarded = s.lineDiscarded :=
  foldl_handedOn_of_no_probes hp fun _ hi => set_lineDiscarded_slots (List.mem_filter.1 hi).2

/-! #### The commands (R26, R29) -/

theorem exec_linkUp_of_down (h : s.linePort.up = false) :
    exec .linkUp s = .next
      { s with
        linePort := ⟨true, s.linePort.lost⟩
        bank := { s.bank with timers := s.bank.timers.map Timer.thaw } } := by
  simp [exec, execLinkUp, h, State.setLinePort, State.setBank]

theorem exec_linkDown_of_up (h : s.linePort.up = true) : exec (.linkDown none) s = .next (linkLost s) := by
  simp [exec, execLinkDown, h]

theorem exec_linkDown_receiving (h : s.linePort.up = true) (n : Nat) :
    exec (.linkDown (some n)) s = exec (.linkDown none) (bump (if 64 ≤ n then .rxFcs else .rxRunt) s) := by
  simp [exec, execLinkDown, h, cutCounter]

end linkLoss

/-- Settles O34: a link loss discards the slots for the line and hands each on in ascending index; cutting the
transmission and counting the discards leave alone what handing on reads and writes (`HandsAlike`). -/
theorem linkTransitions : Obligations.LinkTransitions := by
  unfold Obligations.LinkTransitions
  refine ⟨fun s down => exec_linkUp_of_down down, ?_, fun s n up => exec_linkDown_receiving up n, fun s r =>
    ⟨fun up => by simp [exec, execLinkUp, up], fun down => by simp [exec, execLinkDown, down]⟩⟩
  intro s u freed ⟨_, _, _, _, hslots, _, _, _, hcounters⟩ up hfreed hu
  have order : freed = lineSlots s := by rw [hfreed, lineSlots, hslots]; rfl
  have handed : HandsAlike u (linkLost s) := by
    rw [hu, order]
    exact linkLost_handsAlike s
  refine ⟨linkLost s, exec_linkDown_of_up up, by simp [linkLost], linkLost_arb s, handed.reply,
    handed.sessions, handed.probes, handed.sent, ?waiting, fun empty => ?noneWaits, ?discarded,
    fun f system => ?dropped, fun other => ?kept, fun c hc => ?others, by simp, by simp,
    fun i _ => linkLost_timer s i, linkLost_wake s, by simp, by simp, by simp, by simp, by simp, by simp, by simp⟩
  case waiting =>
    rw [handed.probes, hu]
    exact foldl_handedOn_probes freed _
  case noneWaits =>
    have still : u = s.lineDiscarded := by
      rw [hu, order]
      exact foldl_handedOn_lineDiscarded empty
    exact ⟨by rw [handed.reply, still]; rfl, by rw [handed.sessions, still]; rfl⟩
  case discarded =>
    rw [order]
    exact toNat_linkLost_replyDiscarded hcounters
  case dropped =>
    exact (linkLost_lineTxDropped s).trans (counter_cutTransmission_system system hcounters)
  case kept =>
    exact (linkLost_lineTxDropped s).trans (counter_of_ctl (cutTransmission_ctl_of_no_system other))
  case others =>
    obtain ⟨discarded, dropped, sent⟩ :
        c ≠ .replyDiscarded ∧ c ≠ .lineTxDropped ∧ c ≠ .probesSent := by
      simpa using hc
    calc (linkLost s).counter c
      _ = s.cutOff.counter c := linkLost_counter_of_ne sent s
      _ = (cutTransmission (s.setLinePort ⟨false, true⟩)).counter c := counter_cutOff_of_ne discarded s
      _ = s.counter c := counter_cutTransmission_of_ne dropped _

end Sys2Proof.Machine
